-- ==== Sys2Proof/Word.lean ====
section
/-!
DEFINITION. The plain types every file uses: bytes, travel positions, the numbers of lanes,
stations, eyes and classes, and `Quad`, four like things named by a number 0 to 3.
-/

namespace Sys2Proof

/-- A character or body byte of the line link (R169, R171). -/
abbrev Byte := BitVec 8

/-- A travel position: a value of the 32-bit travel counter, modulo 2^32 (R1, R4). -/
abbrev Pos := BitVec 32

/-- A lane, L0 to L3. -/
abbrev LaneNo := Fin 4

/-- A station, S0 to S3. -/
abbrev StationNo := Fin 4

/-- An eye within a lane, E0 to E3. -/
abbrev EyeNo := Fin 4

/-- An item class, 0 to 15; class 0 is FOREIGN (R20). -/
abbrev ClassNo := Fin 16

/-- Four like things: the stations, the lanes, or the eyes of one lane. -/
structure Quad (α : Type) where
  q0 : α
  q1 : α
  q2 : α
  q3 : α
deriving DecidableEq, Repr

def Quad.get {α : Type} (q : Quad α) (i : Fin 4) : α :=
  match i with
  | 0 => q.q0
  | 1 => q.q1
  | 2 => q.q2
  | 3 => q.q3

def Quad.set {α : Type} (q : Quad α) (i : Fin 4) (x : α) : Quad α :=
  match i with
  | 0 => { q with q0 := x }
  | 1 => { q with q1 := x }
  | 2 => { q with q2 := x }
  | 3 => { q with q3 := x }

/-- The same thing four times. -/
def Quad.fill {α : Type} (x : α) : Quad α := ⟨x, x, x, x⟩

def Quad.map {α β : Type} (q : Quad α) (f : α → β) : Quad β := ⟨f q.q0, f q.q1, f q.q2, f q.q3⟩

/-- The four things in the order of their numbers. -/
def Quad.toList {α : Type} (q : Quad α) : List α := [q.q0, q.q1, q.q2, q.q3]

/-- The numbers 0 to 3 in order. -/
def allFour : List (Fin 4) := [0, 1, 2, 3]

end Sys2Proof
end

