-- ==== Sys2Proof/Config.lean ====
section
/-!
DEFINITION. What the part fixes (sizes and times the spec states as constants) and the free values:
choices and inputs that the spec leaves open. A free value has no body, so nothing can be proved
of it and a statement holds for every value.
-/

namespace Sys2Proof.Config

/-- Slots of the record pool (R82). -/
def poolSlots : Nat := 96

/-- Reports the report queue holds (R181). -/
def reportSlots : Nat := 32

/-- Commands a fold queue holds (R122). -/
def foldSlots : Nat := 2

/-- The speed gate, in ms (R5). -/
def gateMs : Nat := 125

/-- The fold strobe and the gap after it, in ms (R122). -/
def strobeMs : Nat := 40
def gapMs : Nat := 10

/-- The hold of an inactive ESTOP input, in ms (R18). -/
def estopHoldMs : Nat := 100

/-- The reset interval, in ms (R183). -/
def resetMs : Nat := 20

/-- The saturation values of the gate count, an alarm count and a reject tally (R5, R161, R130). -/
def gateCountMax : Nat := 255
def alarmCountMax : Nat := 255
def tallyMax : Nat := 65535

/-- The highest tag (R83). -/
def tagMax : Nat := 65535

/-- Records and releases one travel advance can add to the pool: a foreign record at each of four
entry eyes, and a release of each of four stations. -/
def slotsOneAdvanceCanTake : Nat := 8

/-- FREE VALUE. Which of several events that fall together inside one step is taken next: the n-th
choice drawn, reduced modulo the number of events (log entry 8). -/
opaque raceChoice : Nat → Nat

/-- FREE VALUE. The level of the IRONER_RUN input, which no row of the table changes (R17; log
entry 9). -/
opaque ironerRunInput : Nat → Bool

/-- FREE VALUES. The positions of the switches, which no row of the table changes (R170; log
entry 9). -/
opaque addrSwitchInput : Nat → BitVec 4
opaque baudSwitchInput : Nat → BitVec 2

end Sys2Proof.Config
end

