-- ==== Sys2Proof/Syntax.lean ====
section
/-!
DEFINITION. The commands of the block: one constructor of `Instr` for each row of
spec/opcode_table.json, and the result codes a request is answered with (R179).
The table gives its rows no operands; they are those the rows' rules name. Requests carry their
numeric operands in the widths of R186, before any clamping or test.
-/

namespace Sys2Proof

/-- The result byte of a reply (R179). -/
inductive Result where
  | ok
  | clamped
  | badLength
  | badValue
  | state
  | busy
  | full
  | tooLate
  | unknownCode
deriving DecidableEq, Repr

/-- The operands of CLASS_SET (R21). -/
structure ClassOperands where
  cls : Byte
  lnom : BitVec 16
  tol : BitVec 16
  leadGap : BitVec 16
  trailGap : BitVec 16
  width : Byte
  fold : Byte
  target : Byte
deriving DecidableEq, Repr

/-- The operands of STATION_SET (R55). -/
structure StationOperands where
  station : Byte
  drop : BitVec 16
  openMs : BitVec 16
  dwellMs : Byte
  returnMs : BitVec 16
  mode : Byte
  hold : BitVec 16
deriving DecidableEq, Repr

/-- The operands of GEOMETRY_SET (R28). -/
structure GeometryOperands where
  lane : Byte
  pos1 : BitVec 32
  pos2 : BitVec 32
  pos3 : BitVec 32
  w0 : BitVec 16
  w1 : BitVec 16
  w2 : BitVec 16
  w3 : BitVec 16
deriving DecidableEq, Repr

/-- The operands of LINE_SET, in the order of its body (R186). -/
structure LineOperands where
  scale : Byte
  fe : Byte
  vlo : BitVec 16
  vhi : BitVec 16
  vs : BitVec 16
  tsc : Byte
  ts : Byte
  gb : BitVec 16
  mode : Byte
  attention : Byte
deriving DecidableEq, Repr

/-- The operands of PLAN_SET (R26). -/
structure PlanOperands where
  plan : Byte
  lane0 : Byte
  lane1 : Byte
  lane2 : Byte
  lane3 : Byte
deriving DecidableEq, Repr

/-- The operands of BATCH_LOAD; a fold override of 0 means absent (R41). -/
structure BatchOperands where
  station : Byte
  id : BitVec 16
  cls : Byte
  pieces : BitVec 16
  fold : Byte
deriving DecidableEq, Repr

/-- The commands: requests of the host, events of the field pins, and the ends of timed intervals. -/
inductive Instr where
  | resetPin
  | resetPinRelease
  | resetEnd
  | encPulse
  | travelAdvance
  | gateEnd
  /-- The raw input of an eye is now covered, or clear. -/
  | eyeRawChange (lane : LaneNo) (eye : EyeNo) (covered : Bool)
  | edgeAccepted (lane : LaneNo) (eye : EyeNo)
  /-- A deadline of the record named by its tag (R82). -/
  | deadlinePass (tag : BitVec 16)
  | runHoldExpiry (station : StationNo)
  | release (lane : LaneNo)
  | pedalEdge (station : StationNo)
  | openTimeExpiry (station : StationNo)
  | dwellExpiry (station : StationNo)
  | returnTimeExpiry (station : StationNo)
  | foldStrobeEnd (lane : LaneNo)
  | foldGapEnd (lane : LaneNo)
  | clearEdge (lane : LaneNo)
  | stackerTimeout (lane : LaneNo)
  | scorchTimerExpiry
  | estopActivation
  | estopInactiveEdge
  | estopDeactivation
  /-- Eleven bit times, the first in bit 0: start bit, eight data bits from the least significant,
  marker bit, stop bit (R169). -/
  | linkCharacter (bits : BitVec 11)
  | linkBreak
  | frameGapTimeout
  | replyStart
  | replyEnd
  | poll
  | reportFetch (max : Byte)
  | sheetsRead (lane start : Byte)
  | stationRead (station : Byte)
  | laneRead (lane : Byte)
  | alarmRead
  | classSet (o : ClassOperands)
  | stationSet (o : StationOperands)
  | geometrySet (o : GeometryOperands)
  | lineSet (o : LineOperands)
  | planSet (o : PlanOperands)
  | alarmSet (kind mask level : Byte)
  | batchLoad (o : BatchOperands)
  | batchCancelNext (station : Byte)
  | batchCancelCurrent (station : Byte)
  | laneCmdResume (lane : Byte)
  | laneCmdHalt (lane : Byte)
  | laneCmdPurge (lane : Byte)
  | laneCmdFlush (lane : Byte)
  /-- Addressed to the unit, or sent as a broadcast (R147, R178). -/
  | haltAll (broadcast : Bool)
  | alarmAck (kind index : Byte)
  | rejectMark (tag : BitVec 16)
  /-- Addressed to the unit, or sent as a broadcast (R178, R183). -/
  | unitReset (broadcast : Bool)
  | lineRestedHigh
deriving DecidableEq, Repr

end Sys2Proof
end

