-- ==== Sys2Proof/WellFormed.lean ====
section
/-!
DEFINITION. Which commands are well formed. Lane, station and eye numbers of field events cannot be
out of range by their type; operands of requests may hold any value, and R31 and R32 say what the
part does with one out of range. What is left to check is the shape of a character on the line.
-/

namespace Sys2Proof

/-- A character begins with its start bit, and a start bit is low (R169). -/
def startBitLow (bits : BitVec 11) : Bool := !bits.getLsbD 0

/-- A command is well formed when it is one the line or a pin can carry. -/
def Instr.wellFormed : Instr → Bool
  | .linkCharacter bits => startBitLow bits
  | _ => true

end Sys2Proof
end

