-- ==== Sys2Proof/Decode.lean ====
section
/-!
DEFINITION. Reading commands from bits. The opcode table gives none of its rows any bits, so no
word spells a row (`decodeTableWord`). What the spec does encode is the line link: a request is a
code and a body (section 11.7), a frame is a run of characters (R171) and a character is eleven
bits (R169). `parseRequest` reads a complete frame; `requestFrame` and `frameCharacters` write one.
-/

namespace Sys2Proof

/-- No row of the opcode table is given bits, so no word is a row's (log entry 22). -/
def decodeTableWord (_nbits _w : Nat) : Option Instr := none

/-! ### Big-endian values (R184) -/

def ofBytes2 (hi lo : Byte) : BitVec 16 := hi ++ lo

def ofBytes4 (b3 b2 b1 b0 : Byte) : BitVec 32 := (b3 ++ b2) ++ (b1 ++ b0)

def bytes2 (x : BitVec 16) : List Byte := [x.extractLsb' 8 8, x.extractLsb' 0 8]

def bytes4 (x : BitVec 32) : List Byte :=
  [x.extractLsb' 24 8, x.extractLsb' 16 8, x.extractLsb' 8 8, x.extractLsb' 0 8]

/-! ### Message codes (section 11.7) -/

def codePoll : Byte := 0x01
def codeReportFetch : Byte := 0x02
def codeSheetsRead : Byte := 0x03
def codeStationRead : Byte := 0x04
def codeLaneRead : Byte := 0x05
def codeAlarmRead : Byte := 0x06
def codeClassSet : Byte := 0x10
def codeStationSet : Byte := 0x11
def codeGeometrySet : Byte := 0x12
def codeLineSet : Byte := 0x13
def codePlanSet : Byte := 0x14
def codeAlarmSet : Byte := 0x15
def codeBatchLoad : Byte := 0x20
def codeBatchCancel : Byte := 0x21
def codeLaneCmd : Byte := 0x22
def codeHaltAll : Byte := 0x23
def codeAlarmAck : Byte := 0x24
def codeRejectMark : Byte := 0x25
def codeUnitReset : Byte := 0x2F

/-- The body length a code requires (R186); none for a code that is not one of section 11.7. -/
def bodyLength (code : Byte) : Option Nat :=
  if code = codePoll then some 0
  else if code = codeReportFetch then some 1
  else if code = codeSheetsRead then some 2
  else if code = codeStationRead then some 1
  else if code = codeLaneRead then some 1
  else if code = codeAlarmRead then some 0
  else if code = codeClassSet then some 12
  else if code = codeStationSet then some 11
  else if code = codeGeometrySet then some 21
  else if code = codeLineSet then some 14
  else if code = codePlanSet then some 5
  else if code = codeAlarmSet then some 3
  else if code = codeBatchLoad then some 7
  else if code = codeBatchCancel then some 2
  else if code = codeLaneCmd then some 2
  else if code = codeHaltAll then some 0
  else if code = codeAlarmAck then some 2
  else if code = codeRejectMark then some 2
  else if code = codeUnitReset then some 0
  else none

/-- What a complete frame addressed to the unit asks for: a command, or nothing but an answer. -/
inductive Parsed where
  | command (i : Instr)
  | refused (r : Result)
deriving DecidableEq, Repr

/-- BATCH_CANCEL by its slot code: CURRENT 0, NEXT 1, any other refused (R44). -/
def parseBatchCancel (station slot : Byte) : Parsed :=
  if slot = 0 then .command (.batchCancelCurrent station)
  else if slot = 1 then .command (.batchCancelNext station)
  else .refused .badValue

/-- LANE_CMD by its command code: RESUME 1, HALT 2, PURGE 3, FLUSH 4, any other refused (9.2). -/
def parseLaneCmd (lane cmd : Byte) : Parsed :=
  if cmd = 1 then .command (.laneCmdResume lane)
  else if cmd = 2 then .command (.laneCmdHalt lane)
  else if cmd = 3 then .command (.laneCmdPurge lane)
  else if cmd = 4 then .command (.laneCmdFlush lane)
  else .refused .badValue

/-- The operands of a body whose length is the one its code requires (R186). -/
def parseBody (code : Byte) (body : List Byte) : Parsed :=
  match body with
  | [] =>
    if code = codePoll then .command .poll
    else if code = codeAlarmRead then .command .alarmRead
    else if code = codeHaltAll then .command (.haltAll false)
    else .command (.unitReset false)
  | [a] =>
    if code = codeReportFetch then .command (.reportFetch a)
    else if code = codeStationRead then .command (.stationRead a)
    else .command (.laneRead a)
  | [a, b] =>
    if code = codeSheetsRead then .command (.sheetsRead a b)
    else if code = codeBatchCancel then parseBatchCancel a b
    else if code = codeLaneCmd then parseLaneCmd a b
    else if code = codeAlarmAck then .command (.alarmAck a b)
    else .command (.rejectMark (ofBytes2 a b))
  | [a, b, c] => .command (.alarmSet a b c)
  | [a, b, c, d, e] => .command (.planSet ⟨a, b, c, d, e⟩)
  | [a, b1, b0, c, d1, d0, e] =>
    .command (.batchLoad ⟨a, ofBytes2 b1 b0, c, ofBytes2 d1 d0, e⟩)
  | [a, d1, d0, o1, o0, t, r1, r0, m, h1, h0] =>
    .command (.stationSet
      ⟨a, ofBytes2 d1 d0, ofBytes2 o1 o0, t, ofBytes2 r1 r0, m, ofBytes2 h1 h0⟩)
  | [a, n1, n0, t1, t0, l1, l0, r1, r0, w, f, g] =>
    .command (.classSet
      ⟨a, ofBytes2 n1 n0, ofBytes2 t1 t0, ofBytes2 l1 l0, ofBytes2 r1 r0, w, f, g⟩)
  | [p, f, l1, l0, h1, h0, v1, v0, tc, ts, g1, g0, m, n] =>
    .command (.lineSet
      ⟨p, f, ofBytes2 l1 l0, ofBytes2 h1 h0, ofBytes2 v1 v0, tc, ts, ofBytes2 g1 g0, m, n⟩)
  | [a, p3, p2, p1, p0, q3, q2, q1, q0, r3, r2, r1, r0, u1, u0, v1, v0, x1, x0, y1, y0] =>
    .command (.geometrySet
      ⟨a, ofBytes4 p3 p2 p1 p0, ofBytes4 q3 q2 q1 q0, ofBytes4 r3 r2 r1 r0,
        ofBytes2 u1 u0, ofBytes2 v1 v0, ofBytes2 x1 x0, ofBytes2 y1 y0⟩)
  | _ => .refused .badLength

/-- The first test of R33: an unknown code, then a wrong length, then the command. -/
def parseRequest (code : Byte) (body : List Byte) : Parsed :=
  match bodyLength code with
  | none => .refused .unknownCode
  | some n => if body.length = n then parseBody code body else .refused .badLength

/-- The code and body of the frame that carries a request; none for a command that is no request. -/
def requestFrame : Instr → Option (Byte × List Byte)
  | .poll => some (codePoll, [])
  | .reportFetch max => some (codeReportFetch, [max])
  | .sheetsRead lane start => some (codeSheetsRead, [lane, start])
  | .stationRead station => some (codeStationRead, [station])
  | .laneRead lane => some (codeLaneRead, [lane])
  | .alarmRead => some (codeAlarmRead, [])
  | .classSet o => some (codeClassSet, [o.cls] ++ bytes2 o.lnom ++ bytes2 o.tol ++
      bytes2 o.leadGap ++ bytes2 o.trailGap ++ [o.width, o.fold, o.target])
  | .stationSet o => some (codeStationSet, [o.station] ++ bytes2 o.drop ++ bytes2 o.openMs ++
      [o.dwellMs] ++ bytes2 o.returnMs ++ [o.mode] ++ bytes2 o.hold)
  | .geometrySet o => some (codeGeometrySet, [o.lane] ++ bytes4 o.pos1 ++ bytes4 o.pos2 ++
      bytes4 o.pos3 ++ bytes2 o.w0 ++ bytes2 o.w1 ++ bytes2 o.w2 ++ bytes2 o.w3)
  | .lineSet o => some (codeLineSet, [o.scale, o.fe] ++ bytes2 o.vlo ++ bytes2 o.vhi ++
      bytes2 o.vs ++ [o.tsc, o.ts] ++ bytes2 o.gb ++ [o.mode, o.attention])
  | .planSet o => some (codePlanSet, [o.plan, o.lane0, o.lane1, o.lane2, o.lane3])
  | .alarmSet kind mask level => some (codeAlarmSet, [kind, mask, level])
  | .batchLoad o => some (codeBatchLoad, [o.station] ++ bytes2 o.id ++ [o.cls] ++
      bytes2 o.pieces ++ [o.fold])
  | .batchCancelNext station => some (codeBatchCancel, [station, 1])
  | .batchCancelCurrent station => some (codeBatchCancel, [station, 0])
  | .laneCmdResume lane => some (codeLaneCmd, [lane, 1])
  | .laneCmdHalt lane => some (codeLaneCmd, [lane, 2])
  | .laneCmdPurge lane => some (codeLaneCmd, [lane, 3])
  | .laneCmdFlush lane => some (codeLaneCmd, [lane, 4])
  | .haltAll false => some (codeHaltAll, [])
  | .alarmAck kind index => some (codeAlarmAck, [kind, index])
  | .rejectMark tag => some (codeRejectMark, bytes2 tag)
  | .unitReset false => some (codeUnitReset, [])
  | _ => none

/-! ### Characters and frames (R169, R171) -/

/-- The character with a marker bit and a data byte, start bit low and stop bit high. -/
def characterOf (marker : Bool) (data : Byte) : BitVec 11 :=
  1#1 ++ BitVec.ofBool marker ++ data ++ 0#1

def characterData (bits : BitVec 11) : Byte := bits.extractLsb' 1 8

def characterMarker (bits : BitVec 11) : Bool := bits.getLsbD 9

/-- A stop bit read low (R172). -/
def framingError (bits : BitVec 11) : Bool := !bits.getLsbD 10

/-- The sum that CHK brings to 0 modulo 256 (R171). -/
def byteSum (bs : List Byte) : Byte := bs.foldl (· + ·) 0

/-- LEN, CODE, body and CHK of a frame. -/
def frameBytes (code : Byte) (body : List Byte) : List Byte :=
  let len : Byte := BitVec.ofNat 8 body.length
  [len, code] ++ body ++ [0 - (len + code + byteSum body)]

/-- A frame as the line carries it: the address character, then data characters. -/
def frameCharacters (address code : Byte) (body : List Byte) : List (BitVec 11) :=
  characterOf true address :: (frameBytes code body).map (characterOf false)

end Sys2Proof
end

