-- ==== Sys2Proof/Machine/State.lean ====
section
/-!
DEFINITION. The state of the part as plain data, the reasons a step can stop, and the state right
after reset. INVENTORY.md lists every field with the rule that names it.
-/

namespace Sys2Proof.Machine

/-! ### Lane control and plans (R24, R25, R143) -/

inductive LaneState where
  | closed
  | halted
  | opened
  | draining
deriving DecidableEq, Repr

inductive PlanCode where
  | p1
  | p2
  | p4
deriving DecidableEq, Repr

inductive PlanPhase where
  | noChange
  | track
  | stack
deriving DecidableEq, Repr

/-- A lane plan and the lane each station feeds (R25). -/
structure PlanPair where
  plan : PlanCode
  map : Quad LaneNo
deriving DecidableEq, Repr

/-! ### Classes and geometry (section 2.1, section 2.3) -/

inductive Width where
  | full
  | half
  | quarter
deriving DecidableEq, Repr

structure ClassEntry where
  valid : Bool
  lnom : Nat
  tol : Nat
  leadGap : Nat
  trailGap : Nat
  width : Width
  fold : Nat
  target : Nat
deriving DecidableEq, Repr

structure Geometry where
  pos1 : Nat
  pos2 : Nat
  pos3 : Nat
  w0 : Nat
  w1 : Nat
  w2 : Nat
  w3 : Nat
deriving DecidableEq, Repr

/-! ### Line parameters: what LINE_SET writes -/

inductive ArbMode where
  | fixed
  | rotating
deriving DecidableEq, Repr

structure LineParams where
  scale : Nat
  fe : Nat
  vlo : Nat
  vhi : Nat
  vs : Nat
  tsc : Nat
  ts : Nat
  gb : Nat
  mode : ArbMode
  attention : Bool
deriving DecidableEq, Repr

/-! ### Stations (section 3.1) -/

inductive StationState where
  | noBatch
  | waiting
  | loaded
  | armed
  | opening
  | dwell
  | returning
  | finishing
deriving DecidableEq, Repr

inductive FeedMode where
  | single
  | run
deriving DecidableEq, Repr

structure Batch where
  id : Nat
  cls : ClassNo
  pieces : Nat
  remaining : Nat
  foldOverride : Option Nat
deriving DecidableEq, Repr

structure StationParams where
  drop : Nat
  openMs : Nat
  dwellMs : Nat
  returnMs : Nat
  mode : FeedMode
  hold : Nat
deriving DecidableEq, Repr

/-- A station. `timer` holds the milliseconds left of the clamp timer while it runs. Whether it holds
the grant is read from its lane. -/
structure Station where
  state : StationState
  current : Option Batch
  next : Option Batch
  outstanding : Nat
  timer : Option Nat
  holdOrigin : Pos
  params : StationParams
  openOut : Bool
  returnOut : Bool
deriving DecidableEq, Repr

/-! ### Sheet records (section 5.1) -/

inductive NextEye where
  | e0
  | e1
  | e2
  | e3
  | clear
deriving DecidableEq, Repr

inductive RejectCause where
  | short
  | long
  | double
  | foreign
  | marked
  | foldMissed
deriving DecidableEq, Repr

inductive LostCause where
  | misfeed
  | merged
  | missingE1
  | missingE2
  | missingE3
  | stuckE0
  | stuckE3
  | purged
deriving DecidableEq, Repr

inductive DoneOutcome where
  | stacked
  | rejected
  | unstacked
deriving DecidableEq, Repr

structure Record where
  tag : Nat
  lane : LaneNo
  origin : Option StationNo
  batch : Nat
  cls : ClassNo
  lnom : Nat
  tol : Nat
  trailGap : Nat
  fold : Nat
  releasePos : Option Pos
  predLe0 : Option Pos
  le0 : Option Pos
  te0 : Option Pos
  length : Option Nat
  nextEye : NextEye
  le3 : Option Pos
  cause : Option RejectCause
  folded : Bool
  deadline : Pos
  clearDeadline : Option Pos
deriving DecidableEq, Repr

/-! ### Eyes (section 1.4) -/

structure Eye where
  raw : Bool
  accepted : Bool
  pending : Option Pos
deriving DecidableEq, Repr

/-! ### Fold interface (section 7.5) -/

inductive FoldPhase where
  | idle
  | strobe
  | gap
deriving DecidableEq, Repr

structure FoldCommand where
  tag : Nat
  code : Nat
deriving DecidableEq, Repr

structure Folder where
  queue : List FoldCommand
  phase : FoldPhase
  timer : Option Nat
  strobe : Bool
  code : Nat
deriving DecidableEq, Repr

/-! ### Stacking unit (section 8.1) -/

inductive StackReason where
  | full
  | batch
  | host
  | plan
deriving DecidableEq, Repr

/-- A stack being built. -/
structure Pile where
  batch : Nat
  cls : ClassNo
  count : Nat
  target : Nat
deriving DecidableEq, Repr

/-- A stack being discharged. -/
structure Outgoing where
  batch : Nat
  cls : ClassNo
  count : Nat
  reason : StackReason
deriving DecidableEq, Repr

/-- The piece in the pocket. -/
structure PocketPiece where
  batch : Nat
  cls : ClassNo
  target : Nat
deriving DecidableEq, Repr

inductive StackState where
  | empty
  | building (pile : Pile)
  | discharging (out : Outgoing) (pocket : Option PocketPiece)
deriving DecidableEq, Repr

/-- The stacker timer, with the milliseconds left while it runs or is suspended. -/
inductive StackerTimer where
  | idle
  | running (ms : Nat)
  | suspended (ms : Nat)
  | expired
deriving DecidableEq, Repr

structure Stacker where
  state : StackState
  timer : StackerTimer
  discharge : Bool
  tally : Nat
deriving DecidableEq, Repr

/-! ### A lane: its state, eyes, arbiter, queue, fold interface and stacking unit -/

structure Lane where
  state : LaneState
  geometry : Geometry
  eyes : Quad Eye
  grant : Option StationNo
  releasePoint : Option Pos
  order : List StationNo
  queue : List Record
  folder : Folder
  stacker : Stacker
deriving DecidableEq, Repr

/-- The scorch timer, with the milliseconds left while it runs (section 9.4). -/
inductive GuardTimer where
  | idle
  | running (ms : Nat)
  | expired
deriving DecidableEq, Repr

/-! ### Alarms (section 10.1) -/

/-- The 24 alarm sources (R160). -/
inductive Source where
  | estop
  | scorch
  | wrap (lane : LaneNo)
  | jam (lane : LaneNo)
  | stray (lane : LaneNo)
  | stacker (lane : LaneNo)
  | misfeed (station : StationNo)
  | speedLow
  | speedHigh
deriving DecidableEq, Repr

/-- The nine kinds of source (R160). -/
inductive Kind where
  | estop
  | scorch
  | wrap
  | jam
  | stray
  | stacker
  | misfeed
  | speedLow
  | speedHigh
deriving DecidableEq, Repr

/-- What the alarm unit holds for one source; the cause as its code (R160, R161). -/
structure Latch where
  latched : Bool
  count : Nat
  cause : Nat
deriving DecidableEq, Repr

structure Latches where
  estop : Latch
  scorch : Latch
  wrap : Quad Latch
  jam : Quad Latch
  stray : Quad Latch
  stacker : Quad Latch
  misfeed : Quad Latch
  speedLow : Latch
  speedHigh : Latch
deriving DecidableEq, Repr

/-- Mask and level of one maskable kind (R163). -/
structure KindSetting where
  masked : Bool
  high : Bool
deriving DecidableEq, Repr

structure KindSettings where
  jam : KindSetting
  stray : KindSetting
  stacker : KindSetting
  misfeed : KindSetting
  speedLow : KindSetting
  speedHigh : KindSetting
deriving DecidableEq, Repr

structure Alarms where
  latches : Latches
  settings : KindSettings
  current : Option Source
deriving DecidableEq, Repr

/-! ### Reports and the line link (chapter 11) -/

inductive Report where
  | sheetDone (tag : Nat) (lane : LaneNo) (origin : Option StationNo) (batch : Nat) (cls : ClassNo)
      (outcome : DoneOutcome) (cause : Option RejectCause)
  | sheetLost (tag : Nat) (lane : LaneNo) (origin : Option StationNo) (batch : Nat) (cls : ClassNo)
      (lost : LostCause) (cause : Option RejectCause)
  | stackDone (lane : LaneNo) (batch : Nat) (cls : ClassNo) (count : Nat) (reason : StackReason)
  | batchEnd (station : StationNo) (batch pieces delivered : Nat) (cancelled : Bool)
  | planDone (pair : PlanPair)
deriving DecidableEq, Repr

/-- The report queue, oldest first, and its flags. `lostSince`: a report has been discarded since the
pending reply was built (R182). -/
structure Reports where
  queue : List Report
  lost : Bool
  lostSince : Bool
deriving DecidableEq, Repr

/-- The steps of RECEIVING (R171). -/
inductive RxStep where
  | len
  | code
  | body
  | chk
deriving DecidableEq, Repr

/-- The frame being collected: bytes still to come and bytes received in BODY. -/
structure RxFrame where
  broadcast : Bool
  step : RxStep
  len : Byte
  code : Byte
  left : Nat
  body : List Byte
deriving DecidableEq, Repr

inductive Receiver where
  | hunting
  | receiving (frame : RxFrame)
deriving DecidableEq, Repr

/-- A built reply (R176) and what its end clears or begins (R177, R182, R183). -/
structure Reply where
  code : Byte
  body : List Byte
  showsOverrun : Bool
  showsLost : Bool
  isFetch : Bool
  resets : Bool
  sending : Bool
deriving DecidableEq, Repr

/-- The link interface. `overrunSince`: a request has been discarded since the pending reply was
built (R177). -/
structure Link where
  receiver : Receiver
  lineRested : Bool
  address : BitVec 4
  rate : BitVec 2
  reply : Option Reply
  overrun : Bool
  overrunSince : Bool
deriving DecidableEq, Repr

/-- Levels of inputs the part reads as levels. -/
structure Inputs where
  estop : Bool
  ironerRun : Bool
  addrSwitches : BitVec 4
  baudSwitches : BitVec 2
deriving DecidableEq, Repr

/-- Where the unit stands in a reset (R183). -/
inductive ResetPhase where
  | running
  | held
  | interval (ms : Nat)
deriving DecidableEq, Repr

/-! ### The whole state -/

structure State where
  travel : Pos
  residual : Nat
  gateCount : Nat
  speed : Nat
  emptyGate : Bool
  gateLeft : Nat
  params : LineParams
  classes : Vector ClassEntry 16
  planNow : PlanPair
  planNext : Option PlanPair
  phase : PlanPhase
  stations : Quad Station
  lanes : Quad Lane
  tagCounter : Nat
  scorch : GuardTimer
  rollLift : Bool
  lineHold : Bool
  attn : Bool
  estop : Bool
  estopHold : Option Nat
  inputs : Inputs
  alarms : Alarms
  reports : Reports
  link : Link
  resetPhase : ResetPhase
  /-- The model's own: how many free values have been drawn (log entry 8). -/
  freeDraws : Nat
  /-- The commands that wait, the next one first. -/
  pending : List Instr
deriving DecidableEq, Repr

/-- Reasons to stop with a fault: none. What the spec calls faults are alarm occurrences, effects on
the state, after which the part goes on. -/
inductive Fault
deriving DecidableEq, Repr

/-- Reasons to refuse a command. -/
inductive Refusal where
  /-- Raised by an arm of exec whose command has no meaning yet; none is left. Safe: it only stops. -/
  | notModelled (mnemonic : String)
deriving DecidableEq, Repr

/-! ### Reset values -/

/-- An unwritten class entry (R19). -/
def ClassEntry.unwritten : ClassEntry :=
  { valid := false, lnom := 200, tol := 0, leadGap := 0, trailGap := 0, width := .full, fold := 1,
    target := 1 }

/-- An unconfigured lane's geometry (R27). -/
def Geometry.unconfigured : Geometry :=
  { pos1 := 0, pos2 := 0, pos3 := 0, w0 := 100, w1 := 100, w2 := 100, w3 := 100 }

/-- R3, R10, R16, R58, R129, R154, R162. -/
def LineParams.atReset : LineParams :=
  { scale := 4, fe := 0, vlo := 0, vhi := 2040, vs := 100, tsc := 8, ts := 20, gb := 1000,
    mode := .fixed, attention := false }

/-- R35. -/
def Station.atReset : Station :=
  { state := .noBatch, current := none, next := none, outstanding := 0, timer := none,
    holdOrigin := 0,
    params := { drop := 1500, openMs := 300, dwellMs := 50, returnMs := 800, mode := .single,
                hold := 2000 },
    openOut := false, returnOut := false }

/-- An eye whose accepted state is its raw input, with no pending change (R12). -/
def Eye.settled (raw : Bool) : Eye := { raw := raw, accepted := raw, pending := none }

/-- R122. -/
def Folder.atReset : Folder :=
  { queue := [], phase := .idle, timer := none, strobe := false, code := 0 }

/-- R129. -/
def Stacker.atReset : Stacker :=
  { state := .empty, timer := .idle, discharge := false, tally := 0 }

/-- R27, R58, R84, R143: a lane with a state, an order list and the raw inputs of its eyes. -/
def Lane.atReset (state : LaneState) (order : List StationNo) (raw : Quad Bool) : Lane :=
  { state := state, geometry := .unconfigured, eyes := raw.map Eye.settled, grant := none,
    releasePoint := none, order := order, queue := [], folder := .atReset, stacker := .atReset }

def Latch.clear : Latch := { latched := false, count := 0, cause := 0 }

/-- R162. -/
def Alarms.atReset : Alarms :=
  { latches :=
      { estop := .clear, scorch := .clear, wrap := .fill .clear, jam := .fill .clear,
        stray := .fill .clear, stacker := .fill .clear, misfeed := .fill .clear,
        speedLow := .clear, speedHigh := .clear },
    settings :=
      { jam := ⟨false, true⟩, stray := ⟨false, true⟩, stacker := ⟨false, true⟩,
        misfeed := ⟨false, false⟩, speedLow := ⟨false, false⟩, speedHigh := ⟨false, false⟩ },
    current := none }

/-- R181. -/
def Reports.atReset : Reports := { queue := [], lost := false, lostSince := false }

/-- R172, R177, R183: HUNTING, no frame, no reply, and a line that has not rested yet. -/
def Link.atReset (address : BitVec 4) (rate : BitVec 2) : Link :=
  { receiver := .hunting, lineRested := false, address := address, rate := rate, reply := none,
    overrun := false, overrunSince := false }

/-- Every block at its reset values, with the raw levels of the eyes, the other input levels and the
address and rate given. -/
def State.blocksAtReset (raw : Quad (Quad Bool)) (inputs : Inputs) (address : BitVec 4)
    (rate : BitVec 2) (phase : ResetPhase) : State :=
  { travel := 0, residual := 0, gateCount := 0, speed := 0, emptyGate := true,
    gateLeft := Config.gateMs,
    params := .atReset,
    classes := Vector.replicate 16 .unwritten,
    planNow := { plan := .p1, map := .fill 0 }, planNext := none, phase := .noChange,
    stations := .fill .atReset,
    lanes :=
      { q0 := .atReset .halted [0, 1, 2, 3] raw.q0,
        q1 := .atReset .closed [] raw.q1,
        q2 := .atReset .closed [] raw.q2,
        q3 := .atReset .closed [] raw.q3 },
    tagCounter := 1,
    scorch := .idle, rollLift := false, lineHold := false, attn := false,
    estop := false, estopHold := none, inputs := inputs,
    alarms := .atReset, reports := .atReset, link := .atReset address rate,
    resetPhase := phase, freeDraws := 0, pending := [] }

/-- The inputs the model takes at reset (DESIGN CHOICE; log entries 1 and 2). -/
def Inputs.atReset : Inputs :=
  { estop := false, ironerRun := false, addrSwitches := 1, baudSwitches := 0 }

/-- The part right after reset: the reset interval has just ended, every block holds the values its
chapter gives, the eyes are clear and the switches give address 1 (log entries 1 and 2). -/
def State.reset : State :=
  State.blocksAtReset (.fill (.fill false)) .atReset 1 0 .running

end Sys2Proof.Machine
end

