-- ==== Sys2Proof/Machine/Ops.lean ====
section
/-!
DEFINITION. The shared operations over state: position arithmetic (R4), reading and writing lanes,
stations and records, the free order of events that fall together, offers to the report queue
(R181), the ATTN output (R168), and an alarm occurrence with its lane effect (R146, R161, R164).
-/

namespace Sys2Proof.Machine

/-! ### Positions (R4) -/

/-- A distance added to a position, modulo 2^32. -/
def posAdd (p : Pos) (d : Nat) : Pos := p + BitVec.ofNat 32 d

/-- "a is at or past b": the difference modulo 2^32, read signed, is zero or greater. -/
def atOrPast (a b : Pos) : Bool := !(a - b).msb

/-- "x lies within e ± w": the difference, read signed, lies in −w..w. -/
def withinWindow (x e : Pos) (w : Nat) : Bool :=
  decide (-(w : Int) ≤ (x - e).toInt ∧ (x - e).toInt ≤ (w : Int))

/-! ### Reading and writing lanes, stations and eyes -/

def State.lane (s : State) (l : LaneNo) : Lane := s.lanes.get l

def State.setLane (s : State) (l : LaneNo) (x : Lane) : State := { s with lanes := s.lanes.set l x }

def State.modLane (s : State) (l : LaneNo) (f : Lane → Lane) : State := s.setLane l (f (s.lane l))

def State.station (s : State) (st : StationNo) : Station := s.stations.get st

def State.setStation (s : State) (st : StationNo) (x : Station) : State :=
  { s with stations := s.stations.set st x }

def State.modStation (s : State) (st : StationNo) (f : Station → Station) : State :=
  s.setStation st (f (s.station st))

def State.eye (s : State) (l : LaneNo) (k : EyeNo) : Eye := (s.lane l).eyes.get k

def State.setEye (s : State) (l : LaneNo) (k : EyeNo) (e : Eye) : State :=
  s.modLane l fun ln => { ln with eyes := ln.eyes.set k e }

/-- The lane a station is mapped to by the map in force (R25). -/
def State.laneOf (s : State) (st : StationNo) : LaneNo := s.planNow.map.get st

/-- Whether a station holds its lane's grant (R58). -/
def State.holdsGrant (s : State) (st : StationNo) : Bool :=
  decide ((s.lane (s.laneOf st)).grant = some st)

/-! ### The record pool (R82) -/

def State.queue (s : State) (l : LaneNo) : List Record := (s.lane l).queue

def State.setQueue (s : State) (l : LaneNo) (q : List Record) : State :=
  s.modLane l fun ln => { ln with queue := q }

/-- Every record in the pool, lane by lane. -/
def State.records (s : State) : List Record :=
  s.queue 0 ++ s.queue 1 ++ s.queue 2 ++ s.queue 3

/-- The slots taken (R82). -/
def State.poolCount (s : State) : Nat := s.records.length

/-- Whether the pool has a free slot (R72). -/
def State.hasSlot (s : State) : Bool := decide (s.poolCount < Config.poolSlots)

/-- The record of a lane with a tag. -/
def State.findRecord (s : State) (l : LaneNo) (tag : Nat) : Option Record :=
  (s.queue l).find? fun r => decide (r.tag = tag)

/-- Change the record of a lane with a tag, in its place. -/
def State.modRecord (s : State) (l : LaneNo) (tag : Nat) (f : Record → Record) : State :=
  s.setQueue l ((s.queue l).map fun r => if r.tag = tag then f r else r)

/-- The record on E0 of a lane: LE0 known and TE0 absent (R86). -/
def State.recordOnE0 (s : State) (l : LaneNo) : Option Record :=
  (s.queue l).find? fun r => r.le0.isSome && r.te0.isNone

/-- The record nearest the head whose next eye is the one given (R96, R113, R119). -/
def State.candidate (s : State) (l : LaneNo) (eye : NextEye) : Option Record :=
  (s.queue l).find? fun r => decide (r.nextEye = eye)

/-- The youngest record of a lane, at the tail of its queue (R66). -/
def State.youngest (s : State) (l : LaneNo) : Option Record := (s.queue l).getLast?

/-- The first cause given stands (R81). -/
def Record.giveCause (c : RejectCause) (r : Record) : Record :=
  match r.cause with
  | none => { r with cause := some c }
  | some _ => r

/-! ### Events that fall together: a free order (log entry 8) -/

/-- The place, among n, of the event taken next. With fewer than two there is nothing to choose and
no free value is drawn. -/
def State.draw (s : State) (n : Nat) : Nat × State :=
  if n < 2 then (0, s)
  else (Config.raceChoice s.freeDraws % n, { s with freeDraws := s.freeDraws + 1 })

/-- Take the tasks one at a time, each time one of those `enabled` among the tasks left, which one by
a free choice; at most `fuel` of them. -/
def runFreely {τ : Type} [DecidableEq τ] (enabled : List τ → List τ) (run : τ → State → State) :
    Nat → List τ → State → State
  | 0, _, s => s
  | fuel + 1, tasks, s =>
    match s.draw (enabled tasks).length with
    | (i, s') =>
      match (enabled tasks)[i]? with
      | none => s'
      | some t => runFreely enabled run fuel (tasks.erase t) (run t s')

/-- Take all the tasks, in a free order. -/
def inFreeOrder {τ : Type} [DecidableEq τ] (run : τ → State → State) (tasks : List τ) (s : State) :
    State :=
  runFreely id run tasks.length tasks s

/-- Do something for each thing of a list, in order. -/
def forEach {τ : Type} (run : τ → State → State) (tasks : List τ) (s : State) : State :=
  tasks.foldl (fun s t => run t s) s

/-! ### ATTN and the report queue -/

/-- ATTN follows, as a level, the current source and, with report attention on, the report queue
(R168). -/
def State.refreshAttn (s : State) : State :=
  { s with attn := s.alarms.current.isSome || (s.params.attention && !s.reports.queue.isEmpty) }

/-- A report is offered: it joins as the newest, or is discarded and the flag is set (R181). -/
def State.offer (s : State) (r : Report) : State :=
  (if s.reports.queue.length < Config.reportSlots then
    { s with reports := { s.reports with queue := s.reports.queue ++ [r] } }
  else
    { s with reports := { s.reports with lost := true, lostSince := true } }).refreshAttn

/-! ### Alarm sources (section 10.1) -/

def Source.kind : Source → Kind
  | .estop => .estop
  | .scorch => .scorch
  | .wrap _ => .wrap
  | .jam _ => .jam
  | .stray _ => .stray
  | .stacker _ => .stacker
  | .misfeed _ => .misfeed
  | .speedLow => .speedLow
  | .speedHigh => .speedHigh

/-- All sources in default order (R160). -/
def allSources : List Source :=
  [.estop, .scorch] ++ allFour.map .wrap ++ allFour.map .jam ++ allFour.map .stray ++
    allFour.map .stacker ++ allFour.map .misfeed ++ [.speedLow, .speedHigh]

def Latches.get (m : Latches) : Source → Latch
  | .estop => m.estop
  | .scorch => m.scorch
  | .wrap l => m.wrap.get l
  | .jam l => m.jam.get l
  | .stray l => m.stray.get l
  | .stacker l => m.stacker.get l
  | .misfeed st => m.misfeed.get st
  | .speedLow => m.speedLow
  | .speedHigh => m.speedHigh

def Latches.set (m : Latches) (src : Source) (x : Latch) : Latches :=
  match src with
  | .estop => { m with estop := x }
  | .scorch => { m with scorch := x }
  | .wrap l => { m with wrap := m.wrap.set l x }
  | .jam l => { m with jam := m.jam.set l x }
  | .stray l => { m with stray := m.stray.set l x }
  | .stacker l => { m with stacker := m.stacker.set l x }
  | .misfeed st => { m with misfeed := m.misfeed.set st x }
  | .speedLow => { m with speedLow := x }
  | .speedHigh => { m with speedHigh := x }

/-- Whether a source is latched. -/
def State.isLatched (s : State) (src : Source) : Bool := (s.alarms.latches.get src).latched

/-- Mask and level of a kind; none for ESTOP, SCORCH and WRAP, which are not maskable (R160). -/
def KindSettings.get (m : KindSettings) : Kind → Option KindSetting
  | .estop => none
  | .scorch => none
  | .wrap => none
  | .jam => some m.jam
  | .stray => some m.stray
  | .stacker => some m.stacker
  | .misfeed => some m.misfeed
  | .speedLow => some m.speedLow
  | .speedHigh => some m.speedHigh

/-- Write mask and level of a kind; a kind that is not maskable has none to write (R163). -/
def KindSettings.set (m : KindSettings) (k : Kind) (x : KindSetting) : KindSettings :=
  match k with
  | .estop => m
  | .scorch => m
  | .wrap => m
  | .jam => { m with jam := x }
  | .stray => { m with stray := x }
  | .stacker => { m with stacker := x }
  | .misfeed => { m with misfeed := x }
  | .speedLow => { m with speedLow := x }
  | .speedHigh => { m with speedHigh := x }

/-! ### The current alarm (R163, R164) -/

/-- Presentable: latched, and of a kind that is not maskable or is UNMASKED (R163). -/
def Alarms.presentable (a : Alarms) (src : Source) : Bool :=
  (a.latches.get src).latched &&
    match a.settings.get src.kind with
    | none => true
    | some k => !k.masked

/-- The rank of a source's kind as it now stands (R163). -/
def Alarms.rank (a : Alarms) (src : Source) : Nat :=
  match a.settings.get src.kind with
  | none => 2
  | some k => if k.high then 1 else 0

/-- The first presentable source of a rank, in default order. -/
def Alarms.firstOfRank (a : Alarms) (n : Nat) : Option Source :=
  allSources.find? fun src => a.presentable src && decide (a.rank src = n)

/-- The presentable source of highest rank, ties broken by default order (R164). -/
def Alarms.highest (a : Alarms) : Option Source :=
  match a.firstOfRank 2, a.firstOfRank 1, a.firstOfRank 0 with
  | some src, _, _ => some src
  | none, some src, _ => some src
  | none, none, found => found

/-- Whether the current source stays: it is presentable and no presentable source has a strictly
higher rank (R164). -/
def Alarms.currentStays (a : Alarms) (src : Source) : Bool :=
  a.presentable src &&
    allSources.all fun other => !(a.presentable other) || decide (a.rank other ≤ a.rank src)

/-- The current-alarm rule (R164). -/
def Alarms.applyRule (a : Alarms) : Alarms :=
  match a.current with
  | some src => if a.currentStays src then a else { a with current := a.highest }
  | none => { a with current := a.highest }

/-- The current-alarm rule, and ATTN with it (R164, R168). -/
def State.applyAlarmRule (s : State) : State :=
  { s with alarms := s.alarms.applyRule }.refreshAttn

/-! ### A lane leaving OPEN (R52, R144) -/

/-- The station with the grant, back to LOADED if it was ARMED (R52). -/
def Station.disarm (x : Station) : Station :=
  if x.state = .armed then { x with state := .loaded } else x

/-- A lane that is OPEN leaves OPEN: its arbiter takes back the grant, an ARMED station of the lane
returns to LOADED and the release point is dropped. Any other lane keeps its state. -/
def State.leaveOpen (s : State) (l : LaneNo) (after : LaneState) : State :=
  if (s.lane l).state = .opened then
    (match (s.lane l).grant with
      | some st => s.modStation st Station.disarm
      | none => s).modLane l fun ln =>
        { ln with state := after, grant := none, releasePoint := none }
  else s

/-- A lane is halted (R144). -/
def State.haltLane (s : State) (l : LaneNo) : State := s.leaveOpen l .halted

/-- Every OPEN lane is halted (R147, R158). -/
def State.haltEvery (s : State) : State := forEach (fun l s => s.haltLane l) allFour s

/-- The lanes an occurrence of a source halts (R146). -/
def State.haltFor (s : State) : Source → State
  | .estop => s.haltEvery
  | .scorch => s.haltEvery
  | .wrap l => s.haltLane l
  | .jam l => s.haltLane l
  | .stray l => s.haltLane l
  | .stacker l => s.haltLane l
  | .misfeed _ => s
  | .speedLow => s
  | .speedHigh => s

/-! ### An alarm occurrence -/

/-- The latch at an occurrence: set with count 1, or its count raised up to 255; the cause is that of
the occurrence (R161). -/
def Latch.occur (x : Latch) (cause : Nat) : Latch :=
  if x.latched then
    { latched := true, count := min (x.count + 1) Config.alarmCountMax, cause := cause }
  else { latched := true, count := 1, cause := cause }

/-- LINE_HOLD and ROLL_LIFT at an occurrence: asserted by WRAP and by SCORCH (R156, R157). -/
def State.assertLines (s : State) (src : Source) : State :=
  match src.kind with
  | .wrap => { s with lineHold := true }
  | .scorch => { s with rollLift := true }
  | _ => s

/-- An occurrence of a source with a cause: the latch, the line outputs, the lanes halted, and the
current-alarm rule as the last step (R146, R161, R164). -/
def State.occur (s : State) (src : Source) (cause : Nat) : State :=
  ((({ s with alarms :=
        { s.alarms with latches :=
            s.alarms.latches.set src ((s.alarms.latches.get src).occur cause) } }).assertLines
    src).haltFor src).applyAlarmRule

/-! ### Cause codes: within a kind, from 1 in the order of the table (R160) -/

def causeActivated : Nat := 1
def causeExpired : Nat := 1
def causeWrapMissingE1 : Nat := 1
def causeJamMissingE2 : Nat := 1
def causeJamMissingE3 : Nat := 2
def causeJamStuckE0 : Nat := 3
def causeJamStuckE3 : Nat := 4
def causeJamFoldOver : Nat := 5
def causeStrayPoolFull : Nat := 1
def causeStrayUnmatched (k : EyeNo) : Nat := k.val + 1
def causeStackerOverrun : Nat := 1
def causeStackerTimeout : Nat := 2
def causeNoEntry : Nat := 1
def causeFellBelow : Nat := 1
def causeRoseAbove : Nat := 1

end Sys2Proof.Machine
end

