-- ==== Sys2Proof/Machine/Pool.lean ====
section
/-!
DEFINITION. The sheet record pool (chapter 5): class values, tags, the making of a record, its
place in the lane queue and its deadlines.
-/

namespace Sys2Proof.Machine

/-! ### Class values (section 2.1) -/

/-- Entry 0, FOREIGN: fixed, never written (R20). It has no lead gap, width or target; nothing reads
those fields of it. -/
def foreignClass : ClassEntry :=
  { valid := false, lnom := 6000, tol := 0, leadGap := 0, trailGap := 0, width := .full, fold := 0,
    target := 1 }

/-- The class entry with a number; entry 0 is hard-wired (R20). -/
def State.classEntry (s : State) (c : ClassNo) : ClassEntry :=
  if c = 0 then foreignClass else s.classes[c]

/-! ### Tags (R83) -/

/-- The value after a tag, from 65,535 to 1. -/
def tagAfter (t : Nat) : Nat := if t ≥ Config.tagMax then 1 else t + 1

/-- Whether a record in the pool holds a tag. -/
def State.tagHeld (s : State) (t : Nat) : Bool := s.records.any fun r => decide (r.tag = t)

/-- The first value held by no record, from a value on; at most `fuel` values are passed over. -/
def State.freeTagFrom (s : State) : Nat → Nat → Nat
  | 0, t => t
  | fuel + 1, t => if s.tagHeld t then s.freeTagFrom fuel (tagAfter t) else t

/-- The tag of the next record created. At most 95 records are in the pool when one is (R83). -/
def State.newTag (s : State) : Nat := s.freeTagFrom Config.poolSlots s.tagCounter

/-! ### Deadlines (R88) -/

def Geometry.pos (g : Geometry) : NextEye → Nat
  | .e0 => 0
  | .e1 => g.pos1
  | .e2 => g.pos2
  | .e3 => g.pos3
  | .clear => g.pos3

def Geometry.window (g : Geometry) : NextEye → Nat
  | .e0 => g.w0
  | .e1 => g.w1
  | .e2 => g.w2
  | .e3 => g.w3
  | .clear => g.w3

/-- Next-eye deadline at E0: predicted LE0 + W0 + Fe. -/
def State.entryDeadline (s : State) (l : LaneNo) (pred : Pos) : Pos :=
  posAdd pred ((s.lane l).geometry.w0 + s.params.fe)

/-- Next-eye deadline at Ek, k = 1..3: LE0 + posk + Wk + Fe. -/
def State.eyeDeadline (s : State) (l : LaneNo) (eye : NextEye) (le0 : Pos) : Pos :=
  posAdd le0 ((s.lane l).geometry.pos eye + (s.lane l).geometry.window eye + s.params.fe)

/-- CLEAR deadline: LE3 + (the length if TE0 is known, else Lnom + tol) + W3 + Fe. -/
def State.stackDeadline (s : State) (l : LaneNo) (r : Record) (le3 : Pos) : Pos :=
  posAdd le3 ((match r.length with
    | some n => n
    | none => r.lnom + r.tol) + (s.lane l).geometry.w3 + s.params.fe)

/-- Entry-clear deadline: LE0 + 2 × Lnom + Fe. -/
def State.entryClearDeadline (s : State) (lnom : Nat) (le0 : Pos) : Pos :=
  posAdd le0 (2 * lnom + s.params.fe)

/-! ### Making a record -/

/-- The record of a release (R74, R79). -/
def State.releasedRecord (s : State) (l : LaneNo) (st : StationNo) (b : Batch) (pred : Pos) : Record :=
  { tag := s.newTag, lane := l, origin := some st, batch := b.id, cls := b.cls,
    lnom := (s.classEntry b.cls).lnom, tol := (s.classEntry b.cls).tol,
    trailGap := (s.classEntry b.cls).trailGap,
    fold := match b.foldOverride with
      | some f => f
      | none => (s.classEntry b.cls).fold,
    releasePos := some s.travel, predLe0 := some pred, le0 := none, te0 := none, length := none,
    nextEye := .e0, le3 := none, cause := none, folded := false,
    deadline := s.entryDeadline l pred, clearDeadline := none }

/-- The foreign record of a leading edge at E0 (R80, R99). -/
def State.foreignRecord (s : State) (l : LaneNo) (x : Pos) : Record :=
  { tag := s.newTag, lane := l, origin := none, batch := 0, cls := 0,
    lnom := (s.classEntry 0).lnom, tol := (s.classEntry 0).tol,
    trailGap := (s.classEntry 0).trailGap, fold := (s.classEntry 0).fold,
    releasePos := none, predLe0 := none, le0 := some x, te0 := none, length := none,
    nextEye := .e1, le3 := none, cause := some .foreign, folded := false,
    deadline := s.eyeDeadline l .e1 x,
    clearDeadline := some (s.entryClearDeadline (s.classEntry 0).lnom x) }

/-- The counter goes to the value after the new record's tag (R83). -/
def State.countTag (s : State) (r : Record) : State := { s with tagCounter := tagAfter r.tag }

/-- A released record joins at the tail (R85). -/
def State.joinTail (s : State) (l : LaneNo) (r : Record) : State :=
  (s.setQueue l (s.queue l ++ [r])).countTag r

/-- A queue with a record put just ahead of the first whose next eye is E0, or at the tail. -/
def insertForeign (r : Record) : List Record → List Record
  | [] => [r]
  | x :: rest => if x.nextEye = .e0 then r :: x :: rest else x :: insertForeign r rest

/-- A foreign record joins ahead of the first record still waiting for E0 (R85). -/
def State.joinForeign (s : State) (l : LaneNo) (r : Record) : State :=
  (s.setQueue l (insertForeign r (s.queue l))).countTag r

/-- A record leaves its queue from its place; the others keep their order (R85, R91). -/
def State.dropRecord (s : State) (l : LaneNo) (tag : Nat) : State :=
  s.setQueue l ((s.queue l).eraseP fun r => decide (r.tag = tag))

end Sys2Proof.Machine
end

