-- ==== Sys2Proof/Machine/Admission.lean ====
section
/-!
DEFINITION. The lane arbiters (chapter 4): the release point and its working, the release test, the
release, and the decision that gives the grant.
-/

namespace Sys2Proof.Machine

/-! ### The release point (section 4.3) -/

/-- The lead: floor((F × To + 500) / 1,000) (R65). -/
def State.lead (s : State) (st : StationNo) : Nat :=
  (s.speed * (s.station st).params.openMs + 500) / 1000

/-- The trailing-edge position taken for a record (R66). -/
def Record.trailingEdge (r : Record) : Pos :=
  match r.te0, r.le0, r.predLe0 with
  | some te, _, _ => te
  | none, some le, _ => posAdd le (r.lnom + r.tol)
  | none, none, some pred => posAdd pred (r.lnom + r.tol)
  | none, none, none => posAdd 0 (r.lnom + r.tol)

/-- The required gap between a youngest record and a piece of a batch (R67). -/
def State.requiredGap (s : State) (y : Record) (b : Batch) : Nat :=
  max y.trailGap (s.classEntry b.cls).leadGap + if b.id = y.batch then 0 else s.params.gb

/-- R = TEy + G − D − lead modulo 2^32, or absent with an empty queue (R69). -/
def State.workedPoint (s : State) (l : LaneNo) (st : StationNo) : Option Pos :=
  match s.youngest l, (s.station st).current with
  | some y, some b =>
    some (posAdd y.trailingEdge (s.requiredGap y b) -
      BitVec.ofNat 32 ((s.station st).params.drop + s.lead st))
  | _, _ => none

/-- The ARMED station of an OPEN lane: the holder of its grant, in ARMED (R58). -/
def State.armedStation (s : State) (l : LaneNo) : Option StationNo :=
  match (s.lane l).state, (s.lane l).grant with
  | .opened, some st => if (s.station st).state = .armed then some st else none
  | _, _ => none

/-- Whether the release point of a lane is absent or reached (R72). -/
def State.pointReached (s : State) (l : LaneNo) : Bool :=
  match (s.lane l).releasePoint with
  | none => true
  | some p => atOrPast s.travel p

/-- The release test: the point reached, and a free slot (R72). -/
def State.testMet (s : State) (l : LaneNo) : Bool := s.pointReached l && s.hasSlot

/-! ### The release (R37, R74, R75) -/

/-- A station moved to the end of an order list (R59). -/
def moveToEnd (st : StationNo) (order : List StationNo) : List StationNo :=
  if st ∈ order then order.erase st ++ [st] else order

/-- The station's part of a release: counts, OPEN_s, the clamp timer for To, the hold origin (R37). -/
def Station.release (x : Station) (b : Batch) (travel : Pos) : Station :=
  { x with state := .opening,
           current := some { b with remaining := b.remaining - 1 },
           outstanding := x.outstanding + 1,
           timer := some x.params.openMs,
           holdOrigin := travel,
           openOut := true }

/-- The lane's part: the point dropped, the grant back in SINGLE mode, the order list in ROTATING
mode (R37, R58, R59, R75). -/
def Lane.afterRelease (ln : Lane) (st : StationNo) (feed : FeedMode) (mode : ArbMode) : Lane :=
  { ln with releasePoint := none,
            grant := match feed with
              | .single => none
              | .run => ln.grant,
            order := match mode with
              | .rotating => moveToEnd st ln.order
              | .fixed => ln.order }

/-- The predicted LE0 of a release now: travel + D + lead (R74). -/
def State.predictedEntry (s : State) (st : StationNo) : Pos :=
  posAdd s.travel ((s.station st).params.drop + s.lead st)

/-- The release step of a station with a batch: its record joins the tail of the lane's queue, with
the station's and the lane's part (R74). -/
def State.releaseOf (s : State) (l : LaneNo) (st : StationNo) (b : Batch) : State :=
  ((s.joinTail l (s.releasedRecord l st b (s.predictedEntry st))).setStation st
    ((s.station st).release b s.travel)).modLane l fun ln =>
      ln.afterRelease st (s.station st).params.mode s.params.mode

/-- The release step of the station that holds the grant. -/
def State.releaseStep (s : State) (l : LaneNo) (st : StationNo) : State :=
  match (s.station st).current with
  | some b => s.releaseOf l st b
  | none => s

/-! ### The decision (R60, R61) -/

/-- The stations mapped to a lane that are LOADED (R61). -/
def State.isCandidate (s : State) (l : LaneNo) (st : StationNo) : Bool :=
  decide (s.laneOf st = l) && decide ((s.station st).state = .loaded)

/-- The station a decision grants: the lowest number in FIXED mode, the earliest in the order list in
ROTATING mode; none with the grant held or the lane not OPEN (R60, R61). -/
def State.decided (s : State) (l : LaneNo) : Option StationNo :=
  if (s.lane l).state = .opened ∧ (s.lane l).grant = none then
    (match s.params.mode with
      | .fixed => allFour
      | .rotating => (s.lane l).order).find? fun st => s.isCandidate l st
  else none

/-- The grant given: the station goes from LOADED to ARMED (R61). -/
def State.grantTo (s : State) (l : LaneNo) (st : StationNo) : State :=
  (s.modLane l fun ln => { ln with grant := some st }).modStation st fun x =>
    { x with state := .armed }

/-- The release point worked out for an ARMED station (R69). -/
def State.workPoint (s : State) (l : LaneNo) (st : StationNo) : State :=
  s.modLane l fun ln => { ln with releasePoint := s.workedPoint l st }

/-- The release test of an ARMED station, and its release if the test is met (R72). -/
def State.releaseIfMet (s : State) (l : LaneNo) (st : StationNo) : State :=
  if s.testMet l then s.releaseStep l st else s

/-- A working, with the release test made at it (R70, R72). -/
def State.workAndTest (s : State) (l : LaneNo) (st : StationNo) : State :=
  (s.workPoint l st).releaseIfMet l st

/-- Decisions one after another. A decision may release at once and, in SINGLE mode, bring the next
decision (R61, R75); each uses up a LOADED station, so `fuel` 4 is enough.

DEDUCED, the model's reading (log entry 26): R75 also says that two stations never release into one
lane at one event, because the second is granted only after the first release step. The model takes
that as two release steps, one after the other: a station granted after a release whose point is
already reached releases at its own decision, as R61 and R72 have it, inside the same command. -/
def State.decideUpTo (s : State) (l : LaneNo) : Nat → State
  | 0 => s
  | fuel + 1 =>
    match s.decided l with
    | none => s
    | some st => ((s.grantTo l st).workAndTest l st).decideUpTo l fuel

/-- A decision of a lane's arbiter at one of the occasions of R60. -/
def State.decideGrant (s : State) (l : LaneNo) : State := s.decideUpTo l 4

/-- A working of the lane's ARMED station, if it has one, at an occasion of R70; a release in SINGLE
mode brings a decision (R75). -/
def State.work (s : State) (l : LaneNo) : State :=
  match s.armedStation l with
  | some st => (s.workAndTest l st).decideGrant l
  | none => s

/-- The release test of the lane's ARMED station with the point it has, as at a travel advance
(R72). -/
def State.testRelease (s : State) (l : LaneNo) : State :=
  match s.armedStation l with
  | some st => (s.releaseIfMet l st).decideGrant l
  | none => s

/-- The station holding the grant becomes ARMED without a decision (R51, R61). -/
def State.armHolder (s : State) (l : LaneNo) (st : StationNo) : State :=
  ((s.modStation st fun x => { x with state := .armed }).workAndTest l st).decideGrant l

/-- The grant comes back to the arbiter from a station that holds it, and the arbiter decides
(R60, R64). -/
def State.giveBack (s : State) (st : StationNo) : State :=
  if s.holdsGrant st then
    (s.modLane (s.laneOf st) fun ln => { ln with grant := none, releasePoint := none }).decideGrant
      (s.laneOf st)
  else s

/-- Order lists in station-number order for a map (R59). -/
def orderFor (map : Quad LaneNo) (l : LaneNo) : List StationNo :=
  allFour.filter fun st => map.get st = l

/-- Every order list set to the stations mapped to its lane, in station-number order (R59). -/
def State.resetOrders (s : State) : State :=
  forEach (fun l s => s.modLane l fun ln => { ln with order := orderFor s.planNow.map l }) allFour s

end Sys2Proof.Machine
end

