-- ==== Sys2Proof/Machine/Stations.lean ====
section
/-!
DEFINITION. The station sequencers (chapter 3): run hold, batch completion, the notices of the sheet
tracker, the pedal, the clamp cycle and the emergency stop of the clamps.
-/

namespace Sys2Proof.Machine

/-! ### RUN mode (R50) -/

/-- A RUN station in WAITING that holds the grant, with the travel at or past its hold origin + H. -/
def State.runHoldOver (s : State) (st : StationNo) : Bool :=
  decide ((s.station st).state = .waiting) && decide ((s.station st).params.mode = .run) &&
    s.holdsGrant st &&
    atOrPast s.travel (posAdd (s.station st).holdOrigin (s.station st).params.hold)

/-- The run-hold test: the station gives the grant back if its hold is over (R50). -/
def State.testHold (s : State) (st : StationNo) : State :=
  if s.runHoldOver st then s.giveBack st else s

/-- Entry to WAITING, with the run-hold test made at it (R50). -/
def State.enterWaiting (s : State) (st : StationNo) : State :=
  (s.modStation st fun x => { x with state := .waiting }).testHold st

/-! ### Batch completion (R43) -/

/-- CURRENT cleared and NEXT moved up; WAITING with a promoted batch, NO_BATCH without one. -/
def Station.promote (x : Station) : Station :=
  { x with current := x.next, next := none,
           state := if x.next.isSome then .waiting else .noBatch }

/-- A batch completes: BATCH_END is offered, the slots move up and a grant held goes back. -/
def State.completeBatch (s : State) (st : StationNo) (cancelled : Bool) : State :=
  match (s.station st).current with
  | none => s
  | some b =>
    ((s.offer (.batchEnd st b.id b.pieces (b.pieces - b.remaining) cancelled)).modStation st
      Station.promote).giveBack st

/-- Where a station goes from the end of its clamp cycle, by its counts (R40, R53). -/
def State.afterClampCycle (s : State) (st : StationNo) : State :=
  match (s.station st).current with
  | none => s.modStation st fun x => { x with state := .noBatch }
  | some b =>
    if b.remaining > 0 then s.enterWaiting st
    else if (s.station st).outstanding > 0 then
      s.modStation st fun x => { x with state := .finishing }
    else s.completeBatch st false

/-! ### Notices (R47 to R49) -/

/-- How a record left next eye E0. -/
inductive Departure where
  | confirmation
  | misfeed
  | merge
  | purge
deriving DecidableEq, Repr

/-- Whether a notice restores a piece to CURRENT (R48). -/
def Station.restores (x : Station) (batch : Nat) (d : Departure) : Bool :=
  decide (d = .misfeed) &&
    match x.current with
    | some b => decide (b.id = batch) && decide (b.remaining < b.pieces)
    | none => false

/-- Outstanding falls by 1, and a misfeed may restore one piece (R47, R48). -/
def Station.notice (x : Station) (batch : Nat) (d : Departure) : Station :=
  { x with outstanding := x.outstanding - 1,
           current :=
             if x.restores batch d then x.current.map fun b => { b with remaining := b.remaining + 1 }
             else x.current }

/-- A notice taken by a station; in FINISHING it may move the station on (R49). -/
def State.notice (s : State) (st : StationNo) (batch : Nat) (d : Departure) : State :=
  if (s.station st).state = .finishing then
    if (s.station st).restores batch d then
      (s.modStation st fun x => x.notice batch d).enterWaiting st
    else if (s.station st).outstanding ≤ 1 then
      (s.modStation st fun x => x.notice batch d).completeBatch st false
    else s.modStation st fun x => x.notice batch d
  else s.modStation st fun x => x.notice batch d

/-- The notice of a record that leaves next eye E0, to its origin; a foreign record gives none (R47). -/
def State.noticeOf (s : State) (r : Record) (d : Departure) : State :=
  match r.nextEye, r.origin with
  | .e0, some st => s.notice st r.batch d
  | _, _ => s

/-! ### The pedal (R36, R51, R54) -/

/-- A rising edge of LOAD_s. -/
def State.pedal (s : State) (st : StationNo) : State :=
  if s.estop = false ∧ (s.station st).state = .waiting then
    if s.holdsGrant st then
      (s.modStation st fun x => { x with state := .loaded }).armHolder (s.laneOf st) st
    else
      (s.modStation st fun x => { x with state := .loaded }).decideGrant (s.laneOf st)
  else s

/-! ### The clamp cycle (R38 to R40) -/

/-- The end of To: OPEN_s off, the dwell started (R38). -/
def State.openTimeOver (s : State) (st : StationNo) : State :=
  if (s.station st).state = .opening then
    s.modStation st fun x =>
      { x with state := .dwell, openOut := false, timer := some x.params.dwellMs }
  else s

/-- The end of Td: RETURN_s asserted (R39). -/
def State.dwellOver (s : State) (st : StationNo) : State :=
  if (s.station st).state = .dwell then
    s.modStation st fun x =>
      { x with state := .returning, returnOut := true, timer := some x.params.returnMs }
  else s

/-- The clamps at rest: both outputs off and the clamp timer idle. -/
def Station.atRest (x : Station) : Station :=
  { x with openOut := false, returnOut := false, timer := none }

/-- The end of Tr: RETURN_s off, the timer idle, and on by the counts (R40). -/
def State.returnTimeOver (s : State) (st : StationNo) : State :=
  if (s.station st).state = .returning then (s.modStation st Station.atRest).afterClampCycle st
  else s

/-! ### Emergency stop (R53) -/

/-- Whether a station is in its clamp cycle. -/
def StationState.inCycle : StationState → Bool
  | .opening => true
  | .dwell => true
  | .returning => true
  | _ => false

/-- A station at an ESTOP activation, its lane having left OPEN at it (R53). -/
def State.stopStation (s : State) (st : StationNo) : State :=
  if (s.station st).state.inCycle then (s.modStation st Station.atRest).afterClampCycle st
  else s.modStation st Station.atRest

/-- Whether stopping a station completes its batch, and so offers a report (R43, R53). -/
def State.stopCompletes (s : State) (st : StationNo) : Bool :=
  (s.station st).state.inCycle && decide ((s.station st).outstanding = 0) &&
    match (s.station st).current with
    | some b => decide (b.remaining = 0)
    | none => false

/-- Every station stopped; those whose batch completes report in a free order (log entry 8). -/
def State.stopStations (s : State) : State :=
  inFreeOrder (fun st s => s.stopStation st) (allFour.filter fun st => s.stopCompletes st)
    (forEach (fun st s => s.stopStation st) (allFour.filter fun st => !s.stopCompletes st) s)

/-! ### The meanings of the station rows -/

/-- In the reset interval no field input is taken and every block holds its reset values (R183). -/
def State.isRunning (s : State) : Bool := decide (s.resetPhase = .running)

/-- An effect that is taken only outside a reset. -/
def State.whenRunning (s : State) (f : State → State) : State := if s.isRunning then f s else s

/-- PEDAL_EDGE (R36). -/
def execPedalEdge (st : StationNo) (s : State) : Host.Outcome State Fault Refusal :=
  .next (s.whenRunning fun s => s.pedal st)

/-- OPEN_TIME_EXPIRY (R38). -/
def execOpenTimeExpiry (st : StationNo) (s : State) : Host.Outcome State Fault Refusal :=
  .next (s.whenRunning fun s => s.openTimeOver st)

/-- DWELL_EXPIRY (R39). -/
def execDwellExpiry (st : StationNo) (s : State) : Host.Outcome State Fault Refusal :=
  .next (s.whenRunning fun s => s.dwellOver st)

/-- RETURN_TIME_EXPIRY (R40). -/
def execReturnTimeExpiry (st : StationNo) (s : State) : Host.Outcome State Fault Refusal :=
  .next (s.whenRunning fun s => s.returnTimeOver st)

/-- RUN_HOLD_EXPIRY (R50): the run-hold test of a station. -/
def execRunHoldExpiry (st : StationNo) (s : State) : Host.Outcome State Fault Refusal :=
  .next (s.whenRunning fun s => s.testHold st)

/-- RELEASE (R74): the release test of a lane, and the release if it is met. -/
def execRelease (l : LaneNo) (s : State) : Host.Outcome State Fault Refusal :=
  .next (s.whenRunning fun s => s.testRelease l)

end Sys2Proof.Machine
end

