-- ==== Sys2Proof/Machine/Delivery.lean ====
section
/-!
DEFINITION. The delivery path: the scorch guard over the heated zone (section 9.4), the fold
interface (section 7.5), the stacking unit (chapter 8) and the phases of a plan change (section 9.3).
-/

namespace Sys2Proof.Machine

/-! ### Scorch guard (R154, R155) -/

/-- A record in the heated zone: LE0 known and next eye E1 or E2 (R154). -/
def Record.inZone (r : Record) : Bool :=
  r.le0.isSome && (decide (r.nextEye = .e1) || decide (r.nextEye = .e2))

def State.zoneOccupied (s : State) : Bool := s.records.any Record.inZone

/-- The guard condition: the zone occupied and F less than Vs (R154). -/
def State.guardHolds (s : State) : Bool := s.zoneOccupied && decide (s.speed < s.params.vs)

/-- An evaluation: the timer starts where the condition begins to hold, stops where it no longer
holds and is left as it is where it holds as before (R155). -/
def State.evalGuard (s : State) : State :=
  { s with scorch :=
      if s.guardHolds then
        match s.scorch with
        | .idle => .running (s.params.tsc * 1000)
        | t => t
      else .idle }

/-! ### Fold interface (R122 to R126) -/

/-- STROBE with the command at the head of the queue, or IDLE with an empty queue (R123, R124). -/
def Folder.issue (f : Folder) : Folder :=
  match f.queue with
  | c :: _ => { f with phase := .strobe, timer := some Config.strobeMs, strobe := true, code := c.code }
  | [] => { f with phase := .idle, timer := none, strobe := false, code := 0 }

/-- A command joins the queue, and is strobed at once if the phase is IDLE (R123). -/
def Folder.accept (f : Folder) (c : FoldCommand) : Folder :=
  match f.phase with
  | .idle => { f with queue := f.queue ++ [c] }.issue
  | _ => { f with queue := f.queue ++ [c] }

/-- The end of the strobe: the head command leaves and the gap begins (R124). -/
def Folder.strobeOver (f : Folder) : Folder :=
  match f.phase with
  | .strobe =>
    { f with queue := f.queue.tail, phase := .gap, timer := some Config.gapMs, strobe := false,
             code := 0 }
  | _ => f

/-- The end of the gap: the next command is strobed, or the interface goes IDLE (R124). -/
def Folder.gapOver (f : Folder) : Folder :=
  match f.phase with
  | .gap => f.issue
  | _ => f

def State.modFolder (s : State) (l : LaneNo) (f : Folder → Folder) : State :=
  s.modLane l fun ln => { ln with folder := f ln.folder }

/-- A fold command arrives; with two commands queued it overflows, and its record takes FOLD_MISSED
with a JAM occurrence of cause FOLD_OVER (R123, R125). -/
def State.foldArrival (s : State) (l : LaneNo) (c : FoldCommand) : State :=
  if (s.lane l).folder.queue.length < Config.foldSlots then s.modFolder l fun f => f.accept c
  else (s.modRecord l c.tag (Record.giveCause .foldMissed)).occur (.jam l) causeJamFoldOver

/-- The fold interface of a lane emptied, with no gap kept (R126). -/
def State.emptyFolder (s : State) (l : LaneNo) : State := s.modFolder l fun _ => .atReset

/-- The fold interface emptied by an ESTOP activation: the record of each command discarded, if it is
in the pool, takes FOLD_MISSED (R126). -/
def State.abortFolder (s : State) (l : LaneNo) : State :=
  (forEach (fun (c : FoldCommand) s => s.modRecord l c.tag (Record.giveCause .foldMissed))
    (s.lane l).folder.queue s).emptyFolder l

/-! ### Stacking unit (R130 to R138) -/

def State.modStacker (s : State) (l : LaneNo) (f : Stacker → Stacker) : State :=
  s.modLane l fun ln => { ln with stacker := f ln.stacker }

/-- A discharge of a building stack: with ESTOP active DISCHARGE_l stays off and the timer is
suspended with its full time (R133). -/
def Stacker.dischargePile (x : Stacker) (p : Pile) (reason : StackReason)
    (pocket : Option PocketPiece) (estop : Bool) (ts : Nat) : Stacker :=
  { x with state := .discharging
             { batch := p.batch, cls := p.cls, count := p.count, reason := reason } pocket,
           timer := if estop then .suspended (ts * 1000) else .running (ts * 1000),
           discharge := !estop }

/-- A discharge begins, from BUILDING (R133). -/
def State.beginDischarge (s : State) (l : LaneNo) (reason : StackReason)
    (pocket : Option PocketPiece) : State :=
  match (s.lane l).stacker.state with
  | .building p => s.modStacker l fun x => x.dischargePile p reason pocket s.estop s.params.ts
  | _ => s

/-- Whether a stack that starts in a lane is to discharge for the plan change: the lane is DRAINING
and the phase is STACK (R138). -/
def State.planCloses (s : State) (l : LaneNo) : Bool :=
  decide (s.phase = .stack) && decide ((s.lane l).state = .draining)

/-- BUILDING with a stack, which discharges at once with reason FULL if its count has reached its
target (R131). -/
def State.putPile (s : State) (l : LaneNo) (p : Pile) : State :=
  if p.target ≤ p.count then
    (s.modStacker l fun x => { x with state := .building p }).beginDischarge l .full none
  else s.modStacker l fun x => { x with state := .building p }

/-- A stack started with one piece; in a lane a plan change is closing it discharges at once, with
reason PLAN unless it is full (R131, R134, R138). -/
def State.startPile (s : State) (l : LaneNo) (piece : PocketPiece) : State :=
  if piece.target > 1 ∧ s.planCloses l then
    (s.putPile l ⟨piece.batch, piece.cls, 1, piece.target⟩).beginDischarge l .plan none
  else s.putPile l ⟨piece.batch, piece.cls, 1, piece.target⟩

/-- A good piece at the stacker: where it goes, and the outcome for SHEET_DONE (R131, R132). -/
def State.stackGood (s : State) (l : LaneNo) (batch : Nat) (cls : ClassNo) : DoneOutcome × State :=
  match (s.lane l).stacker.state with
  | .empty => (.stacked, s.startPile l ⟨batch, cls, (s.classEntry cls).target⟩)
  | .building p =>
    if p.batch = batch then (.stacked, s.putPile l { p with count := p.count + 1 })
    else
      (.stacked, s.beginDischarge l .batch (some ⟨batch, cls, (s.classEntry cls).target⟩))
  | .discharging out none =>
    (.stacked, s.modStacker l fun x =>
      { x with state := .discharging out (some ⟨batch, cls, (s.classEntry cls).target⟩) })
  | .discharging _ (some _) => (.unstacked, s.occur (.stacker l) causeStackerOverrun)

/-- A rejected piece: 1 more in the reject tally, up to 65,535 (R130). -/
def Stacker.countReject (x : Stacker) : Stacker := { x with tally := min (x.tally + 1) Config.tallyMax }

/-- A piece handed by a retirement (R119, R130). -/
def State.receivePiece (s : State) (l : LaneNo) (r : Record) : DoneOutcome × State :=
  match r.cause with
  | some _ => (.rejected, s.modStacker l Stacker.countReject)
  | none => s.stackGood l r.batch r.cls

/-- At an ESTOP activation: a DISCHARGING unit turns DISCHARGE_l off and suspends a running timer
(R136). -/
def Stacker.suspend (x : Stacker) : Stacker :=
  match x.state with
  | .discharging _ _ =>
    { x with discharge := false,
             timer := match x.timer with
               | .running ms => .suspended ms
               | t => t }
  | _ => x

/-- At an ESTOP deactivation: a DISCHARGING unit asserts DISCHARGE_l again and a suspended timer runs
on (R136). -/
def Stacker.resume (x : Stacker) : Stacker :=
  match x.state with
  | .discharging _ _ =>
    { x with discharge := true,
             timer := match x.timer with
               | .suspended ms => .running ms
               | t => t }
  | _ => x

/-! ### Plan change (R151, R152) -/

/-- Whether a lane is a lane of a plan (section 2.2). -/
def PlanCode.hasLane : PlanCode → LaneNo → Bool
  | .p1, l => decide (l.val < 1)
  | .p2, l => decide (l.val < 2)
  | .p4, _ => true

/-- Every queue of a DRAINING lane is empty (R151). -/
def State.drained (s : State) : Bool :=
  allFour.all fun l => !(decide ((s.lane l).state = .draining)) || (s.queue l).isEmpty

/-- Whether a stacking unit is DISCHARGING. -/
def StackState.isDischarging : StackState → Bool
  | .discharging _ _ => true
  | _ => false

/-- No stacking unit of a DRAINING lane is DISCHARGING (R152). -/
def State.stacksGone (s : State) : Bool :=
  allFour.all fun l =>
    !(decide ((s.lane l).state = .draining)) || !(s.lane l).stacker.state.isDischarging

/-- The stacking unit of a DRAINING lane is asked to discharge (R138). -/
def State.askDischarge (s : State) (l : LaneNo) : State :=
  if (s.lane l).state = .draining then s.beginDischarge l .plan none else s

/-- The test of phase TRACK: with every draining queue empty the phase becomes STACK (R151). -/
def State.trackTest (s : State) : State :=
  if s.phase = .track ∧ s.drained then
    forEach (fun l s => s.askDischarge l) allFour { s with phase := .stack }
  else s

/-- A lane's state under a plan that has just come into force (R152). -/
def stateUnder (plan : PlanCode) (l : LaneNo) : LaneState := if plan.hasLane l then .halted else .closed

/-- Every lane set to its state under a plan (R152). -/
def State.openPlan (s : State) (plan : PlanCode) : State :=
  forEach (fun l s => s.modLane l fun ln => { ln with state := stateUnder plan l }) allFour s

/-- The plan change completes (R152). -/
def State.completeChange (s : State) (pair : PlanPair) : State :=
  (({ s with planNow := pair, planNext := none, phase := .noChange }.openPlan
    pair.plan).resetOrders).offer (.planDone pair)

/-- The test of phase STACK (R152). -/
def State.stackTest (s : State) : State :=
  match s.planNext with
  | some pair =>
    if s.phase = .stack ∧ s.drained ∧ s.stacksGone then s.completeChange pair else s
  | none => s

/-- The tests of a plan change at a removal or at its beginning (R150 to R152). -/
def State.planTest (s : State) : State := s.trackTest.stackTest

/-! ### CLEAR_l and the stacker timer (R134, R135) -/

/-- A rising edge of CLEAR_l: a discharge ends and is reported, the pocket piece starts a stack, and
the test of phase STACK is made (R134, R152). -/
def State.clearStack (s : State) (l : LaneNo) : State :=
  match (s.lane l).stacker.state with
  | .discharging out pocket =>
    let s1 := (s.modStacker l fun x =>
        { x with state := .empty, timer := .idle, discharge := false }).offer
      (.stackDone l out.batch out.cls out.count out.reason)
    (match pocket with
      | some piece => s1.startPile l piece
      | none => s1).stackTest
  | _ => s

/-- The stacker timer runs out: expired, with a STACKER occurrence of cause TIMEOUT (R135). -/
def State.stackerTimedOut (s : State) (l : LaneNo) : State :=
  match (s.lane l).stacker.timer with
  | .running _ =>
    (s.modStacker l fun x => { x with timer := .expired }).occur (.stacker l) causeStackerTimeout
  | _ => s

/-! ### The meanings of the folder and stacker rows -/

/-- FOLD_STROBE_END (R124). -/
def execFoldStrobeEnd (l : LaneNo) (s : State) : Host.Outcome State Fault Refusal :=
  .next (s.whenRunning fun s => s.modFolder l Folder.strobeOver)

/-- FOLD_GAP_END (R124). -/
def execFoldGapEnd (l : LaneNo) (s : State) : Host.Outcome State Fault Refusal :=
  .next (s.whenRunning fun s => s.modFolder l Folder.gapOver)

/-- CLEAR_EDGE (R134). -/
def execClearEdge (l : LaneNo) (s : State) : Host.Outcome State Fault Refusal :=
  .next (s.whenRunning fun s => s.clearStack l)

/-- STACKER_TIMEOUT (R135). -/
def execStackerTimeout (l : LaneNo) (s : State) : Host.Outcome State Fault Refusal :=
  .next (s.whenRunning fun s => s.stackerTimedOut l)

end Sys2Proof.Machine
end

