-- ==== Sys2Proof/Machine/Tracker.lean ====
section
/-!
DEFINITION. The sheet tracker: removals (section 5.5), deadline outcomes (section 5.4), the entry
matcher (chapter 6) and the downstream matcher (chapter 7).
-/

namespace Sys2Proof.Machine

/-! ### Removal (R91, R92) -/

/-- SHEET_LOST of a record (R92). -/
def Record.lostReport (r : Record) (l : LaneNo) (c : LostCause) : Report :=
  .sheetLost r.tag l r.origin r.batch r.cls c r.cause

/-- At a MERGED outcome the record on E0, if there is one, takes DOUBLE (R90, R107). -/
def State.markMerged (s : State) (l : LaneNo) (c : LostCause) : State :=
  match c, s.recordOnE0 l with
  | .merged, some y => s.modRecord l y.tag (Record.giveCause .double)
  | _, _ => s

/-- The alarm occurrence of a loss (R90). -/
def State.lossOccurrence (s : State) (l : LaneNo) (r : Record) (c : LostCause) : State :=
  match c with
  | .merged => s
  | .purged => s
  | .misfeed =>
    match r.origin with
    | some st => s.occur (.misfeed st) causeNoEntry
    | none => s
  | .missingE1 => s.occur (.wrap l) causeWrapMissingE1
  | .missingE2 => s.occur (.jam l) causeJamMissingE2
  | .missingE3 => s.occur (.jam l) causeJamMissingE3
  | .stuckE0 => s.occur (.jam l) causeJamStuckE0
  | .stuckE3 => s.occur (.jam l) causeJamStuckE3

/-- The notice a loss hands to the record's station (R90, R91). -/
def LostCause.departure : LostCause → Departure
  | .misfeed => .misfeed
  | .merged => .merge
  | _ => .purge

/-- A record leaves the pool other than by retirement: queue, notice, report, occurrence and arbiter,
then the heated zone (R91; log entry 14). -/
def State.loseRecord (s : State) (l : LaneNo) (r : Record) (c : LostCause) : State :=
  ((((((s.dropRecord l r.tag).markMerged l c).noticeOf r c.departure).offer
    (r.lostReport l c)).lossOccurrence l r c).work l).evalGuard

/-! ### Deadlines (R89, R90) -/

/-- The outcome of a record's next-eye deadline (R90, R105). -/
def State.expiryCause (s : State) (l : LaneNo) (r : Record) : LostCause :=
  match r.nextEye with
  | .e0 => if (s.eye l 0).accepted then .merged else .misfeed
  | .e1 => .missingE1
  | .e2 => .missingE2
  | .e3 => .missingE3
  | .clear => .stuckE3

/-- The outcome due to a record: that of its next-eye deadline if the travel is at or past it, else
STUCK_E0 if it is at or past its entry-clear deadline (R89, R90). -/
def State.dueCause (s : State) (l : LaneNo) (r : Record) : Option LostCause :=
  if atOrPast s.travel r.deadline then some (s.expiryCause l r)
  else
    match r.clearDeadline with
    | some d => if atOrPast s.travel d then some .stuckE0 else none
    | none => none

/-- The outcome due to a record of which an event has just set the next-eye deadline alone: the
entry-clear deadline, if it has one, was set before and waits for the tests of the advance (R89). -/
def State.nextEyeCause (s : State) (l : LaneNo) (r : Record) : Option LostCause :=
  if atOrPast s.travel r.deadline then some (s.expiryCause l r) else none

/-- The outcome found due to the record of a lane with a tag is applied, if there is one (R90). -/
def State.expireFor (s : State) (l : LaneNo) (tag : Nat) (due : Record → Option LostCause) : State :=
  match s.findRecord l tag with
  | none => s
  | some r =>
    match due r with
    | none => s
    | some c => (s.loseRecord l r c).planTest

/-- Both deadlines of a record are tested: at a travel advance, or where an event has just set both
(R89, R90). -/
def State.expireIfDue (s : State) (l : LaneNo) (tag : Nat) : State := s.expireFor l tag (s.dueCause l)

/-- The next-eye deadline that an event has just set is tested, and no deadline that was set before:
those of an advance come after all its edges (R89). -/
def State.expireIfSetPast (s : State) (l : LaneNo) (tag : Nat) : State :=
  s.expireFor l tag (s.nextEyeCause l)

/-! ### Entry matcher: leading edges (R96 to R101) -/

/-- Whether a record stands at the tail of its lane's queue. -/
def State.isYoungest (s : State) (l : LaneNo) (r : Record) : Bool :=
  match s.youngest l with
  | some y => decide (y.tag = r.tag)
  | none => false

/-- A working for a change of the youngest record; for a change of another record nothing (R70, R87). -/
def State.workIf (s : State) (l : LaneNo) (youngest : Bool) : State := if youngest then s.work l else s

/-- What the E0 match writes in the record (R97). -/
def State.entryMatched (s : State) (l : LaneNo) (x : Pos) (r : Record) : Record :=
  { r with le0 := some x, predLe0 := none, nextEye := .e1,
           deadline := s.eyeDeadline l .e1 x,
           clearDeadline := some (s.entryClearDeadline r.lnom x) }

/-- A match at E0: the record, the confirmation notice, the arbiter for the youngest record, the
heated zone (R97, R98). -/
def State.matchEntry (s : State) (l : LaneNo) (r : Record) (x : Pos) : State :=
  (((((s.modRecord l r.tag (s.entryMatched l x)).noticeOf r .confirmation).workIf l
    (s.isYoungest l r)).evalGuard).expireIfDue l r.tag)

/-- A foreign record, or STRAY with cause POOL_FULL where the pool has no slot (R99 to R101). -/
def State.foreignSheet (s : State) (l : LaneNo) (x : Pos) : State :=
  if s.hasSlot then
    ((((s.joinForeign l (s.foreignRecord l x)).work l).evalGuard).expireIfDue l
      (s.foreignRecord l x).tag)
  else s.occur (.stray l) causeStrayPoolFull

/-- Whether a position lies in the entry window of a record (R96). -/
def State.inEntryWindow (s : State) (l : LaneNo) (r : Record) (x : Pos) : Bool :=
  match r.predLe0 with
  | some pred => withinWindow x pred (s.lane l).geometry.w0
  | none => false

/-- A leading edge at E0 (R96). -/
def State.entryLeading (s : State) (l : LaneNo) (x : Pos) : State :=
  match s.candidate l .e0 with
  | some r => if s.inEntryWindow l r x then s.matchEntry l r x else s.foreignSheet l x
  | none => s.foreignSheet l x

/-! ### Entry matcher: trailing edges (R102, R103) -/

/-- The class of a measured length (R103). -/
def Record.lengthCause (r : Record) (n : Nat) : Option RejectCause :=
  if r.lnom + r.lnom / 2 ≤ n then some .double
  else if r.lnom + r.tol < n then some .long
  else if n + r.tol < r.lnom then some .short
  else none

/-- The length class given to a record with an origin; a foreign record is not classed (R81, R103). -/
def Record.classify (r : Record) (n : Nat) : Record :=
  match r.origin, r.lengthCause n with
  | some _, some c => r.giveCause c
  | _, _ => r

/-- The length of a record whose trailing edge lies at a position (R4, R79; log entry 15). -/
def Record.lengthTo (r : Record) (x : Pos) : Nat :=
  match r.le0 with
  | some le => (x - le).toNat
  | none => 0

/-- A record that takes TE0 and its length, with the entry-clear deadline dropped and, where its next
eye is CLEAR, the CLEAR deadline worked out again (R88, R102). -/
def State.trailingTaken (s : State) (l : LaneNo) (x : Pos) (r : Record) : Record :=
  let measured := { r with te0 := some x, length := some (r.lengthTo x), clearDeadline := none }
  let redone :=
    match r.nextEye, r.le3 with
    | .clear, some le3 => { measured with deadline := s.stackDeadline l measured le3 }
    | _, _ => measured
  redone.classify (r.lengthTo x)

/-- Whether a trailing edge at E0 sets the CLEAR deadline of a record again (R88). -/
def Record.clearReset (r : Record) : Bool := decide (r.nextEye = .clear) && r.le3.isSome

/-- A trailing edge at E0 (R102): only a CLEAR deadline worked out again at it is tested (R89). -/
def State.entryTrailing (s : State) (l : LaneNo) (x : Pos) : State :=
  match s.recordOnE0 l with
  | none => s
  | some r =>
    if r.clearReset then
      ((s.modRecord l r.tag (s.trailingTaken l x)).workIf l (s.isYoungest l r)).expireIfSetPast l r.tag
    else (s.modRecord l r.tag (s.trailingTaken l x)).workIf l (s.isYoungest l r)

/-! ### Downstream matcher (R113 to R118) -/

/-- Whether a position lies in the window of an eye for a record (R113). -/
def State.inEyeWindow (s : State) (l : LaneNo) (eye : NextEye) (r : Record) (x : Pos) : Bool :=
  match r.le0 with
  | some le =>
    withinWindow x (posAdd le ((s.lane l).geometry.pos eye)) ((s.lane l).geometry.window eye)
  | none => false

/-- LE0 of a record past E0; every such record has it. -/
def Record.entry (r : Record) : Pos := r.le0.getD 0

/-- A match at E1 (R115); the E2 deadline it sets may have passed already (R89). -/
def State.matchE1 (s : State) (l : LaneNo) (r : Record) : State :=
  (s.modRecord l r.tag fun r =>
    { r with nextEye := .e2, deadline := s.eyeDeadline l .e2 r.entry }).expireIfSetPast l r.tag

/-- A record at its E2 match: LONG where TE0 is absent, then folded (R116). -/
def Record.foldTaken (r : Record) : Record :=
  { (if r.te0.isNone then r.giveCause .long else r) with folded := true }

/-- The code of a record's fold command: its own, or 0 with a reject cause (R116). -/
def Record.commandCode (r : Record) : Nat :=
  match r.cause with
  | none => r.fold
  | some _ => 0

/-- A match at E2: LONG, folded and next eye E3 with its deadline; the fold command handed on; the
heated zone (R116).

DEDUCED, the model's reading (log entry 27): where the fold queue overflows and the E3 deadline this
match sets has passed already, the overflow comes first. The record holds FOLD_MISSED when it is lost,
and the JAM latch keeps the cause of the loss, which is the later occurrence. -/
def State.matchE2 (s : State) (l : LaneNo) (r : Record) : State :=
  ((((s.modRecord l r.tag fun r =>
    { r.foldTaken with nextEye := .e3, deadline := s.eyeDeadline l .e3 r.entry }).foldArrival l
      ⟨r.tag, r.foldTaken.commandCode⟩).evalGuard).expireIfSetPast l r.tag)

/-- A match at E3 (R118); the CLEAR deadline it sets may have passed already (R89). -/
def State.matchE3 (s : State) (l : LaneNo) (r : Record) (x : Pos) : State :=
  (s.modRecord l r.tag fun r =>
    { r with nextEye := .clear, le3 := some x,
             deadline := s.stackDeadline l r x }).expireIfSetPast l r.tag

/-- A leading edge at Ek, k = 1..3: a match of the candidate, or STRAY (R113, R114). -/
def State.eyeLeading (s : State) (l : LaneNo) (k : EyeNo) (eye : NextEye) (x : Pos)
    (hit : Record → State) : State :=
  match s.candidate l eye with
  | some r => if s.inEyeWindow l eye r x then hit r
      else s.occur (.stray l) (causeStrayUnmatched k)
  | none => s.occur (.stray l) (causeStrayUnmatched k)

/-! ### Retirement (R119, R120) -/

/-- SHEET_DONE of a record (R120). -/
def Record.doneReport (r : Record) (l : LaneNo) (o : DoneOutcome) : Report :=
  .sheetDone r.tag l r.origin r.batch r.cls o r.cause

/-- A record retires: it leaves its queue, the stacking unit takes the piece, SHEET_DONE is offered,
and the arbiter, the zone and the plan change follow (R91, R119). -/
def State.retire (s : State) (l : LaneNo) (r : Record) : State :=
  match (s.dropRecord l r.tag).receivePiece l r with
  | (o, s1) => (((s1.offer (r.doneReport l o)).work l).evalGuard).planTest

/-- A trailing edge at E3 (R119). -/
def State.stackTrailing (s : State) (l : LaneNo) : State :=
  match s.candidate l .clear with
  | some r => s.retire l r
  | none => s

/-! ### An edge delivered to the tracker (R13, R95, R112) -/

/-- An edge of an eye of a lane, leading or trailing, with its position. -/
def State.takeEdge (s : State) (l : LaneNo) (k : EyeNo) (leading : Bool) (x : Pos) : State :=
  match k, leading with
  | 0, true => s.entryLeading l x
  | 0, false => s.entryTrailing l x
  | 1, true => s.eyeLeading l 1 .e1 x fun r => s.matchE1 l r
  | 2, true => s.eyeLeading l 2 .e2 x fun r => s.matchE2 l r
  | 3, true => s.eyeLeading l 3 .e3 x fun r => s.matchE3 l r x
  | 3, false => s.stackTrailing l
  | _, _ => s

/-! ### REJECT_MARK and PURGE on the pool (R91, R93, R148) -/

/-- The lane of the record with a tag. -/
def State.laneWithTag (s : State) (tag : Nat) : Option LaneNo :=
  allFour.find? fun l => (s.findRecord l tag).isSome

/-- Every record of a lane removed with PURGED, head to tail, then its fold interface emptied and the
plan change tested (R126, R148, R151). -/
def State.purgeLane (s : State) (l : LaneNo) : State :=
  ((forEach (fun r s => s.loseRecord l r .purged) (s.queue l) s).emptyFolder l).planTest

/-- DEADLINE_PASS (R90): the deadline of the record with a tag. -/
def execDeadlinePass (tag : BitVec 16) (s : State) : Host.Outcome State Fault Refusal :=
  .next (s.whenRunning fun s =>
    match s.laneWithTag tag.toNat with
    | some l => s.expireIfDue l tag.toNat
    | none => s)

end Sys2Proof.Machine
end

