-- ==== Sys2Proof/Machine/Field.lean ====
section
/-!
DEFINITION. The field side: the eye conditioner (section 1.4), the travel counter and the tests of a
travel advance (section 1.1), the speed monitor (section 1.3), the emergency stop (R18, R158), the
scorch timer (R156) and the reset of the part (R183).
-/

namespace Sys2Proof.Machine

/-! ### Eye conditioner (R12 to R16) -/

/-- An accepted change is delivered as an edge for every lane that is not CLOSED (R13, R15). -/
def State.deliver (s : State) (l : LaneNo) (k : EyeNo) (leading : Bool) (x : Pos) : State :=
  if (s.lane l).state = .closed then s else s.takeEdge l k leading x

/-- The pending change of an eye is accepted: the accepted state takes the raw state and the edge
carries the start position (R13). -/
def State.acceptChange (s : State) (l : LaneNo) (k : EyeNo) (start : Pos) : State :=
  (s.setEye l k { s.eye l k with accepted := (s.eye l k).raw, pending := none }).deliver l k
    (s.eye l k).raw start

/-- Whether an eye's pending change has held for Fe mm of travel (R13, R16). -/
def State.changeDue (s : State) (l : LaneNo) (k : EyeNo) : Bool :=
  match (s.eye l k).pending with
  | some start => atOrPast s.travel (posAdd start s.params.fe)
  | none => false

/-- The test of an eye's pending change (R13). -/
def State.acceptIfDue (s : State) (l : LaneNo) (k : EyeNo) : State :=
  match (s.eye l k).pending with
  | some start =>
    if atOrPast s.travel (posAdd start s.params.fe) then s.acceptChange l k start else s
  | none => s

/-- A change of an eye's raw input outside a reset: a pending change is dropped or started, or with
Fe = 0 the change is accepted at once (R12, R14). -/
def State.rawChange (s : State) (l : LaneNo) (k : EyeNo) (covered : Bool) : State :=
  if covered = (s.eye l k).accepted then
    s.setEye l k { s.eye l k with raw := covered, pending := none }
  else if s.params.fe = 0 then
    (s.setEye l k { raw := covered, accepted := covered, pending := none }).deliver l k covered
      s.travel
  else s.setEye l k { s.eye l k with raw := covered, pending := some s.travel }

/-- Every eye of every lane. -/
def allEyes : List (LaneNo × EyeNo) := allFour.flatMap fun l => allFour.map fun k => (l, k)

/-- The eyes whose pending change is due. -/
def State.dueEyes (s : State) : List (LaneNo × EyeNo) := allEyes.filter fun e => s.changeDue e.1 e.2

/-! ### A travel advance (R2) -/

/-- A test a block makes at a travel advance. -/
inductive AdvanceTask where
  | edge (l : LaneNo) (k : EyeNo)
  | hold (st : StationNo)
  | releaseTest (l : LaneNo)
  | deadline (l : LaneNo) (tag : Nat)
deriving DecidableEq, Repr

def AdvanceTask.isEdge : AdvanceTask → Bool
  | .edge _ _ => true
  | _ => false

def AdvanceTask.isDeadline : AdvanceTask → Bool
  | .deadline _ _ => true
  | _ => false

/-- The tests that may be made next: the tracker takes the edges of an advance before it tests the
deadlines of that advance (R2, R89). -/
def enabledTasks (tasks : List AdvanceTask) : List AdvanceTask :=
  if tasks.any AdvanceTask.isEdge then tasks.filter fun t => !t.isDeadline else tasks

def State.runTask (t : AdvanceTask) (s : State) : State :=
  match t with
  | .edge l k => s.acceptIfDue l k
  | .hold st => s.testHold st
  | .releaseTest l => s.testRelease l
  | .deadline l tag => s.expireIfDue l tag

/-- Whether a decision can arm a station of a lane: the lane is OPEN and a station mapped to it is
LOADED (R60, R61). -/
def State.mayArm (s : State) (l : LaneNo) : Bool :=
  decide ((s.lane l).state = .opened) && allFour.any fun st => s.isCandidate l st

/-- Whether so few slots are free that a test made at a working of this advance can fail for want of
one (R73). -/
def State.poolShort (s : State) : Bool :=
  decide (Config.poolSlots < s.poolCount + Config.slotsOneAdvanceCanTake)

/-- Whether a lane's release test can be met at this advance other than at a working, which makes its
own test (log entry 8): its ARMED station has its point reached, or slots are short and the lane has
an ARMED station or can be given one within the advance, whose test at the working then fails for want
of a slot that a removal frees afterwards (R73). -/
def State.testMatters (s : State) (l : LaneNo) : Bool :=
  ((s.armedStation l).isSome && s.pointReached l) ||
    (s.poolShort && ((s.armedStation l).isSome || s.mayArm l))

/-- The deadlines due in a lane's queue. -/
def State.dueDeadlines (s : State) (l : LaneNo) : List AdvanceTask :=
  ((s.queue l).filter fun r => (s.dueCause l r).isSome).map fun r => .deadline l r.tag

/-- The tests of the advance that has brought the travel to its value. -/
def State.advanceTasks (s : State) : List AdvanceTask :=
  (s.dueEyes.map fun e => .edge e.1 e.2) ++
    ((allFour.filter fun st => s.runHoldOver st).map .hold) ++
    ((allFour.filter fun l => s.testMatters l).map .releaseTest) ++
    allFour.flatMap fun l => s.dueDeadlines l

/-- The tests of an advance, in a free order but for edges before deadlines (R2, R76, R89). -/
def State.runAdvance (s : State) : State :=
  runFreely enabledTasks (fun t s => s.runTask t) s.advanceTasks.length s.advanceTasks s

/-- The counters at a travel advance: the travel gains 1 modulo 2^32, r returns to 0, n gains 1 up to
255 (R1, R5). -/
def State.countAdvance (s : State) : State :=
  { s with travel := s.travel + 1, residual := 0,
           gateCount := min (s.gateCount + 1) Config.gateCountMax }

/-- A travel advance (R1, R2). -/
def State.advance (s : State) : State := s.countAdvance.runAdvance

/-- A pulse on ENC: r gains 1, and the pulse that brings it to P is a travel advance (R1). -/
def State.pulse (s : State) : State :=
  if s.residual + 1 < s.params.scale then { s with residual := s.residual + 1 } else s.advance

/-! ### Speed monitor (R5 to R9) -/

/-- F′ at the end of a gate: 0 after two empty gates, else floor((3F + S + 2) / 4) with S = 8n (R6). -/
def State.filteredSpeed (s : State) : Nat :=
  if s.gateCount = 0 ∧ s.emptyGate then 0 else (3 * s.speed + 8 * s.gateCount + 2) / 4

/-- The counters at the end of a gate; the next gate begins (R5, R6). -/
def State.closeGate (s : State) : State :=
  { s with speed := s.filteredSpeed, emptyGate := decide (s.gateCount = 0), gateCount := 0,
           gateLeft := Config.gateMs }

/-- The speed comparisons, against the F before the update (R8, R9). -/
def State.compareSpeed (s : State) (before : Nat) : State :=
  if s.params.vlo ≤ before ∧ s.speed < s.params.vlo ∧ s.inputs.ironerRun then
    s.occur .speedLow causeFellBelow
  else if before ≤ s.params.vhi ∧ s.params.vhi < s.speed then s.occur .speedHigh causeRoseAbove
  else s

/-- Whether the working of a lane at a speed update will release. -/
def State.workReleases (s : State) (l : LaneNo) : Bool :=
  match s.armedStation l with
  | some st => (s.workPoint l st).testMet l
  | none => false

/-- Every arbiter with an ARMED station works its point again; those that release do so in a free
order (R7, R70; log entry 8). -/
def State.workAll (s : State) : State :=
  inFreeOrder (fun l s => s.work l) (allFour.filter fun l => s.workReleases l)
    (forEach (fun l s => s.work l) (allFour.filter fun l => !s.workReleases l) s)

/-- The end of a gate and the speed update (R6, R7). -/
def State.gateOver (s : State) : State := ((s.closeGate.compareSpeed s.speed).evalGuard).workAll

/-! ### Emergency stop (R18, R158) -/

/-- An ESTOP activation with all its effects (R158). -/
def State.activateEstop (s : State) : State :=
  forEach (fun l s => s.modStacker l Stacker.suspend) allFour
    (forEach (fun l s => s.abortFolder l) allFour
      (({ s with estop := true, estopHold := none }.occur .estop causeActivated).stopStations))

/-- An ESTOP deactivation (R136, R158). -/
def State.deactivateEstop (s : State) : State :=
  forEach (fun l s => s.modStacker l Stacker.resume) allFour
    { s with estop := false, estopHold := none }

/-- The raw ESTOP input. -/
def State.setEstopInput (s : State) (active : Bool) : State :=
  { s with inputs := { s.inputs with estop := active } }

/-! ### Scorch timer (R156) -/

/-- The scorch timer runs out: expired, with an occurrence of SCORCH. -/
def State.scorchOver (s : State) : State :=
  match s.scorch with
  | .running _ => { s with scorch := .expired }.occur .scorch causeExpired
  | _ => s

/-! ### Reset (R183) -/

/-- Every block at its reset values and every output off; the input levels stay what they are. The
address and rate held are read again when the reset ends (R170). -/
def State.resetBlocks (s : State) (phase : ResetPhase) : State :=
  { State.blocksAtReset (s.lanes.map fun ln => ln.eyes.map Eye.raw) s.inputs s.link.address
      s.link.rate phase with
    freeDraws := s.freeDraws, pending := s.pending }

/-- A reset of UNIT_RESET begins: it lasts 20 ms (R183). -/
def State.beginReset (s : State) : State := s.resetBlocks (.interval Config.resetMs)

/-- The eyes take their accepted states from their raw inputs, and the switches are read (R12, R170). -/
def State.readInputs (s : State) : State :=
  { s with
    lanes := s.lanes.map fun ln =>
      { ln with eyes := ln.eyes.map fun e => Eye.settled e.raw },
    link := { s.link with address := s.inputs.addrSwitches, rate := s.inputs.baudSwitches } }

/-- The reset interval ends: the part runs, the first gate begins, and an active ESTOP input is taken
as an activation (R5, R18, R183). -/
def State.endReset (s : State) : State :=
  match s.resetPhase with
  | .interval _ =>
    if s.inputs.estop then
      { s.readInputs with resetPhase := .running, gateLeft := Config.gateMs }.activateEstop
    else { s.readInputs with resetPhase := .running, gateLeft := Config.gateMs }
  | _ => s

/-! ### The meanings of the field rows -/

/-- RESET_PIN (R183). -/
def execResetPin (s : State) : Host.Outcome State Fault Refusal := .next (s.resetBlocks .held)

/-- RESET_PIN_RELEASE (R183). -/
def execResetPinRelease (s : State) : Host.Outcome State Fault Refusal :=
  .next (if s.resetPhase = .held then { s with resetPhase := .interval Config.resetMs } else s)

/-- RESET_END (R183). -/
def execResetEnd (s : State) : Host.Outcome State Fault Refusal := .next s.endReset

/-- ENC_PULSE (R1). -/
def execEncPulse (s : State) : Host.Outcome State Fault Refusal :=
  .next (s.whenRunning fun s => s.pulse)

/-- TRAVEL_ADVANCE (R2): the pulses still wanting to P, with no other event among them (log entry 6). -/
def execTravelAdvance (s : State) : Host.Outcome State Fault Refusal :=
  .next (s.whenRunning fun s => s.advance)

/-- GATE_END (R6). -/
def execGateEnd (s : State) : Host.Outcome State Fault Refusal :=
  .next (s.whenRunning fun s => s.gateOver)

/-- EYE_RAW_CHANGE (R12); a level equal to the one held is no change. In a reset no change is started,
and the accepted state follows the raw input until the reset ends (R12, R183). -/
def execEyeRawChange (l : LaneNo) (k : EyeNo) (covered : Bool) (s : State) :
    Host.Outcome State Fault Refusal :=
  .next (if covered = (s.eye l k).raw then s
    else if s.isRunning then s.rawChange l k covered
    else s.setEye l k (.settled covered))

/-- EDGE_ACCEPTED (R13): the test of an eye's pending change. -/
def execEdgeAccepted (l : LaneNo) (k : EyeNo) (s : State) : Host.Outcome State Fault Refusal :=
  .next (s.whenRunning fun s => s.acceptIfDue l k)

/-- SCORCH_TIMER_EXPIRY (R156). -/
def execScorchTimerExpiry (s : State) : Host.Outcome State Fault Refusal :=
  .next (s.whenRunning fun s => s.scorchOver)

/-- ESTOP_ACTIVATION (R18): the input goes active; an activation, or a running hold abandoned. With
the accepted state active and no hold running, a level the input already has changes nothing. -/
def execEstopActivation (s : State) : Host.Outcome State Fault Refusal :=
  .next ((s.setEstopInput true).whenRunning fun s =>
    if s.estop then { s with estopHold := none } else s.activateEstop)

/-- ESTOP_INACTIVE_EDGE (R18): the input goes inactive; with the accepted state active the hold
starts. A level the input already has is no change, and a hold that runs goes on (log entry 5). -/
def execEstopInactiveEdge (s : State) : Host.Outcome State Fault Refusal :=
  .next (if s.inputs.estop then
      (s.setEstopInput false).whenRunning fun s =>
        if s.estop then { s with estopHold := some Config.estopHoldMs } else s
    else s)

/-- ESTOP_DEACTIVATION (R18): the hold ends. -/
def execEstopDeactivation (s : State) : Host.Outcome State Fault Refusal :=
  .next (s.whenRunning fun s => if s.estopHold.isSome then s.deactivateEstop else s)

end Sys2Proof.Machine
end

