-- ==== Sys2Proof/Machine/Operands.lean ====
section
/-!
DEFINITION. The operands of requests: the clamping of numeric values (R31, R34), the identifiers and
codes a value can name (R32, R185), and what a request's operands come to once clamped.
-/

namespace Sys2Proof.Machine

/-! ### Clamping (R31) -/

/-- A value moved to the nearer end of a range it lies outside. -/
def clampTo (lo hi x : Nat) : Nat := max lo (min x hi)

/-- Whether a value needs clamping. -/
def needsClamp (lo hi x : Nat) : Bool := decide (x < lo) || decide (hi < x)

/-- The result of a request that is carried out (R33). -/
def doneResult (clamped : Bool) : Result := if clamped then .clamped else .ok

/-! ### Identifiers and codes (R32, R185) -/

/-- A number 0 to 3: a lane or a station. -/
def fourOperand (b : Byte) : Option (Fin 4) :=
  if h : b.toNat < 4 then some ⟨b.toNat, h⟩ else none

def laneOperand (b : Byte) : Option LaneNo := fourOperand b

def stationOperand (b : Byte) : Option StationNo := fourOperand b

/-- A class a host can name, 1..15. -/
def classOperand (b : Byte) : Option ClassNo :=
  if h : b.toNat < 16 then (if b = 0 then none else some ⟨b.toNat, h⟩) else none

def widthOperand (b : Byte) : Option Width :=
  if b = 1 then some .full
  else if b = 2 then some .half
  else if b = 3 then some .quarter
  else none

def feedModeOperand (b : Byte) : Option FeedMode :=
  if b = 0 then some .single else if b = 1 then some .run else none

def arbModeOperand (b : Byte) : Option ArbMode :=
  if b = 0 then some .fixed else if b = 1 then some .rotating else none

/-- A code of 0 or 1: OFF and ON, UNMASKED and MASKED, LOW and HIGH. -/
def flagOperand (b : Byte) : Option Bool :=
  if b = 0 then some false else if b = 1 then some true else none

def planOperand (b : Byte) : Option PlanCode :=
  if b = 1 then some .p1 else if b = 2 then some .p2 else if b = 4 then some .p4 else none

/-- A kind code, 1..9 (R160). -/
def kindOperand (b : Byte) : Option Kind :=
  if b = 1 then some .estop
  else if b = 2 then some .scorch
  else if b = 3 then some .wrap
  else if b = 4 then some .jam
  else if b = 5 then some .stray
  else if b = 6 then some .stacker
  else if b = 7 then some .misfeed
  else if b = 8 then some .speedLow
  else if b = 9 then some .speedHigh
  else none

/-- The source of a line kind, which has index 0 alone (R165). -/
def lineSource (src : Source) (index : Byte) : Option Source := if index = 0 then some src else none

/-- The source of a kind with an index (R160, R165). -/
def Kind.source (k : Kind) (index : Byte) : Option Source :=
  match k with
  | .estop => lineSource .estop index
  | .scorch => lineSource .scorch index
  | .wrap => (laneOperand index).map .wrap
  | .jam => (laneOperand index).map .jam
  | .stray => (laneOperand index).map .stray
  | .stacker => (laneOperand index).map .stacker
  | .misfeed => (stationOperand index).map .misfeed
  | .speedLow => lineSource .speedLow index
  | .speedHigh => lineSource .speedHigh index

/-- The source a kind code and an index name. -/
def sourceOperand (kind index : Byte) : Option Source :=
  match kindOperand kind with
  | some k => k.source index
  | none => none

/-! ### CLASS_SET (R21) -/

/-- The entry a CLASS_SET writes. -/
def classEntryOf (o : ClassOperands) (w : Width) : ClassEntry :=
  { valid := true, lnom := clampTo 200 6000 o.lnom.toNat, tol := clampTo 0 1000 o.tol.toNat,
    leadGap := clampTo 0 3000 o.leadGap.toNat, trailGap := clampTo 0 3000 o.trailGap.toNat,
    width := w, fold := clampTo 1 7 o.fold.toNat, target := clampTo 1 100 o.target.toNat }

def classClamps (o : ClassOperands) : Bool :=
  needsClamp 200 6000 o.lnom.toNat || needsClamp 0 1000 o.tol.toNat ||
    needsClamp 0 3000 o.leadGap.toNat || needsClamp 0 3000 o.trailGap.toNat ||
    needsClamp 1 7 o.fold.toNat || needsClamp 1 100 o.target.toNat

/-! ### STATION_SET (R55) -/

/-- The parameters a STATION_SET writes. -/
def stationParamsOf (o : StationOperands) (m : FeedMode) : StationParams :=
  { drop := clampTo 0 5000 o.drop.toNat, openMs := clampTo 10 2000 o.openMs.toNat,
    dwellMs := o.dwellMs.toNat, returnMs := clampTo 10 5000 o.returnMs.toNat, mode := m,
    hold := clampTo 0 20000 o.hold.toNat }

/-- Td is 0..255, the whole of its byte, so it never needs clamping. -/
def stationClamps (o : StationOperands) : Bool :=
  needsClamp 0 5000 o.drop.toNat || needsClamp 10 2000 o.openMs.toNat ||
    needsClamp 10 5000 o.returnMs.toNat || needsClamp 0 20000 o.hold.toNat

/-! ### GEOMETRY_SET (R28) -/

/-- The geometry a GEOMETRY_SET writes. -/
def geometryOf (o : GeometryOperands) : Geometry :=
  { pos1 := clampTo 500 65000 o.pos1.toNat, pos2 := clampTo 500 65000 o.pos2.toNat,
    pos3 := clampTo 500 65000 o.pos3.toNat, w0 := clampTo 5 2000 o.w0.toNat,
    w1 := clampTo 5 2000 o.w1.toNat, w2 := clampTo 5 2000 o.w2.toNat,
    w3 := clampTo 5 2000 o.w3.toNat }

def geometryClamps (o : GeometryOperands) : Bool :=
  needsClamp 500 65000 o.pos1.toNat || needsClamp 500 65000 o.pos2.toNat ||
    needsClamp 500 65000 o.pos3.toNat || needsClamp 5 2000 o.w0.toNat ||
    needsClamp 5 2000 o.w1.toNat || needsClamp 5 2000 o.w2.toNat || needsClamp 5 2000 o.w3.toNat

/-- The order test, made on the clamped positions (R28). -/
def Geometry.inOrder (g : Geometry) : Bool := decide (g.pos1 < g.pos2) && decide (g.pos2 < g.pos3)

/-- A lane's geometry is configured (R27). -/
def Geometry.configured (g : Geometry) : Bool :=
  decide (g.pos1 ≠ 0) && decide (g.pos2 ≠ 0) && decide (g.pos3 ≠ 0)

/-! ### LINE_SET (R3, R10, R16, R63, R68, R139, R154, R168) -/

/-- The line parameters a LINE_SET writes. -/
def lineParamsOf (o : LineOperands) (mode : ArbMode) (attention : Bool) : LineParams :=
  { scale := clampTo 1 64 o.scale.toNat, fe := clampTo 0 50 o.fe.toNat,
    vlo := clampTo 0 2040 o.vlo.toNat, vhi := clampTo 0 2040 o.vhi.toNat,
    vs := clampTo 0 500 o.vs.toNat, tsc := clampTo 1 60 o.tsc.toNat,
    ts := clampTo 1 60 o.ts.toNat, gb := clampTo 0 5000 o.gb.toNat, mode := mode,
    attention := attention }

def lineClamps (o : LineOperands) : Bool :=
  needsClamp 1 64 o.scale.toNat || needsClamp 0 50 o.fe.toNat || needsClamp 0 2040 o.vlo.toNat ||
    needsClamp 0 2040 o.vhi.toNat || needsClamp 0 500 o.vs.toNat || needsClamp 1 60 o.tsc.toNat ||
    needsClamp 1 60 o.ts.toNat || needsClamp 0 5000 o.gb.toNat

/-! ### PLAN_SET (R26) -/

/-- The lane a map names for a station, a lane of the plan named. -/
def planLaneOperand (plan : PlanCode) (b : Byte) : Option LaneNo :=
  match laneOperand b with
  | some l => if plan.hasLane l then some l else none
  | none => none

/-- The plan and map a PLAN_SET names, if its codes and lanes pass (R26). -/
def planOperands (o : PlanOperands) : Option PlanPair :=
  match planOperand o.plan with
  | none => none
  | some p =>
    match planLaneOperand p o.lane0, planLaneOperand p o.lane1, planLaneOperand p o.lane2,
      planLaneOperand p o.lane3 with
    | some l0, some l1, some l2, some l3 => some { plan := p, map := ⟨l0, l1, l2, l3⟩ }
    | _, _, _, _ => none

/-! ### BATCH_LOAD (R41) -/

/-- The descriptor a BATCH_LOAD fills a slot with; an override of 0 is absent (R41, R42). -/
def batchOf (o : BatchOperands) (c : ClassNo) : Batch :=
  { id := o.id.toNat, cls := c, pieces := clampTo 1 9999 o.pieces.toNat,
    remaining := clampTo 1 9999 o.pieces.toNat,
    foldOverride := if o.fold = 0 then none else some (clampTo 1 7 o.fold.toNat) }

def batchClamps (o : BatchOperands) : Bool :=
  needsClamp 1 9999 o.pieces.toNat || needsClamp 0 7 o.fold.toNat

end Sys2Proof.Machine
end

