-- ==== Sys2Proof/Machine/Codes.lean ====
section
/-!
DEFINITION. What the part sends, as bytes: the codes of R160, R179 and R185, the reports (R185), the
record summaries (R94) and the reply data of the reading requests (R186).
-/

namespace Sys2Proof.Machine

/-! ### Numbers as bytes (R184) -/

def byteOf (n : Nat) : Byte := BitVec.ofNat 8 n

def wordOf (n : Nat) : List Byte := bytes2 (BitVec.ofNat 16 n)

def flagByte (b : Bool) : Byte := if b then 1 else 0

/-- Bytes of 0 for what does not apply. -/
def zeros (n : Nat) : List Byte := List.replicate n 0

/-! ### Codes -/

/-- R179. -/
def resultByte : Result → Byte
  | .ok => 0
  | .clamped => 1
  | .badLength => 2
  | .badValue => 3
  | .state => 4
  | .busy => 5
  | .full => 6
  | .tooLate => 7
  | .unknownCode => 8

def PlanCode.code : PlanCode → Byte
  | .p1 => 1
  | .p2 => 2
  | .p4 => 4

def StationState.code : StationState → Byte
  | .noBatch => 0
  | .waiting => 1
  | .loaded => 2
  | .armed => 3
  | .opening => 4
  | .dwell => 5
  | .returning => 6
  | .finishing => 7

def LaneState.code : LaneState → Byte
  | .closed => 0
  | .halted => 1
  | .opened => 2
  | .draining => 3

def NextEye.code : NextEye → Byte
  | .e0 => 0
  | .e1 => 1
  | .e2 => 2
  | .e3 => 3
  | .clear => 4

def RejectCause.code : RejectCause → Byte
  | .short => 1
  | .long => 2
  | .double => 3
  | .foreign => 4
  | .marked => 5
  | .foldMissed => 6

/-- The reject cause of a record, 0 for none. -/
def causeByte : Option RejectCause → Byte
  | none => 0
  | some c => c.code

def DoneOutcome.code : DoneOutcome → Byte
  | .stacked => 1
  | .rejected => 2
  | .unstacked => 3

def LostCause.code : LostCause → Byte
  | .misfeed => 1
  | .merged => 2
  | .missingE1 => 3
  | .missingE2 => 4
  | .missingE3 => 5
  | .stuckE0 => 6
  | .stuckE3 => 7
  | .purged => 8

def StackReason.code : StackReason → Byte
  | .full => 1
  | .batch => 2
  | .host => 3
  | .plan => 4

def FeedMode.code : FeedMode → Byte
  | .single => 0
  | .run => 1

/-- R160. -/
def Kind.code : Kind → Byte
  | .estop => 1
  | .scorch => 2
  | .wrap => 3
  | .jam => 4
  | .stray => 5
  | .stacker => 6
  | .misfeed => 7
  | .speedLow => 8
  | .speedHigh => 9

/-- The index of a source within its kind (R160). -/
def Source.index : Source → Byte
  | .estop => 0
  | .scorch => 0
  | .wrap l => byteOf l.val
  | .jam l => byteOf l.val
  | .stray l => byteOf l.val
  | .stacker l => byteOf l.val
  | .misfeed st => byteOf st.val
  | .speedLow => 0
  | .speedHigh => 0

/-! ### Reports (R185) -/

/-- An origin as a report gives it, 0xFF for NONE. -/
def originByte : Option StationNo → Byte
  | some st => byteOf st.val
  | none => 0xFF

/-- A report in its 12 bytes. -/
def Report.encode : Report → List Byte
  | .sheetDone tag l origin batch cls outcome cause =>
    [1] ++ wordOf tag ++ [byteOf l.val, originByte origin] ++ wordOf batch ++
      [byteOf cls.val, outcome.code, causeByte cause] ++ zeros 2
  | .sheetLost tag l origin batch cls lost cause =>
    [2] ++ wordOf tag ++ [byteOf l.val, originByte origin] ++ wordOf batch ++
      [byteOf cls.val, lost.code, causeByte cause] ++ zeros 2
  | .stackDone l batch cls count reason =>
    [3, byteOf l.val] ++ wordOf batch ++ [byteOf cls.val, byteOf count, reason.code] ++ zeros 5
  | .batchEnd st batch pieces delivered cancelled =>
    [4, byteOf st.val] ++ wordOf batch ++ wordOf pieces ++ wordOf delivered ++
      [flagByte cancelled] ++ zeros 3
  | .planDone pair =>
    [5, pair.plan.code] ++ pair.map.toList.map (fun l => byteOf l.val) ++ zeros 6

/-! ### Record summaries (R94, R186) -/

/-- Origin × 16 + class, with origin 15 for NONE. -/
def Record.originClass (r : Record) : Byte :=
  byteOf ((match r.origin with
    | some st => st.val
    | none => 15) * 16 + r.cls.val)

/-- The predicted LE0 while the next eye is E0, the LE0 afterwards (R94). -/
def Record.entryPosition (r : Record) : Pos :=
  match r.nextEye with
  | .e0 => r.predLe0.getD 0
  | _ => r.le0.getD 0

/-- A summary in its 16 bytes. -/
def Record.summary (r : Record) : List Byte :=
  wordOf r.tag ++ [r.originClass] ++ wordOf r.batch ++ [r.nextEye.code, causeByte r.cause,
    byteOf ((if r.te0.isSome then 1 else 0) + (if r.folded then 2 else 0))] ++
    bytes4 (r.releasePos.getD 0) ++ bytes4 r.entryPosition

/-! ### Reply data of the reading requests (R186) -/

/-- SHEETS_READ: the queue's length, the number of summaries and the summaries (R94). -/
def sheetsData (q : List Record) (start : Nat) : List Byte :=
  [byteOf q.length, byteOf ((q.drop start).take 8).length] ++
    ((q.drop start).take 8).flatMap Record.summary

/-- A batch slot (R57). -/
def slotData : Option Batch → List Byte
  | none => zeros 9
  | some b =>
    [1] ++ wordOf b.id ++ [byteOf b.cls.val] ++ wordOf b.pieces ++ wordOf b.remaining ++
      [byteOf (b.foldOverride.getD 0)]

/-- STATION_READ (R57). -/
def stationData (x : Station) (grant : Bool) : List Byte :=
  [x.state.code, flagByte grant, byteOf x.outstanding] ++ slotData x.current ++ slotData x.next ++
    wordOf x.params.drop ++ wordOf x.params.openMs ++ [byteOf x.params.dwellMs] ++
    wordOf x.params.returnMs ++ [x.params.mode.code] ++ wordOf x.params.hold

/-- The pocket: whether it holds a piece, and the piece's batch id. -/
def pocketData : Option PocketPiece → List Byte
  | none => zeros 3
  | some p => [1] ++ wordOf p.batch

/-- The stacking items of LANE_READ but the tally (R142). -/
def stackData (x : Stacker) : List Byte :=
  match x.state with
  | .empty => zeros 10
  | .building p =>
    [1] ++ wordOf p.batch ++ [byteOf p.cls.val, byteOf p.count, byteOf p.target] ++ zeros 4
  | .discharging out pocket =>
    [2] ++ wordOf out.batch ++ [byteOf out.cls.val, byteOf out.count, out.reason.code] ++
      pocketData pocket ++ [flagByte (decide (x.timer = .expired))]

/-- LANE_READ (R142, R159). -/
def laneData (ln : Lane) : List Byte :=
  [ln.state.code, byteOf ln.queue.length, byteOf ln.folder.queue.length] ++ stackData ln.stacker ++
    wordOf ln.stacker.tally

/-- Mask and level of a kind (R167). -/
def settingData (k : KindSetting) : List Byte := [flagByte k.masked, flagByte k.high]

/-- The latched sources in default order (R167). -/
def Alarms.latchedSources (a : Alarms) : List Source :=
  allSources.filter fun src => (a.latches.get src).latched

/-- A latched source: kind, index, count and cause (R167). -/
def Alarms.sourceData (a : Alarms) (src : Source) : List Byte :=
  [src.kind.code, src.index, byteOf (a.latches.get src).count, byteOf (a.latches.get src).cause]

/-- ALARM_READ (R167). -/
def Alarms.readData (a : Alarms) : List Byte :=
  settingData a.settings.jam ++ settingData a.settings.stray ++ settingData a.settings.stacker ++
    settingData a.settings.misfeed ++ settingData a.settings.speedLow ++
    settingData a.settings.speedHigh ++ [byteOf a.latchedSources.length] ++
    a.latchedSources.flatMap a.sourceData

end Sys2Proof.Machine
end

