-- ==== Sys2Proof/Machine/Flags.lean ====
section
/-!
DEFINITION. The status header of every reply (R179, R180): the flags of byte 0, the report count, the
current alarm and the lane states.
-/

namespace Sys2Proof.Machine

/-- The plan-change flag: the phase is TRACK or STACK (R143). -/
def State.planChanging (s : State) : Bool := decide (s.phase ≠ .noChange)

/-- A flag of byte 0 with its weight. -/
def flagBit (b : Bool) (weight : Nat) : Nat := if b then weight else 0

/-- Byte 0. -/
def State.flagsByte (s : State) : Byte :=
  byteOf (flagBit s.estop 1 + flagBit s.lineHold 2 + flagBit s.rollLift 4 +
    flagBit s.planChanging 8 + flagBit s.reports.lost 16 + flagBit s.link.overrun 32 +
    flagBit s.inputs.ironerRun 64)

/-- Bytes 2 to 4: kind, index and count of the current alarm, or zeros (R167). -/
def Alarms.currentData (a : Alarms) : List Byte :=
  match a.current with
  | none => zeros 3
  | some src => [src.kind.code, src.index, byteOf (a.latches.get src).count]

/-- Byte 5: L0 × 1 + L1 × 4 + L2 × 16 + L3 × 64. -/
def State.laneStatesByte (s : State) : Byte :=
  (s.lane 0).state.code + (s.lane 1).state.code * 4 + (s.lane 2).state.code * 16 +
    (s.lane 3).state.code * 64

/-- The six bytes of the status header. -/
def State.header (s : State) : List Byte :=
  [s.flagsByte, byteOf s.reports.queue.length] ++ s.alarms.currentData ++ [s.laneStatesByte]

end Sys2Proof.Machine
end

