-- ==== Sys2Proof/Machine/Reply.lean ====
section
/-!
DEFINITION. How a request is answered (R33, R175 to R177): the answer of the block that owns it, the
reply built from it, and the guard that discards a request while a reply is pending.
-/

namespace Sys2Proof.Machine

/-- What the owning block answers: a result, the reply data and the state after it. -/
structure Answer where
  result : Result
  data : List Byte
  state : State
deriving DecidableEq, Repr

/-- A refusal: no reply data and no change of state (R33, R176). -/
def refuse (r : Result) (s : State) : Answer := { result := r, data := [], state := s }

/-- A request carried out, with CLAMPED if a value was clamped (R33). -/
def carryOut (clamped : Bool) (data : List Byte) (s : State) : Answer :=
  { result := doneResult clamped, data := data, state := s }

/-- A request with one identifier to test: BAD_VALUE where it names nothing (R32). -/
def withOperand {α : Type} (x : Option α) (s : State) (f : α → Answer) : Answer :=
  match x with
  | none => refuse .badValue s
  | some a => f a

/-- The reply built from an answer: result, status header and data as they stand after the effects
(R176), the flags it shows, and whether a reset follows it (R183). -/
def Answer.reply (a : Answer) (code : Byte) : Reply :=
  { code := code,
    body := [resultByte a.result] ++ a.state.header ++ a.data,
    showsOverrun := a.state.link.overrun,
    showsLost := a.state.reports.lost,
    isFetch := decide (code = codeReportFetch),
    resets := decide (code = codeUnitReset) && decide (a.result = .ok),
    sending := false }

/-- The state with the reply pending (R177). -/
def State.respond (code : Byte) (a : Answer) : State :=
  { a.state with
    link := { a.state.link with reply := some (a.reply code), overrunSince := false },
    reports := { a.state.reports with lostSince := false } }

/-- A request discarded while a reply is pending sets the overrun flag (R177). -/
def State.discardRequest (s : State) : State :=
  { s with link := { s.link with overrun := true, overrunSince := true } }

/-- A request addressed to the unit, complete: discarded if a reply is pending, answered otherwise
(R175, R177). At address 0 no request is addressed to the unit (R170), and in a reset none is taken
(R183). -/
def State.request (s : State) (code : Byte) (answer : State → Answer) : State :=
  if s.isRunning ∧ s.link.address ≠ 0 then
    match s.link.reply with
    | some _ => s.discardRequest
    | none => State.respond code (answer s)
  else s

end Sys2Proof.Machine
end

