-- ==== Sys2Proof/Machine/Reads.lean ====
section
/-!
DEFINITION. The requests that read: POLL, REPORT_FETCH, SHEETS_READ, STATION_READ, LANE_READ and
ALARM_READ.
-/

namespace Sys2Proof.Machine

/-- POLL returns the status header alone (R180). -/
def answerPoll (s : State) : Answer := carryOut false [] s

/-- The oldest reports, removed and placed in the reply (R182). -/
def State.dropReports (s : State) (n : Nat) : State :=
  { s with reports := { s.reports with queue := s.reports.queue.drop n } }.refreshAttn

/-- The reply data of a fetch: n, then the n oldest reports, oldest first (R182). -/
def fetchData (q : List Report) (n : Nat) : List Byte :=
  [byteOf (q.take n).length] ++ (q.take n).flatMap Report.encode

/-- REPORT_FETCH (R182). -/
def answerReportFetch (max : Byte) (s : State) : Answer :=
  carryOut (needsClamp 1 8 max.toNat) (fetchData s.reports.queue (clampTo 1 8 max.toNat))
    (s.dropReports (clampTo 1 8 max.toNat))

/-- SHEETS_READ (R94). -/
def answerSheetsRead (lane start : Byte) (s : State) : Answer :=
  withOperand (laneOperand lane) s fun l => carryOut false (sheetsData (s.queue l) start.toNat) s

/-- STATION_READ (R57). -/
def answerStationRead (station : Byte) (s : State) : Answer :=
  withOperand (stationOperand station) s fun st =>
    carryOut false (stationData (s.station st) (s.holdsGrant st)) s

/-- LANE_READ (R142, R159). -/
def answerLaneRead (lane : Byte) (s : State) : Answer :=
  withOperand (laneOperand lane) s fun l => carryOut false (laneData (s.lane l)) s

/-- ALARM_READ (R167). -/
def answerAlarmRead (s : State) : Answer := carryOut false s.alarms.readData s

/-! ### The meanings of the rows -/

def execPoll (s : State) : Host.Outcome State Fault Refusal :=
  .next (s.request codePoll answerPoll)

def execReportFetch (max : Byte) (s : State) : Host.Outcome State Fault Refusal :=
  .next (s.request codeReportFetch (answerReportFetch max))

def execSheetsRead (lane start : Byte) (s : State) : Host.Outcome State Fault Refusal :=
  .next (s.request codeSheetsRead (answerSheetsRead lane start))

def execStationRead (station : Byte) (s : State) : Host.Outcome State Fault Refusal :=
  .next (s.request codeStationRead (answerStationRead station))

def execLaneRead (lane : Byte) (s : State) : Host.Outcome State Fault Refusal :=
  .next (s.request codeLaneRead (answerLaneRead lane))

def execAlarmRead (s : State) : Host.Outcome State Fault Refusal :=
  .next (s.request codeAlarmRead answerAlarmRead)

end Sys2Proof.Machine
end

