-- ==== Sys2Proof/Machine/Settings.lean ====
section
/-!
DEFINITION. The requests that set: CLASS_SET, STATION_SET, GEOMETRY_SET, LINE_SET, PLAN_SET and
ALARM_SET. Each is refused whole or carried out whole (R33).
-/

namespace Sys2Proof.Machine

/-! ### CLASS_SET (R21, R22) -/

/-- A slot names a class. -/
def slotNames (slot : Option Batch) (c : ClassNo) : Bool :=
  match slot with
  | some b => decide (b.cls = c)
  | none => false

/-- A class is named in the CURRENT or NEXT slot of a station (R22). -/
def State.classInUse (s : State) (c : ClassNo) : Bool :=
  allFour.any fun st => slotNames (s.station st).current c || slotNames (s.station st).next c

def State.setClass (s : State) (c : ClassNo) (e : ClassEntry) : State :=
  { s with classes := s.classes.set c e }

/-- CLASS_SET (R21, R22). -/
def answerClassSet (o : ClassOperands) (s : State) : Answer :=
  match classOperand o.cls, widthOperand o.width with
  | some c, some w =>
    if w ≠ (s.classEntry c).width ∧ s.classInUse c then refuse .busy s
    else carryOut (classClamps o) [] (s.setClass c (classEntryOf o w))
  | _, _ => refuse .badValue s

/-! ### STATION_SET (R55, R56) -/

/-- A station whose parameters may be written (R55). -/
def StationState.idle : StationState → Bool
  | .noBatch => true
  | .waiting => true
  | _ => false

/-- The parameters written; SINGLE gives a grant back, and RUN makes the run-hold test (R56). -/
def State.writeStation (s : State) (st : StationNo) (p : StationParams) : State :=
  match p.mode with
  | .single => (s.modStation st fun x => { x with params := p }).giveBack st
  | .run => (s.modStation st fun x => { x with params := p }).testHold st

/-- STATION_SET (R55, R56). -/
def answerStationSet (o : StationOperands) (s : State) : Answer :=
  match stationOperand o.station, feedModeOperand o.mode with
  | some st, some m =>
    if (s.station st).state.idle then
      carryOut (stationClamps o) [] (s.writeStation st (stationParamsOf o m))
    else refuse .busy s
  | _, _ => refuse .badValue s

/-! ### GEOMETRY_SET (R28, R29) -/

/-- A lane whose geometry may be written: HALTED or CLOSED with an empty queue (R29). -/
def State.geometryFree (s : State) (l : LaneNo) : Bool :=
  (decide ((s.lane l).state = .halted) || decide ((s.lane l).state = .closed)) &&
    (s.queue l).isEmpty

/-- GEOMETRY_SET (R28, R29). -/
def answerGeometrySet (o : GeometryOperands) (s : State) : Answer :=
  match laneOperand o.lane with
  | none => refuse .badValue s
  | some l =>
    if (geometryOf o).inOrder then
      if s.geometryFree l then
        carryOut (geometryClamps o) [] (s.modLane l fun ln => { ln with geometry := geometryOf o })
      else refuse .state s
    else refuse .badValue s

/-! ### LINE_SET (R3, R10, R16, R63, R155, R168) -/

/-- A lane is OPEN or DRAINING, which holds P and Fe (R3, R16). -/
def State.laneActive (s : State) : Bool :=
  allFour.any fun l =>
    decide ((s.lane l).state = .opened) || decide ((s.lane l).state = .draining)

/-- The parameters in force, with r cleared by a change of P (R3). -/
def State.putParams (s : State) (p : LineParams) : State :=
  { s with params := p, residual := if p.scale = s.params.scale then s.residual else 0 }

/-- All parameters written together, then what a change of one brings: the order lists (R63), the
scorch guard (R154), ATTN (R168) and the pending eye changes now due, in a free order (R16). -/
def State.writeLine (s : State) (p : LineParams) : State :=
  let s1 := s.putParams p
  let s2 := if p.mode = s.params.mode then s1 else s1.resetOrders
  let s3 := if p.vs = s.params.vs then s2 else s2.evalGuard
  let s4 := s3.refreshAttn
  if p.fe = s.params.fe then s4
  else inFreeOrder (fun e s => s.acceptIfDue e.1 e.2) s4.dueEyes s4

/-- LINE_SET (R3, R10, R16, R63, R68, R139, R154, R168). -/
def answerLineSet (o : LineOperands) (s : State) : Answer :=
  match arbModeOperand o.mode, flagOperand o.attention with
  | some m, some att =>
    if (lineParamsOf o m att).vhi < (lineParamsOf o m att).vlo then refuse .badValue s
    else if ((lineParamsOf o m att).scale ≠ s.params.scale ∨
        (lineParamsOf o m att).fe ≠ s.params.fe) ∧ s.laneActive then refuse .state s
    else carryOut (lineClamps o) [] (s.writeLine (lineParamsOf o m att))
  | _, _ => refuse .badValue s

/-! ### PLAN_SET (R24, R26, R150, R153) -/

/-- A class fits a plan when its width is the lane width of the plan or narrower (R24). -/
def Width.fits : Width → PlanCode → Bool
  | .full, .p1 => true
  | .half, .p1 => true
  | .quarter, .p1 => true
  | .full, .p2 => false
  | .half, .p2 => true
  | .quarter, .p2 => true
  | .full, .p4 => false
  | .half, .p4 => false
  | .quarter, .p4 => true

/-- A class fits a plan; FOREIGN fits none (R24). -/
def State.classFits (s : State) (c : ClassNo) (p : PlanCode) : Bool :=
  decide (c ≠ 0) && (s.classEntry c).width.fits p

def State.slotFits (s : State) (slot : Option Batch) (p : PlanCode) : Bool :=
  match slot with
  | some b => s.classFits b.cls p
  | none => true

/-- Every class in a slot fits a plan (R26). -/
def State.slotsFit (s : State) (p : PlanCode) : Bool :=
  allFour.all fun st => s.slotFits (s.station st).current p && s.slotFits (s.station st).next p

/-- A lane at the beginning of a plan change: OPEN and HALTED become DRAINING (R150). -/
def State.drainLane (s : State) (l : LaneNo) : State :=
  match (s.lane l).state with
  | .opened => s.leaveOpen l .draining
  | .halted => s.modLane l fun ln => { ln with state := .draining }
  | _ => s

/-- A plan change begins, with its tests made at once (R150). -/
def State.beginChange (s : State) (pair : PlanPair) : State :=
  { forEach (fun l s => s.drainLane l) allFour { s with planNext := some pair } with
    phase := .track }.planTest

/-- A lane at a withdrawal: DRAINING returns to HALTED (R153). -/
def State.undrainLane (s : State) (l : LaneNo) : State :=
  if (s.lane l).state = .draining then s.modLane l fun ln => { ln with state := .halted } else s

/-- A plan change withdrawn in TRACK (R153). -/
def State.withdrawChange (s : State) : State :=
  forEach (fun l s => s.undrainLane l) allFour { s with planNext := none, phase := .noChange }

/-- A PLAN_SET that has passed the tests of R26 (R150, R153). -/
def answerPlanTested (pair : PlanPair) (s : State) : Answer :=
  match s.phase with
  | .noChange => carryOut false [] (if pair = s.planNow then s else s.beginChange pair)
  | .track => if pair = s.planNow then carryOut false [] s.withdrawChange else refuse .busy s
  | .stack => refuse .busy s

/-- PLAN_SET (R26, R150, R153). -/
def answerPlanSet (o : PlanOperands) (s : State) : Answer :=
  withOperand (planOperands o) s fun pair =>
    if s.slotsFit pair.plan then answerPlanTested pair s else refuse .state s

/-! ### ALARM_SET (R163) -/

/-- The kind a code names, if it is maskable (R163). -/
def maskableOperand (b : Byte) : Option Kind :=
  match kindOperand b with
  | some .estop => none
  | some .scorch => none
  | some .wrap => none
  | k => k

/-- Mask and level written, then the current-alarm rule (R163, R164). -/
def State.writeSetting (s : State) (k : Kind) (x : KindSetting) : State :=
  { s with alarms := { s.alarms with settings := s.alarms.settings.set k x } }.applyAlarmRule

/-- ALARM_SET (R163). -/
def answerAlarmSet (kind mask level : Byte) (s : State) : Answer :=
  match maskableOperand kind, flagOperand mask, flagOperand level with
  | some k, some m, some h => carryOut false [] (s.writeSetting k { masked := m, high := h })
  | _, _, _ => refuse .badValue s

/-! ### The meanings of the rows -/

def execClassSet (o : ClassOperands) (s : State) : Host.Outcome State Fault Refusal :=
  .next (s.request codeClassSet (answerClassSet o))

def execStationSet (o : StationOperands) (s : State) : Host.Outcome State Fault Refusal :=
  .next (s.request codeStationSet (answerStationSet o))

def execGeometrySet (o : GeometryOperands) (s : State) : Host.Outcome State Fault Refusal :=
  .next (s.request codeGeometrySet (answerGeometrySet o))

def execLineSet (o : LineOperands) (s : State) : Host.Outcome State Fault Refusal :=
  .next (s.request codeLineSet (answerLineSet o))

def execPlanSet (o : PlanOperands) (s : State) : Host.Outcome State Fault Refusal :=
  .next (s.request codePlanSet (answerPlanSet o))

def execAlarmSet (kind mask level : Byte) (s : State) : Host.Outcome State Fault Refusal :=
  .next (s.request codeAlarmSet (answerAlarmSet kind mask level))

end Sys2Proof.Machine
end

