-- ==== Sys2Proof/Machine/Commands.lean ====
section
/-!
DEFINITION. The requests that command: batches (R41 to R46), lanes (R137, R145 to R148), HALT_ALL,
ALARM_ACK (R165), REJECT_MARK (R93) and UNIT_RESET (R183).
-/

namespace Sys2Proof.Machine

/-! ### Batches -/

/-- A class fits the plan in force and, during a change, the plan to come (R24). -/
def State.fitsPlans (s : State) (c : ClassNo) : Bool :=
  s.classFits c s.planNow.plan &&
    match s.planNext with
    | some pair => s.classFits c pair.plan
    | none => true

/-- A descriptor fills CURRENT, and the station goes to WAITING, or it fills NEXT (R42). -/
def Station.load (x : Station) (b : Batch) : Station :=
  match x.current with
  | none => { x with current := some b, state := .waiting }
  | some _ => { x with next := some b }

/-- The slot a load fills: CURRENT 0, NEXT 1 (R42, R186). -/
def Station.loadSlot (x : Station) : Byte := if x.current.isSome then 1 else 0

/-- The state tests of a BATCH_LOAD, and the load (R41, R42). -/
def answerLoadTested (st : StationNo) (b : Batch) (clamped : Bool) (s : State) : Answer :=
  if s.fitsPlans b.cls then
    if (s.station st).current.isSome ∧ (s.station st).next.isSome then refuse .full s
    else carryOut clamped [(s.station st).loadSlot] (s.modStation st fun x => x.load b)
  else refuse .state s

/-- BATCH_LOAD (R41, R42). -/
def answerBatchLoad (o : BatchOperands) (s : State) : Answer :=
  match stationOperand o.station, classOperand o.cls with
  | some st, some c =>
    if o.id ≠ 0 ∧ (s.classEntry c).valid then answerLoadTested st (batchOf o c) (batchClamps o) s
    else refuse .badValue s
  | _, _ => refuse .badValue s

/-- The batch id of a slot, 0 for none (R44). -/
def slotId : Option Batch → Nat
  | some b => b.id
  | none => 0

/-- BATCH_CANCEL of NEXT (R44). -/
def answerBatchCancelNext (station : Byte) (s : State) : Answer :=
  withOperand (stationOperand station) s fun st =>
    carryOut false (wordOf (slotId (s.station st).next))
      (s.modStation st fun x => { x with next := none })

/-- BATCH_CANCEL of CURRENT (R45, R46). -/
def answerBatchCancelCurrent (station : Byte) (s : State) : Answer :=
  withOperand (stationOperand station) s fun st =>
    match (s.station st).state with
    | .noBatch => refuse .state s
    | .opening => refuse .busy s
    | .dwell => refuse .busy s
    | .returning => refuse .busy s
    | .finishing => refuse .busy s
    | .waiting => carryOut false (wordOf (slotId (s.station st).current)) (s.completeBatch st true)
    | .loaded => carryOut false (wordOf (slotId (s.station st).current)) (s.completeBatch st true)
    | .armed => carryOut false (wordOf (slotId (s.station st).current)) (s.completeBatch st true)

/-! ### Lane commands -/

/-- What a RESUME of a HALTED lane asks for (R145). -/
def State.mayResume (s : State) (l : LaneNo) : Bool :=
  !(s.isLatched (.wrap l)) && !(s.isLatched (.jam l)) && !(s.isLatched (.stray l)) &&
    !(s.isLatched (.stacker l)) && !(s.isLatched .scorch) && !s.estop &&
    (s.lane l).geometry.configured

/-- A lane enters OPEN, and its arbiter decides (R60, R145). -/
def State.openLane (s : State) (l : LaneNo) : State :=
  (s.modLane l fun ln => { ln with state := .opened }).decideGrant l

/-- LANE_CMD RESUME (R145). -/
def answerResume (lane : Byte) (s : State) : Answer :=
  withOperand (laneOperand lane) s fun l =>
    match (s.lane l).state with
    | .opened => carryOut false [] s
    | .halted => if s.mayResume l then carryOut false [] (s.openLane l) else refuse .state s
    | .closed => refuse .state s
    | .draining => refuse .state s

/-- LANE_CMD HALT (R147). -/
def answerHalt (lane : Byte) (s : State) : Answer :=
  withOperand (laneOperand lane) s fun l =>
    match (s.lane l).state with
    | .opened => carryOut false [] (s.haltLane l)
    | .halted => carryOut false [] s
    | .closed => refuse .state s
    | .draining => refuse .state s

/-- LANE_CMD PURGE (R148). -/
def answerPurge (lane : Byte) (s : State) : Answer :=
  withOperand (laneOperand lane) s fun l =>
    match (s.lane l).state with
    | .halted => if s.inputs.ironerRun then refuse .state s else carryOut false [] (s.purgeLane l)
    | .draining => if s.inputs.ironerRun then refuse .state s else carryOut false [] (s.purgeLane l)
    | .opened => refuse .state s
    | .closed => refuse .state s

/-- LANE_CMD FLUSH (R137). -/
def answerFlush (lane : Byte) (s : State) : Answer :=
  withOperand (laneOperand lane) s fun l =>
    match (s.lane l).stacker.state with
    | .building _ => carryOut false [] (s.beginDischarge l .host none)
    | .empty => refuse .state s
    | .discharging _ _ => refuse .state s

/-- HALT_ALL addressed to the unit (R147). -/
def answerHaltAll (s : State) : Answer := carryOut false [] s.haltEvery

/-! ### ALARM_ACK (R165) -/

/-- Some WRAP source is latched (R157). -/
def State.wrapLatched (s : State) : Bool := allFour.any fun l => s.isLatched (.wrap l)

/-- LINE_HOLD and ROLL_LIFT after a source's latch has been cleared (R156, R157, R165). -/
def State.releaseLines (s : State) (src : Source) : State :=
  match src.kind with
  | .wrap => { s with lineHold := s.lineHold && s.wrapLatched }
  | .scorch => { s with rollLift := false }
  | _ => s

/-- A latched source is acknowledged (R165). -/
def State.clearLatch (s : State) (src : Source) : State :=
  ({ s with alarms :=
      { s.alarms with latches := s.alarms.latches.set src .clear } }.releaseLines
    src).applyAlarmRule

/-- ALARM_ACK (R165). -/
def answerAlarmAck (kind index : Byte) (s : State) : Answer :=
  withOperand (sourceOperand kind index) s fun src =>
    if s.isLatched src then carryOut false [] (s.clearLatch src) else refuse .state s

/-! ### REJECT_MARK (R93) -/

/-- The reply data of REJECT_MARK: the tag and the cause the record holds (R93, R176). -/
def markData (tag : BitVec 16) (r : Record) : List Byte := bytes2 tag ++ [causeByte r.cause]

/-- REJECT_MARK of a record (R93). -/
def answerMarkRecord (tag : BitVec 16) (l : LaneNo) (r : Record) (s : State) : Answer :=
  if r.folded then { result := .tooLate, data := markData tag r, state := s }
  else
    carryOut false (markData tag (r.giveCause .marked))
      (s.modRecord l tag.toNat (Record.giveCause .marked))

/-- REJECT_MARK (R93). -/
def answerRejectMark (tag : BitVec 16) (s : State) : Answer :=
  withOperand (s.laneWithTag tag.toNat) s fun l =>
    withOperand (s.findRecord l tag.toNat) s fun r => answerMarkRecord tag l r s

/-! ### UNIT_RESET (R183) -/

/-- UNIT_RESET addressed to the unit: a reply with the header of the state before the reset. The reset
begins at the end of that reply. -/
def answerUnitReset (s : State) : Answer := carryOut false [] s

/-! ### The meanings of the rows -/

def execBatchLoad (o : BatchOperands) (s : State) : Host.Outcome State Fault Refusal :=
  .next (s.request codeBatchLoad (answerBatchLoad o))

def execBatchCancelNext (station : Byte) (s : State) : Host.Outcome State Fault Refusal :=
  .next (s.request codeBatchCancel (answerBatchCancelNext station))

def execBatchCancelCurrent (station : Byte) (s : State) : Host.Outcome State Fault Refusal :=
  .next (s.request codeBatchCancel (answerBatchCancelCurrent station))

def execLaneCmdResume (lane : Byte) (s : State) : Host.Outcome State Fault Refusal :=
  .next (s.request codeLaneCmd (answerResume lane))

def execLaneCmdHalt (lane : Byte) (s : State) : Host.Outcome State Fault Refusal :=
  .next (s.request codeLaneCmd (answerHalt lane))

def execLaneCmdPurge (lane : Byte) (s : State) : Host.Outcome State Fault Refusal :=
  .next (s.request codeLaneCmd (answerPurge lane))

def execLaneCmdFlush (lane : Byte) (s : State) : Host.Outcome State Fault Refusal :=
  .next (s.request codeLaneCmd (answerFlush lane))

/-- HALT_ALL (R147); a broadcast is carried out whether or not a reply is pending, and not answered
(R178). -/
def execHaltAll (broadcast : Bool) (s : State) : Host.Outcome State Fault Refusal :=
  .next (if broadcast then s.whenRunning State.haltEvery else s.request codeHaltAll answerHaltAll)

def execAlarmAck (kind index : Byte) (s : State) : Host.Outcome State Fault Refusal :=
  .next (s.request codeAlarmAck (answerAlarmAck kind index))

def execRejectMark (tag : BitVec 16) (s : State) : Host.Outcome State Fault Refusal :=
  .next (s.request codeRejectMark (answerRejectMark tag))

/-- UNIT_RESET (R183); a broadcast begins the reset at once (R178). -/
def execUnitReset (broadcast : Bool) (s : State) : Host.Outcome State Fault Refusal :=
  .next (if broadcast then s.whenRunning State.beginReset
    else s.request codeUnitReset answerUnitReset)

end Sys2Proof.Machine
end

