-- ==== Sys2Proof/Machine/Link.lean ====
section
/-!
DEFINITION. The line link (chapter 11): the receiver, the handing on of a complete frame, and the
sending of a reply. The rows POLL to UNIT_RESET are the handing on of a frame already collected (log
entry 10); `State.handOn` does the same with the frame the receiver has collected.
-/

namespace Sys2Proof.Machine

/-! ### A request by its row -/

/-- What the owning block answers to a request; a command that is no request, which no frame spells
(Decode.parseRequest), is answered as an unknown code. -/
def answer (i : Instr) (s : State) : Answer :=
  match i with
  | .poll => answerPoll s
  | .reportFetch max => answerReportFetch max s
  | .sheetsRead lane start => answerSheetsRead lane start s
  | .stationRead station => answerStationRead station s
  | .laneRead lane => answerLaneRead lane s
  | .alarmRead => answerAlarmRead s
  | .classSet o => answerClassSet o s
  | .stationSet o => answerStationSet o s
  | .geometrySet o => answerGeometrySet o s
  | .lineSet o => answerLineSet o s
  | .planSet o => answerPlanSet o s
  | .alarmSet kind mask level => answerAlarmSet kind mask level s
  | .batchLoad o => answerBatchLoad o s
  | .batchCancelNext station => answerBatchCancelNext station s
  | .batchCancelCurrent station => answerBatchCancelCurrent station s
  | .laneCmdResume lane => answerResume lane s
  | .laneCmdHalt lane => answerHalt lane s
  | .laneCmdPurge lane => answerPurge lane s
  | .laneCmdFlush lane => answerFlush lane s
  | .haltAll _ => answerHaltAll s
  | .alarmAck kind index => answerAlarmAck kind index s
  | .rejectMark tag => answerRejectMark tag s
  | .unitReset _ => answerUnitReset s
  | .resetPin | .resetPinRelease | .resetEnd | .encPulse | .travelAdvance | .gateEnd
  | .eyeRawChange _ _ _ | .edgeAccepted _ _ | .deadlinePass _ | .runHoldExpiry _ | .release _
  | .pedalEdge _ | .openTimeExpiry _ | .dwellExpiry _ | .returnTimeExpiry _ | .foldStrobeEnd _
  | .foldGapEnd _ | .clearEdge _ | .stackerTimeout _ | .scorchTimerExpiry | .estopActivation
  | .estopInactiveEdge | .estopDeactivation | .linkCharacter _ | .linkBreak | .frameGapTimeout
  | .replyStart | .replyEnd | .lineRestedHigh => refuse .unknownCode s

/-- The answer to a frame: a refusal by the first test of R33, or that of the request it spells. -/
def answerFrame (code : Byte) (body : List Byte) (s : State) : Answer :=
  match parseRequest code body with
  | .refused r => refuse r s
  | .command i => answer i s

/-- A complete broadcast frame: HALT_ALL and UNIT_RESET with an empty body are carried out, whether or
not a reply is pending; any other is ignored (R178). -/
def State.takeBroadcast (s : State) (code : Byte) (body : List Byte) : State :=
  if body = [] then
    if code = codeHaltAll then s.haltEvery
    else if code = codeUnitReset then s.beginReset
    else s
  else s

/-- A complete frame handed on (R175, R178). -/
def State.handOn (s : State) (f : RxFrame) : State :=
  if f.broadcast then s.takeBroadcast f.code f.body
  else s.request f.code (answerFrame f.code f.body)

/-! ### The receiver (R172 to R174) -/

def State.setReceiver (s : State) (r : Receiver) : State :=
  { s with link := { s.link with receiver := r } }

/-- A frame started at its address character. -/
def RxFrame.start (broadcast : Bool) : RxFrame :=
  { broadcast := broadcast, step := .len, len := 0, code := 0, left := 0, body := [] }

/-- An address character in HUNTING: the unit's own address, 1..15, or 0x00 starts a frame (R172). -/
def Link.address? (k : Link) (d : Byte) : Receiver :=
  if d = 0 then .receiving (.start true)
  else if d = k.address.setWidth 8 then .receiving (.start false)
  else .hunting

/-- The sum of R173 over a frame with the check byte given. -/
def RxFrame.sum (f : RxFrame) (chk : Byte) : Byte := f.len + f.code + byteSum f.body + chk

/-- A data character at a step before CHK (R173, R174). -/
def RxFrame.take (f : RxFrame) (d : Byte) : Receiver :=
  match f.step with
  | .len => if 240 < d.toNat then .hunting else .receiving { f with len := d, step := .code }
  | .code =>
    .receiving { f with code := d, left := f.len.toNat,
                        step := if f.len = 0 then .chk else .body }
  | .body =>
    .receiving { f with body := f.body ++ [d], left := f.left - 1,
                        step := if f.left ≤ 1 then .chk else .body }
  | .chk => .hunting

/-- A data character in RECEIVING (R173): at CHK the frame is handed on if the sum is 0, and abandoned
if not. -/
def State.takeData (s : State) (f : RxFrame) (d : Byte) : State :=
  match f.step with
  | .chk =>
    if f.sum d = 0 then (s.setReceiver .hunting).handOn f else s.setReceiver .hunting
  | _ => s.setReceiver (f.take d)

/-- A character with a good start bit taken by the receiver (R172 to R174). -/
def State.hear (s : State) (bits : BitVec 11) : State :=
  if framingError bits then s.setReceiver .hunting
  else if characterMarker bits then s.setReceiver (s.link.address? (characterData bits))
  else
    match s.link.receiver with
    | .hunting => s
    | .receiving f => s.takeData f (characterData bits)

/-- Characters are taken outside a reset, once the line has rested (R172, R174, R183); eleven bit
times without a start bit are no character (R169; log entry 11). -/
def State.takesCharacter (s : State) (bits : BitVec 11) : Bool :=
  s.isRunning && s.link.lineRested && startBitLow bits

/-- A break: in RECEIVING it abandons the frame, and the line is ignored until it has been high for
one character time; in HUNTING it changes nothing (R174). -/
def State.lineBreak (s : State) : State :=
  match s.link.receiver with
  | .hunting => s
  | .receiving _ => { s with link := { s.link with receiver := .hunting, lineRested := false } }

/-! ### Sending a reply (R176, R177, R182, R183) -/

/-- The characters of a reply as the line carries them (R171, R176). -/
def State.replyCharacters (s : State) (r : Reply) : List (BitVec 11) :=
  frameCharacters (0x80 + s.link.address.setWidth 8) r.code r.body

/-- The reply begins: it stays pending, and the receiver hears its address character, which concerns
no unit as a request (R171, R176). -/
def State.startReply (s : State) : State :=
  match s.link.reply with
  | some r =>
    if r.sending then s
    else { s with link := { s.link with reply := some { r with sending := true },
                                        receiver := .hunting } }
  | none => s

/-- The flags at the end of a reply: overrun is cleared if the reply showed it and no request has been
discarded since it was built (R177), reports-lost if a REPORT_FETCH reply showed it and no report has
been discarded since (R182). -/
def State.clearShown (s : State) (r : Reply) : State :=
  { s with
    link := { s.link with
      reply := none,
      overrun := s.link.overrun && !(r.showsOverrun && !s.link.overrunSince),
      overrunSince := false },
    reports := { s.reports with
      lost := s.reports.lost && !(r.isFetch && r.showsLost && !s.reports.lostSince),
      lostSince := false } }

/-- The last character of a reply has been sent; a reset asked for by UNIT_RESET then begins (R177,
R182, R183). -/
def State.endReply (s : State) : State :=
  match s.link.reply with
  | some r =>
    if r.sending then (if r.resets then (s.clearShown r).beginReset else s.clearShown r) else s
  | none => s

/-! ### The meanings of the rows -/

/-- LINK_CHARACTER (R172, R173). -/
def execLinkCharacter (bits : BitVec 11) (s : State) : Host.Outcome State Fault Refusal :=
  .next (if s.takesCharacter bits then s.hear bits else s)

/-- LINK_BREAK (R174). -/
def execLinkBreak (s : State) : Host.Outcome State Fault Refusal :=
  .next (s.whenRunning State.lineBreak)

/-- FRAME_GAP_TIMEOUT (R174). -/
def execFrameGapTimeout (s : State) : Host.Outcome State Fault Refusal :=
  .next (s.whenRunning fun s => s.setReceiver .hunting)

/-- LINE_RESTED_HIGH (R172, R174): after the break or the reset the receiver takes characters again. -/
def execLineRestedHigh (s : State) : Host.Outcome State Fault Refusal :=
  .next (s.whenRunning fun s => { s with link := { s.link with lineRested := true } })

/-- REPLY_START (R176). -/
def execReplyStart (s : State) : Host.Outcome State Fault Refusal :=
  .next (s.whenRunning State.startReply)

/-- REPLY_END (R177). -/
def execReplyEnd (s : State) : Host.Outcome State Fault Refusal :=
  .next (s.whenRunning State.endReply)

end Sys2Proof.Machine
end

