-- ==== Sys2Proof/Machine/Time.lean ====
section
/-!
DEFINITION. Time, which passes while no command waits (log entry 3): the rows due because an interval
of whole milliseconds has run out, and the passing of one millisecond.
-/

namespace Sys2Proof.Machine

/-! ### Intervals that have run out -/

/-- The row that ends a station's clamp timer: To, Td or Tr by the state (R38 to R40). -/
def Station.dueRow (x : Station) (st : StationNo) : List Instr :=
  match x.timer, x.state with
  | some 0, .opening => [.openTimeExpiry st]
  | some 0, .dwell => [.dwellExpiry st]
  | some 0, .returning => [.returnTimeExpiry st]
  | _, _ => []

/-- The row that ends a fold timer (R124). -/
def Folder.dueRow (f : Folder) (l : LaneNo) : List Instr :=
  match f.timer, f.phase with
  | some 0, .strobe => [.foldStrobeEnd l]
  | some 0, .gap => [.foldGapEnd l]
  | _, _ => []

/-- The expiry of a running stacker timer (R135). -/
def Stacker.dueRow (x : Stacker) (l : LaneNo) : List Instr :=
  match x.timer with
  | .running 0 => [.stackerTimeout l]
  | _ => []

/-- The expiry of a running scorch timer (R156). -/
def GuardTimer.dueRow : GuardTimer → List Instr
  | .running 0 => [.scorchTimerExpiry]
  | _ => []

/-- The rows due outside a reset. -/
def State.dueRunning (s : State) : List Instr :=
  (if s.gateLeft = 0 then [.gateEnd] else []) ++
    allFour.flatMap (fun st => (s.station st).dueRow st) ++
    allFour.flatMap (fun l => (s.lane l).folder.dueRow l) ++
    allFour.flatMap (fun l => (s.lane l).stacker.dueRow l) ++
    s.scorch.dueRow ++
    (if s.estopHold = some 0 then [.estopDeactivation] else [])

/-- The rows due. -/
def State.dueRows (s : State) : List Instr :=
  match s.resetPhase with
  | .running => s.dueRunning
  | .held => []
  | .interval ms => if ms = 0 then [.resetEnd] else []

/-! ### One millisecond -/

def Station.pass (x : Station) : Station := { x with timer := x.timer.map Nat.pred }

def Folder.pass (f : Folder) : Folder := { f with timer := f.timer.map Nat.pred }

/-- A running timer falls; a suspended one does not (R135). -/
def Stacker.pass (x : Stacker) : Stacker :=
  { x with timer := match x.timer with
      | .running ms => .running (ms - 1)
      | t => t }

def GuardTimer.pass : GuardTimer → GuardTimer
  | .running ms => .running (ms - 1)
  | t => t

def Lane.pass (ln : Lane) : Lane := { ln with folder := ln.folder.pass, stacker := ln.stacker.pass }

/-- Every running timer of the blocks falls by one millisecond. -/
def State.passTimers (s : State) : State :=
  { s with gateLeft := s.gateLeft - 1, stations := s.stations.map Station.pass,
           lanes := s.lanes.map Lane.pass, scorch := s.scorch.pass,
           estopHold := s.estopHold.map Nat.pred }

/-- The inputs that no row changes take free levels (log entry 9). -/
def State.sampleInputs (s : State) : State :=
  { s with inputs := { s.inputs with
             ironerRun := Config.ironerRunInput s.freeDraws,
             addrSwitches := Config.addrSwitchInput s.freeDraws,
             baudSwitches := Config.baudSwitchInput s.freeDraws },
           freeDraws := s.freeDraws + 1 }

/-- One millisecond passes: in the reset interval the interval alone runs, and while the RESET pin is
held nothing does (R183). -/
def State.passMs (s : State) : State :=
  match s.resetPhase with
  | .running => s.passTimers.sampleInputs
  | .held => s.sampleInputs
  | .interval ms => { s with resetPhase := .interval (ms - 1) }.sampleInputs

end Sys2Proof.Machine
end

