-- ==== Sys2Proof/Machine/Dispatch.lean ====
section
/-!
DEFINITION. One arm for each command, each a direct call of its meaning.
-/

namespace Sys2Proof.Machine

def exec (i : Instr) (s : State) : Host.Outcome State Fault Refusal :=
  match i with
  | .resetPin => Sys2Proof.Machine.execResetPin s
  | .resetPinRelease => Sys2Proof.Machine.execResetPinRelease s
  | .resetEnd => Sys2Proof.Machine.execResetEnd s
  | .encPulse => Sys2Proof.Machine.execEncPulse s
  | .travelAdvance => Sys2Proof.Machine.execTravelAdvance s
  | .gateEnd => Sys2Proof.Machine.execGateEnd s
  | .eyeRawChange lane eye covered => Sys2Proof.Machine.execEyeRawChange lane eye covered s
  | .edgeAccepted lane eye => Sys2Proof.Machine.execEdgeAccepted lane eye s
  | .deadlinePass tag => Sys2Proof.Machine.execDeadlinePass tag s
  | .runHoldExpiry station => Sys2Proof.Machine.execRunHoldExpiry station s
  | .release lane => Sys2Proof.Machine.execRelease lane s
  | .pedalEdge station => Sys2Proof.Machine.execPedalEdge station s
  | .openTimeExpiry station => Sys2Proof.Machine.execOpenTimeExpiry station s
  | .dwellExpiry station => Sys2Proof.Machine.execDwellExpiry station s
  | .returnTimeExpiry station => Sys2Proof.Machine.execReturnTimeExpiry station s
  | .foldStrobeEnd lane => Sys2Proof.Machine.execFoldStrobeEnd lane s
  | .foldGapEnd lane => Sys2Proof.Machine.execFoldGapEnd lane s
  | .clearEdge lane => Sys2Proof.Machine.execClearEdge lane s
  | .stackerTimeout lane => Sys2Proof.Machine.execStackerTimeout lane s
  | .scorchTimerExpiry => Sys2Proof.Machine.execScorchTimerExpiry s
  | .estopActivation => Sys2Proof.Machine.execEstopActivation s
  | .estopInactiveEdge => Sys2Proof.Machine.execEstopInactiveEdge s
  | .estopDeactivation => Sys2Proof.Machine.execEstopDeactivation s
  | .linkCharacter bits => Sys2Proof.Machine.execLinkCharacter bits s
  | .linkBreak => Sys2Proof.Machine.execLinkBreak s
  | .frameGapTimeout => Sys2Proof.Machine.execFrameGapTimeout s
  | .replyStart => Sys2Proof.Machine.execReplyStart s
  | .replyEnd => Sys2Proof.Machine.execReplyEnd s
  | .poll => Sys2Proof.Machine.execPoll s
  | .reportFetch max => Sys2Proof.Machine.execReportFetch max s
  | .sheetsRead lane start => Sys2Proof.Machine.execSheetsRead lane start s
  | .stationRead station => Sys2Proof.Machine.execStationRead station s
  | .laneRead lane => Sys2Proof.Machine.execLaneRead lane s
  | .alarmRead => Sys2Proof.Machine.execAlarmRead s
  | .classSet o => Sys2Proof.Machine.execClassSet o s
  | .stationSet o => Sys2Proof.Machine.execStationSet o s
  | .geometrySet o => Sys2Proof.Machine.execGeometrySet o s
  | .lineSet o => Sys2Proof.Machine.execLineSet o s
  | .planSet o => Sys2Proof.Machine.execPlanSet o s
  | .alarmSet kind mask level => Sys2Proof.Machine.execAlarmSet kind mask level s
  | .batchLoad o => Sys2Proof.Machine.execBatchLoad o s
  | .batchCancelNext station => Sys2Proof.Machine.execBatchCancelNext station s
  | .batchCancelCurrent station => Sys2Proof.Machine.execBatchCancelCurrent station s
  | .laneCmdResume lane => Sys2Proof.Machine.execLaneCmdResume lane s
  | .laneCmdHalt lane => Sys2Proof.Machine.execLaneCmdHalt lane s
  | .laneCmdPurge lane => Sys2Proof.Machine.execLaneCmdPurge lane s
  | .laneCmdFlush lane => Sys2Proof.Machine.execLaneCmdFlush lane s
  | .haltAll broadcast => Sys2Proof.Machine.execHaltAll broadcast s
  | .alarmAck kind index => Sys2Proof.Machine.execAlarmAck kind index s
  | .rejectMark tag => Sys2Proof.Machine.execRejectMark tag s
  | .unitReset broadcast => Sys2Proof.Machine.execUnitReset broadcast s
  | .lineRestedHigh => Sys2Proof.Machine.execLineRestedHigh s

end Sys2Proof.Machine
end

