-- ==== Sys2Proof/Machine/Step.lean ====
section
/-!
DEFINITION. One step of the part: the command at the front of its queue or, with none waiting, the
clock.
-/

namespace Sys2Proof.Machine

/-- No command waits: one interval that has run out is ended, which one by a free choice, or one
millisecond passes (log entry 3). -/
def idleStep (s : State) : Host.Outcome State Fault Refusal :=
  match s.draw s.dueRows.length with
  | (i, s') =>
    match s.dueRows[i]? with
    | some row => exec row s'
    | none => .next s.passMs

/-- The command at the front is taken, with the rest waiting. -/
def step (s : State) : Host.Outcome State Fault Refusal :=
  match s.pending with
  | c :: rest => exec c { s with pending := rest }
  | [] => idleStep s

/-- The command a word spells, put at the front of the queue; no word spells one (log entry 22). -/
def State.withFetchWord (s : State) (nbits w : Nat) : State :=
  match decodeTableWord nbits w with
  | some c => { s with pending := c :: s.pending }
  | none => s

end Sys2Proof.Machine
end

