-- ==== Sys2Proof/Safety.lean ====
section
/-!
DEFINITION. What holds of the part in every state it reaches, as the spec's rules say it: one
predicate for each kind of state. Each is decidable, so a state can be tested against it.
-/

namespace Sys2Proof.Machine

/-! ### Taking commands and answering requests -/

/-- The commands taken one after another. -/
def runAll : List Instr → State → Host.Outcome State Fault Refusal
  | [], s => .next s
  | c :: rest, s =>
    match exec c s with
    | .next t => runAll rest t
    | out => out

/-- The unit takes a request addressed to it: it is not in a reset, it has an address, and no reply is
pending (R170, R175, R183). -/
abbrev State.Ready (s : State) : Prop :=
  s.resetPhase = .running ∧ s.link.address ≠ 0 ∧ s.link.reply = none

/-- The state with the reply pending that shows it: the result byte, the status header of this state
and the reply data (R176), and whether a reset follows the reply (R183). -/
def State.answered (s : State) (code : Byte) (result : Result) (data : List Byte) (resets : Bool) :
    State :=
  { s with
    link := { s.link with
      reply := some
        { code := code, body := resultByte result :: (s.header ++ data),
          showsOverrun := s.link.overrun, showsLost := s.reports.lost,
          isFetch := decide (code = 0x02), resets := resets, sending := false },
      overrunSince := false },
    reports := { s.reports with lostSince := false } }

/-! ### Line outputs (R156, R157, R168) -/

/-- LINE_HOLD, ROLL_LIFT and ATTN are asserted exactly while their conditions hold. -/
abbrev State.LinesAgree (s : State) : Prop :=
  s.lineHold = s.wrapLatched ∧ s.rollLift = s.isLatched .scorch ∧
    s.attn = (s.alarms.current.isSome || (s.params.attention && !s.reports.queue.isEmpty))

/-! ### Alarm unit (R161, R164) -/

/-- A clear latch has count 0 and cause 0, a set latch a count of 1..255. -/
abbrev Latch.Sound (x : Latch) : Prop :=
  (x.latched = false → x.count = 0 ∧ x.cause = 0) ∧
    (x.latched = true → 1 ≤ x.count ∧ x.count ≤ 255)

/-- Every latch is sound, and the current source is one the current-alarm rule keeps. -/
abbrev State.AlarmsSound (s : State) : Prop :=
  (∀ src ∈ allSources, (s.alarms.latches.get src).Sound) ∧ s.alarms.applyRule = s.alarms

/-! ### Ranges (R1, R5, R6, section 2.1, section 2.3, R38, R43) -/

/-- A geometry is in its ranges; the positions are all 0 in a lane that has never been given them. -/
abbrev Geometry.InRange (g : Geometry) : Prop :=
  g.pos1 ≤ 65000 ∧ g.pos2 ≤ 65000 ∧ g.pos3 ≤ 65000 ∧
    (g.configured = true → 500 ≤ g.pos1 ∧ g.pos1 < g.pos2 ∧ g.pos2 < g.pos3) ∧
      (5 ≤ g.w0 ∧ g.w0 ≤ 2000) ∧ (5 ≤ g.w1 ∧ g.w1 ≤ 2000) ∧ (5 ≤ g.w2 ∧ g.w2 ≤ 2000) ∧
        (5 ≤ g.w3 ∧ g.w3 ≤ 2000)

abbrev StationParams.InRange (p : StationParams) : Prop :=
  p.drop ≤ 5000 ∧ (10 ≤ p.openMs ∧ p.openMs ≤ 2000) ∧ p.dwellMs ≤ 255 ∧
    (10 ≤ p.returnMs ∧ p.returnMs ≤ 5000) ∧ p.hold ≤ 20000

abbrev LineParams.InRange (p : LineParams) : Prop :=
  (1 ≤ p.scale ∧ p.scale ≤ 64) ∧ p.fe ≤ 50 ∧ p.vlo ≤ p.vhi ∧ p.vhi ≤ 2040 ∧ p.vs ≤ 500 ∧
    (1 ≤ p.tsc ∧ p.tsc ≤ 60) ∧ (1 ≤ p.ts ∧ p.ts ≤ 60) ∧ p.gb ≤ 5000

/-- The counters, the filtered speed and the parameters that are set are in their ranges. -/
abbrev State.RangesSound (s : State) : Prop :=
  s.residual < s.params.scale ∧ s.gateCount ≤ 255 ∧ s.speed ≤ 2040 ∧ s.params.InRange ∧
    (∀ l : LaneNo, (s.lane l).geometry.InRange) ∧
      ∀ st : StationNo, (s.station st).params.InRange

/-- The fields of a class entry are in their ranges. -/
abbrev ClassEntry.InRange (e : ClassEntry) : Prop :=
  (200 ≤ e.lnom ∧ e.lnom ≤ 6000) ∧ e.tol ≤ 1000 ∧ e.leadGap ≤ 3000 ∧ e.trailGap ≤ 3000 ∧
    (1 ≤ e.fold ∧ e.fold ≤ 7) ∧ (1 ≤ e.target ∧ e.target ≤ 100)

/-- Every entry of the class table is in its ranges (section 2.1). -/
abbrev State.ClassesSound (s : State) : Prop := ∀ c : ClassNo, s.classes[c].InRange

/-! ### Stations (section 3.1, R39) -/

/-- A batch in a slot (R41, R48). -/
abbrev Batch.Sound (b : Batch) : Prop := 1 ≤ b.id ∧ b.remaining ≤ b.pieces ∧ 1 ≤ b.pieces ∧ b.cls ≠ 0

/-- The clamp outputs and the clamp timer are as the table of station states gives them, the slots
fill from CURRENT on, and a station that can feed has a piece left to feed. -/
abbrev Station.Sound (x : Station) : Prop :=
  (x.openOut = decide (x.state = .opening)) ∧ (x.returnOut = decide (x.state = .returning)) ∧
    x.timer.isSome = x.state.inCycle ∧ x.current.isNone = decide (x.state = .noBatch) ∧
      (x.next.isSome = true → x.current.isSome = true) ∧
        (∀ b ∈ x.current, b.Sound) ∧
          (∀ b ∈ x.next, b.Sound ∧ b.remaining = b.pieces) ∧
            (∀ b ∈ x.current,
              x.state = .waiting ∨ x.state = .loaded ∨ x.state = .armed → 1 ≤ b.remaining) ∧
              ∀ b ∈ x.current, x.state = .finishing →
                b.remaining = 0 ∧ 1 ≤ x.outstanding

abbrev State.StationsSound (s : State) : Prop := ∀ st : StationNo, (s.station st).Sound

/-! ### Lanes and plans (section 2.2, R143, R150) -/

/-- A plan to come is held exactly during a change; the stations feed lanes of the plan in force; the
lanes outside it are CLOSED, and those of it are OPEN or HALTED, or DRAINING during a change. -/
abbrev State.PlanSound (s : State) : Prop :=
  s.planNext.isSome = decide (s.phase ≠ .noChange) ∧
    (∀ st : StationNo, s.planNow.plan.hasLane (s.laneOf st) = true) ∧
      (∀ pair ∈ s.planNext, ∀ st : StationNo, pair.plan.hasLane (pair.map.get st) = true) ∧
        ∀ l : LaneNo,
          if s.planNow.plan.hasLane l = false then (s.lane l).state = .closed
          else if s.phase = .noChange then (s.lane l).state = .opened ∨ (s.lane l).state = .halted
          else (s.lane l).state = .draining

/-- The class of every batch in a slot fits the plan in force and, during a change, the plan to come
(R25). -/
abbrev State.FitSound (s : State) : Prop :=
  ∀ st : StationNo,
    (∀ b ∈ (s.station st).current, s.classFits b.cls s.planNow.plan = true ∧
      ∀ pair ∈ s.planNext, s.classFits b.cls pair.plan = true) ∧
    ∀ b ∈ (s.station st).next, s.classFits b.cls s.planNow.plan = true ∧
      ∀ pair ∈ s.planNext, s.classFits b.cls pair.plan = true

/-- A CLOSED lane holds no record and its stacking unit is EMPTY; in phase STACK no unit of a DRAINING
lane is BUILDING (R138, R143). -/
abbrev State.ClosedSound (s : State) : Prop :=
  ∀ l : LaneNo,
    ((s.lane l).state = .closed → s.queue l = [] ∧ (s.lane l).stacker.state = .empty) ∧
      (s.phase = .stack → (s.lane l).state = .draining →
        (s.lane l).stacker.state = .empty ∨ (s.lane l).stacker.state.isDischarging = true)

/-- While the accepted state of ESTOP is active no lane is OPEN and no station is in its clamp cycle
(R53, R145, R158). -/
abbrev State.StopSound (s : State) : Prop :=
  s.estop = true →
    (∀ l : LaneNo, (s.lane l).state ≠ .opened) ∧
      ∀ st : StationNo, (s.station st).state.inCycle = false

/-- The hold of a deactivation runs only with ESTOP accepted as active and its input inactive; outside
a reset an active input has been accepted (R18). -/
abbrev State.EstopSound (s : State) : Prop :=
  (s.estopHold.isSome = true → s.estop = true ∧ s.inputs.estop = false) ∧
    (s.resetPhase = .running → s.inputs.estop = true → s.estop = true)

/-! ### Arbiters (R58, R59, R61, R78) -/

/-- The order list of each lane holds each station mapped to the lane once, and no other (R59). -/
abbrev State.OrdersSound (s : State) : Prop :=
  ∀ l : LaneNo, (s.lane l).order.Nodup ∧ ∀ st : StationNo, st ∈ (s.lane l).order ↔ s.laneOf st = l

/-- The station a decision grants: of those LOADED and mapped to the lane, the one of lowest number in
FIXED mode and the earliest in the order list in ROTATING mode (R61). -/
abbrev State.Chosen (s : State) (l : LaneNo) (st : StationNo) : Prop :=
  s.laneOf st = l ∧ (s.station st).state = .loaded ∧
    ((s.params.mode = .fixed ∧
        ∀ su, su < st → s.laneOf su = l → (s.station su).state ≠ .loaded) ∨
      (s.params.mode = .rotating ∧ st ∈ (s.lane l).order ∧
        ∀ su ∈ (s.lane l).order.takeWhile (fun y => decide (y ≠ st)),
          s.laneOf su = l → (s.station su).state ≠ .loaded))

/-- The state with a station ARMED, with its lane's grant and a release point. -/
def State.granted (s : State) (l : LaneNo) (st : StationNo) (p : Option Pos) : State :=
  (s.setStation st { s.station st with state := .armed }).setLane l
    { s.lane l with grant := some st, releasePoint := p }

/-- The grant of a lane given back to its arbiter, with the decision that brings while the lane is OPEN:
no station is LOADED and the grant stays free, or the station chosen takes the grant with its release
point worked out, and its release test is made (R60, R61, R64). -/
def State.GaveBack (s : State) (l : LaneNo) (t : State) : Prop :=
  ∃ g : State, g = s.setLane l { s.lane l with grant := none, releasePoint := none } ∧
    ((((s.lane l).state ≠ .opened ∨ ∀ su, s.laneOf su = l → (s.station su).state ≠ .loaded) ∧
        t = g) ∨
      ∃ su, (s.lane l).state = .opened ∧ g.Chosen l su ∧
        exec (.release l) (g.granted l su (g.workedPoint l su)) = .next t)

/-- A grant is held only in an OPEN lane, by a station mapped to it; an ARMED station holds its lane's
grant; a release point stands only where the holder is ARMED. -/
abbrev State.GrantsSound (s : State) : Prop :=
  (∀ (l : LaneNo) (st : StationNo), (s.lane l).grant = some st →
      (s.lane l).state = .opened ∧ s.laneOf st = l) ∧
    (∀ st : StationNo, (s.station st).state = .armed → s.holdsGrant st = true) ∧
      ∀ l : LaneNo, (s.lane l).releasePoint.isSome = true → (s.armedStation l).isSome = true

/-! ### Fold interfaces (R122) -/

/-- Queue, outputs and timer are as each phase has them. -/
abbrev Folder.Sound (f : Folder) : Prop :=
  f.queue.length ≤ Config.foldSlots ∧
    (f.phase = .idle → f.queue = [] ∧ f.timer = none ∧ f.strobe = false ∧ f.code = 0) ∧
      (f.phase = .strobe →
        f.queue.head?.map FoldCommand.code = some f.code ∧ f.timer.isSome = true ∧
          f.strobe = true) ∧
        (f.phase = .gap → f.timer.isSome = true ∧ f.strobe = false ∧ f.code = 0)

abbrev State.FoldersSound (s : State) : Prop := ∀ l : LaneNo, (s.lane l).folder.Sound

/-! ### Stacking units (R133 to R136) -/

/-- The timer runs. -/
def StackerTimer.isRunning : StackerTimer → Bool
  | .running _ => true
  | _ => false

/-- The timer is suspended. -/
def StackerTimer.isSuspended : StackerTimer → Bool
  | .suspended _ => true
  | _ => false

/-- The stacker timer is idle exactly where nothing is discharged; it runs only with ESTOP inactive
and is suspended only with it active; DISCHARGE_l is asserted exactly while a discharge goes on with
ESTOP inactive. -/
abbrev Stacker.Sound (x : Stacker) (estop : Bool) : Prop :=
  x.discharge = (x.state.isDischarging && !estop) ∧
    (x.timer = .idle ↔ x.state.isDischarging = false) ∧
      (x.timer.isRunning = true → estop = false) ∧ (x.timer.isSuspended = true → estop = true)

abbrev State.StackersSound (s : State) : Prop := ∀ l : LaneNo, (s.lane l).stacker.Sound s.estop

/-- A stack has 1 piece at the least; one that is BUILDING is short of its target, and no count and no
target is above 100 (R129, R131). -/
def StackState.inRange : StackState → Bool
  | .empty => true
  | .building p => decide (1 ≤ p.count ∧ p.count < p.target ∧ p.target ≤ 100)
  | .discharging out none => decide (1 ≤ out.count ∧ out.count ≤ 100)
  | .discharging out (some q) =>
    decide ((1 ≤ out.count ∧ out.count ≤ 100) ∧ 1 ≤ q.target ∧ q.target ≤ 100)

abbrev State.PilesSound (s : State) : Prop := ∀ l : LaneNo, (s.lane l).stacker.state.inRange = true

/-- What a stacking unit makes of the piece of a record that retires, while no plan change asks it to
discharge: the outcome and the unit after it (R119, R130 to R133). -/
def State.Stacks (s : State) (z : Stacker) (r : Record) (o : DoneOutcome) (z' : Stacker) : Prop :=
  match r.cause, z.state with
  | some _, _ => o = .rejected ∧ z' = { z with tally := min (z.tally + 1) 65535 }
  | none, .empty => o = .stacked ∧ z' =
      if 1 < (s.classEntry r.cls).target then
        { z with state := .building ⟨r.batch, r.cls, 1, (s.classEntry r.cls).target⟩ }
      else z.dischargePile ⟨r.batch, r.cls, 1, (s.classEntry r.cls).target⟩ .full none
        s.estop s.params.ts
  | none, .building p => o = .stacked ∧ z' =
      if p.batch ≠ r.batch then
        z.dischargePile p .batch (some ⟨r.batch, r.cls, (s.classEntry r.cls).target⟩)
          s.estop s.params.ts
      else if p.count + 1 < p.target then
        { z with state := .building { p with count := p.count + 1 } }
      else z.dischargePile { p with count := p.count + 1 } .full none s.estop s.params.ts
  | none, .discharging out none => o = .stacked ∧ z' =
      { z with state := .discharging out (some ⟨r.batch, r.cls, (s.classEntry r.cls).target⟩) }
  | none, .discharging _ (some _) => o = .unstacked ∧ z' = z

/-! ### The tests of a plan change (R138, R150 to R152) -/

/-- A record is left in a DRAINING lane. -/
abbrev State.queueLeft (s : State) : Prop :=
  ∃ l : LaneNo, (s.lane l).state = .draining ∧ s.queue l ≠ []

/-- The phase becomes STACK, and every stack that is BUILDING in a DRAINING lane discharges with reason
PLAN (R138, R151). -/
def State.planClosed (s : State) : State :=
  { s with
    phase := .stack,
    lanes := s.lanes.map fun ln =>
      match ln.state, ln.stacker.state with
      | .draining, .building p =>
        { ln with stacker := ln.stacker.dischargePile p .plan none s.estop s.params.ts }
      | _, _ => ln }

/-- The plan to come is in force: its lanes HALTED and all others CLOSED, every order list as the new
map has it in station-number order, and PLAN_DONE offered (R59, R152). -/
def State.planDone (s : State) (pair : PlanPair) : State :=
  let lane := fun l : LaneNo =>
    { s.lane l with
      state := if pair.plan.hasLane l then .halted else .closed,
      order := allFour.filter fun st => pair.map.get st = l }
  { s with planNow := pair, planNext := none, phase := .noChange,
           lanes := ⟨lane 0, lane 1, lane 2, lane 3⟩ }.offer (.planDone pair)

/-- What a removal, or the beginning of a plan change, makes of the change: with a record left in a
DRAINING lane nothing; else a change in TRACK goes to STACK where a stacking unit of a DRAINING lane is
not EMPTY, and a change with no unit left to wait for completes (R151, R152). -/
def State.planMoved (s : State) : State :=
  match s.phase with
  | .noChange => s
  | .track =>
    if s.queueLeft then s
    else if ∃ l : LaneNo, (s.lane l).state = .draining ∧ (s.lane l).stacker.state ≠ .empty then
      s.planClosed
    else s.planNext.elim s.planClosed s.planDone
  | .stack =>
    if s.queueLeft ∨
        ∃ l : LaneNo, (s.lane l).state = .draining ∧ (s.lane l).stacker.state.isDischarging = true
      then s
    else s.planNext.elim s s.planDone

/-! ### The record pool (R82, R83, R85) -/

/-- The tag of the next record made: the first value that no record holds, from the counter on, with 1
after 65,535 (R83). -/
abbrev State.NextTag (s : State) (n : Nat) : Prop :=
  ∃ k, k ≤ Config.poolSlots ∧ n = (s.tagCounter - 1 + k) % 65535 + 1 ∧
    (∀ y ∈ s.records, y.tag ≠ n) ∧
      ∀ j, j < k → ∃ y ∈ s.records, y.tag = (s.tagCounter - 1 + j) % 65535 + 1

/-- At most 96 records, with tags 1..65,535 held by one record each, and each in the queue of its own
lane. -/
abbrev State.PoolSound (s : State) : Prop :=
  s.poolCount ≤ Config.poolSlots ∧ (s.records.map Record.tag).Nodup ∧
    (∀ r ∈ s.records, 1 ≤ r.tag ∧ r.tag ≤ Config.tagMax) ∧
      (1 ≤ s.tagCounter ∧ s.tagCounter ≤ Config.tagMax) ∧
        ∀ l : LaneNo, ∀ r ∈ s.queue l, r.lane = l

/-- A lane has at most one record on E0, and then its eye E0 is accepted as covered; an eye has a pending
change exactly while its raw input differs from its accepted state (R12, R86). -/
abbrev State.EntrySound (s : State) : Prop :=
  ∀ l : LaneNo,
    ((s.queue l).filter fun r => r.le0.isSome && r.te0.isNone).length ≤ 1 ∧
      ((∃ r ∈ s.queue l, r.le0.isSome = true ∧ r.te0.isNone = true) →
        (s.eye l 0).accepted = true) ∧
        ∀ k : EyeNo, (s.eye l k).pending.isSome = decide ((s.eye l k).raw ≠ (s.eye l k).accepted)

/-- What a station has outstanding is the number of its records whose next eye is E0 (R37, R47). -/
abbrev State.OutstandingSound (s : State) : Prop :=
  ∀ st : StationNo, (s.station st).outstanding =
    (s.records.filter fun r => decide (r.nextEye = .e0) && decide (r.origin = some st)).length

/-- No pending deadline of a record has been passed (R89). -/
abbrev State.DeadlinesAhead (s : State) : Prop :=
  ∀ l : LaneNo, ∀ r ∈ s.queue l, s.dueCause l r = none

/-- The scorch timer is idle exactly while the guard condition does not hold (R154, R155). -/
abbrev State.GuardSound (s : State) : Prop := s.scorch = .idle ↔ s.guardHolds = false

/-! ### Reports and reset (R181, R183) -/

/-- The report queue holds at most 32 reports. -/
abbrev State.ReportsSound (s : State) : Prop := s.reports.queue.length ≤ Config.reportSlots

/-- In a reset every block holds its reset values (R183). -/
abbrev State.ResetSound (s : State) : Prop := s.resetPhase ≠ .running → s = s.resetBlocks s.resetPhase

end Sys2Proof.Machine
end

