-- ==== Sys2Proof/Certificates/Slice0/Obligations.lean ====
section
/-!
DEFINITION. The statements for the provers.
-/

section

open Sys2Proof Sys2Proof.Machine

/-! ### The queue of commands -/

/-- A step takes the command at the front of the queue, with the rest waiting (the model's queue;
log entry 3). -/
def Obligations.StepTakesTheFrontCommand : Prop :=
  ∀ (c : Instr) (rest : List Instr) (s : State),
    s.pending = c :: rest → step s = exec c { s with pending := rest }

/-- Every command completes from every state: none ends in a fault or a refusal, and none touches
the commands that wait. -/
def Obligations.EveryCommandCompletesAndLeavesTheQueue : Prop :=
  ∀ (c : Instr) (s : State), ∃ t : State, exec c s = .next t ∧ t.pending = s.pending

/-- With no command waiting, one interval that has run out is ended by its row, which one of several
by a free choice, or one millisecond passes. A row is due exactly where its interval has 0 ms left:
the gate, a clamp, fold, stacker or scorch timer, the ESTOP hold or the reset interval. As a
millisecond passes, every running timer of the blocks falls by 1 and nothing else changes but the
levels of the inputs without a row and the count of free values drawn; the reset interval falls
alone, and while the RESET pin is held nothing falls (the model's choice, log entries 3 and 9). -/
def Obligations.IdleStepEndsWhatIsDueOrPassesAMillisecond : Prop :=
  ∀ s : State, s.pending = [] →
    (∀ row, row ∈ s.dueRows ↔
      (s.resetPhase = .interval 0 ∧ row = .resetEnd) ∨
      (s.resetPhase = .running ∧
        ((s.gateLeft = 0 ∧ row = .gateEnd) ∨
          (∃ st, (s.station st).timer = some 0 ∧
            (((s.station st).state = .opening ∧ row = .openTimeExpiry st) ∨
              ((s.station st).state = .dwell ∧ row = .dwellExpiry st) ∨
              ((s.station st).state = .returning ∧ row = .returnTimeExpiry st))) ∨
          (∃ l, (s.lane l).folder.timer = some 0 ∧
            (((s.lane l).folder.phase = .strobe ∧ row = .foldStrobeEnd l) ∨
              ((s.lane l).folder.phase = .gap ∧ row = .foldGapEnd l))) ∨
          (∃ l, (s.lane l).stacker.timer = .running 0 ∧ row = .stackerTimeout l) ∨
          (s.scorch = .running 0 ∧ row = .scorchTimerExpiry) ∨
          (s.estopHold = some 0 ∧ row = .estopDeactivation)))) ∧
    (∀ row, s.dueRows = [row] → step s = exec row s) ∧
    (s.dueRows ≠ [] → ∃ row ∈ s.dueRows, ∃ n, n ≤ s.freeDraws + 1 ∧
      step s = exec row { s with freeDraws := n }) ∧
    (s.dueRows = [] → ∃ (t : State) (inputs : Inputs), step s = .next t ∧
      inputs.estop = s.inputs.estop ∧
      (s.resetPhase = .running →
        t = { s with
          gateLeft := s.gateLeft - 1, stations := t.stations, lanes := t.lanes,
          scorch := match s.scorch with
            | .running ms => .running (ms - 1)
            | x => x,
          estopHold := s.estopHold.map (fun ms => ms - 1), inputs := inputs,
          freeDraws := t.freeDraws } ∧
        (∀ st, t.station st =
          { s.station st with timer := (s.station st).timer.map fun ms => ms - 1 }) ∧
        ∀ l, t.lane l = { s.lane l with
          folder := { (s.lane l).folder with
            timer := (s.lane l).folder.timer.map fun ms => ms - 1 },
          stacker := { (s.lane l).stacker with
            timer := match (s.lane l).stacker.timer with
              | .running ms => .running (ms - 1)
              | x => x } }) ∧
      (∀ ms, s.resetPhase = .interval ms →
        t = { s with resetPhase := .interval (ms - 1), inputs := inputs,
                     freeDraws := t.freeDraws }) ∧
      (s.resetPhase = .held → t = { s with inputs := inputs, freeDraws := t.freeDraws }))

/-! ### The line link -/

/-- The code and body of every request, as section 11.7 lays them out, and frame and request agree
both ways: the frame of a request is read as that request, and what a frame is read as has that
frame. -/
def Obligations.RequestsAndFramesAgree : Prop :=
  (requestFrame .poll = some (0x01, []) ∧ requestFrame .alarmRead = some (0x06, []) ∧
    requestFrame (.haltAll false) = some (0x23, []) ∧
    requestFrame (.unitReset false) = some (0x2F, []) ∧
    ∀ a b c : Byte,
      requestFrame (.reportFetch a) = some (0x02, [a]) ∧
      requestFrame (.sheetsRead a b) = some (0x03, [a, b]) ∧
      requestFrame (.stationRead a) = some (0x04, [a]) ∧
      requestFrame (.laneRead a) = some (0x05, [a]) ∧
      requestFrame (.alarmSet a b c) = some (0x15, [a, b, c]) ∧
      requestFrame (.batchCancelCurrent a) = some (0x21, [a, 0]) ∧
      requestFrame (.batchCancelNext a) = some (0x21, [a, 1]) ∧
      requestFrame (.laneCmdResume a) = some (0x22, [a, 1]) ∧
      requestFrame (.laneCmdHalt a) = some (0x22, [a, 2]) ∧
      requestFrame (.laneCmdPurge a) = some (0x22, [a, 3]) ∧
      requestFrame (.laneCmdFlush a) = some (0x22, [a, 4]) ∧
      requestFrame (.alarmAck a b) = some (0x24, [a, b])) ∧
  (∀ hi lo : Byte, requestFrame (.rejectMark (hi ++ lo)) = some (0x25, [hi, lo])) ∧
  (∀ (cls n1 n0 t1 t0 l1 l0 g1 g0 width fold target : Byte),
    requestFrame (.classSet { cls := cls, lnom := n1 ++ n0, tol := t1 ++ t0, leadGap := l1 ++ l0,
                              trailGap := g1 ++ g0, width := width, fold := fold,
                              target := target }) =
      some (0x10, [cls, n1, n0, t1, t0, l1, l0, g1, g0, width, fold, target])) ∧
  (∀ (st d1 d0 o1 o0 dwell r1 r0 mode h1 h0 : Byte),
    requestFrame (.stationSet { station := st, drop := d1 ++ d0, openMs := o1 ++ o0,
                                dwellMs := dwell, returnMs := r1 ++ r0, mode := mode,
                                hold := h1 ++ h0 }) =
      some (0x11, [st, d1, d0, o1, o0, dwell, r1, r0, mode, h1, h0])) ∧
  (∀ (l p3 p2 p1 p0 q3 q2 q1 q0 r3 r2 r1 r0 u1 u0 v1 v0 x1 x0 y1 y0 : Byte),
    requestFrame (.geometrySet { lane := l, pos1 := (p3 ++ p2) ++ (p1 ++ p0),
                                 pos2 := (q3 ++ q2) ++ (q1 ++ q0),
                                 pos3 := (r3 ++ r2) ++ (r1 ++ r0), w0 := u1 ++ u0, w1 := v1 ++ v0,
                                 w2 := x1 ++ x0, w3 := y1 ++ y0 }) =
      some (0x12, [l, p3, p2, p1, p0, q3, q2, q1, q0, r3, r2, r1, r0, u1, u0, v1, v0, x1, x0, y1,
        y0])) ∧
  (∀ (p fe l1 l0 h1 h0 v1 v0 tsc ts g1 g0 mode att : Byte),
    requestFrame (.lineSet { scale := p, fe := fe, vlo := l1 ++ l0, vhi := h1 ++ h0,
                             vs := v1 ++ v0, tsc := tsc, ts := ts, gb := g1 ++ g0, mode := mode,
                             attention := att }) =
      some (0x13, [p, fe, l1, l0, h1, h0, v1, v0, tsc, ts, g1, g0, mode, att])) ∧
  (∀ (p l0 l1 l2 l3 : Byte),
    requestFrame (.planSet { plan := p, lane0 := l0, lane1 := l1, lane2 := l2, lane3 := l3 }) =
      some (0x14, [p, l0, l1, l2, l3])) ∧
  (∀ (st i1 i0 cls n1 n0 fold : Byte),
    requestFrame (.batchLoad { station := st, id := i1 ++ i0, cls := cls, pieces := n1 ++ n0,
                               fold := fold }) =
      some (0x20, [st, i1, i0, cls, n1, n0, fold])) ∧
  ∀ (i : Instr) (code : Byte) (body : List Byte),
    requestFrame i = some (code, body) ↔ parseRequest code body = .command i

/-- The characters of a complete frame, taken one by one by LINK_CHARACTER, do what the row of its
request does; a broadcast HALT_ALL or UNIT_RESET likewise, and any other broadcast frame is ignored;
a frame with an unknown code or a wrong length is answered with UNKNOWN_CODE or BAD_LENGTH, and a
BATCH_CANCEL with a slot code above 1 or a LANE_CMD with a command code outside 1..4 with BAD_VALUE,
and none of them changes anything else. That the answer to a REPORT_FETCH of a wrong length is
marked as the reply of a REPORT_FETCH is the model's choice (log entry 24). -/
def Obligations.AFrameOnTheLineIsItsRequest : Prop :=
  ∀ s : State, s.resetPhase = .running → s.link.lineRested = true → s.link.receiver = .hunting →
    (s.link.address ≠ 0 → ∀ (i : Instr) (code : Byte) (body : List Byte),
      requestFrame i = some (code, body) →
        runAll ((frameCharacters (s.link.address.setWidth 8) code body).map .linkCharacter) s =
          exec i s) ∧
    runAll ((frameCharacters 0 0x23 []).map .linkCharacter) s = exec (.haltAll true) s ∧
    runAll ((frameCharacters 0 0x2F []).map .linkCharacter) s = exec (.unitReset true) s ∧
    (∀ (code : Byte) (body : List Byte), body.length ≤ 240 →
      body ≠ [] ∨ (code ≠ 0x23 ∧ code ≠ 0x2F) →
      runAll ((frameCharacters 0 code body).map .linkCharacter) s = .next s) ∧
    (s.link.address ≠ 0 → s.link.reply = none → ∀ (code : Byte) (body : List Byte),
      body.length ≤ 240 →
        (bodyLength code = none →
          runAll ((frameCharacters (s.link.address.setWidth 8) code body).map .linkCharacter) s =
            .next (s.answered code .unknownCode [] false)) ∧
        (∀ n, bodyLength code = some n → body.length ≠ n →
          runAll ((frameCharacters (s.link.address.setWidth 8) code body).map .linkCharacter) s =
            .next (s.answered code .badLength [] false)) ∧
        ∀ a b : Byte, body = [a, b] →
          (code = 0x21 ∧ 1 < b.toNat) ∨ (code = 0x22 ∧ (b.toNat = 0 ∨ 4 < b.toNat)) →
          runAll ((frameCharacters (s.link.address.setWidth 8) code body).map .linkCharacter) s =
            .next (s.answered code .badValue [] false))

/-- What a character does to the receiver, by its bits and the receiver's step, all but the last
character of a good frame; nothing else changes. -/
def Obligations.TheReceiverTakesCharacters : Prop :=
  ∀ (bits : BitVec 11) (s : State), s.resetPhase = .running → s.link.lineRested = true →
    bits.getLsbD 0 = false →
    (bits.getLsbD 10 = false →
      exec (.linkCharacter bits) s = .next (s.setReceiver .hunting)) ∧
    (bits.getLsbD 10 = true → bits.getLsbD 9 = true →
      exec (.linkCharacter bits) s = .next (s.setReceiver
        (if bits.extractLsb' 1 8 = 0 then .receiving ⟨true, .len, 0, 0, 0, []⟩
          else if bits.extractLsb' 1 8 = s.link.address.setWidth 8 then
            .receiving ⟨false, .len, 0, 0, 0, []⟩
          else .hunting))) ∧
    (bits.getLsbD 10 = true → bits.getLsbD 9 = false →
      (s.link.receiver = .hunting → exec (.linkCharacter bits) s = .next s) ∧
      ∀ f, s.link.receiver = .receiving f →
        (f.step = .len → exec (.linkCharacter bits) s = .next (s.setReceiver
          (if (bits.extractLsb' 1 8).toNat ≤ 240 then
            .receiving { f with len := bits.extractLsb' 1 8, step := .code } else .hunting))) ∧
        (f.step = .code → exec (.linkCharacter bits) s = .next (s.setReceiver
          (.receiving { f with code := bits.extractLsb' 1 8, left := f.len.toNat,
                               step := if f.len = 0 then .chk else .body }))) ∧
        (f.step = .body → exec (.linkCharacter bits) s = .next (s.setReceiver
          (.receiving { f with body := f.body ++ [bits.extractLsb' 1 8], left := f.left - 1,
                               step := if f.left ≤ 1 then .chk else .body }))) ∧
        (f.step = .chk → f.len + f.code + f.body.foldl (· + ·) 0 + bits.extractLsb' 1 8 ≠ 0 →
          exec (.linkCharacter bits) s = .next (s.setReceiver .hunting)))

/-- A break, a gap and a rest of the line, and when a character is not taken at all. -/
def Obligations.BreaksGapsAndRestsOfTheLine : Prop :=
  ∀ s : State, s.resetPhase = .running →
    (s.link.receiver = .hunting → exec .linkBreak s = .next s) ∧
    (∀ f, s.link.receiver = .receiving f → exec .linkBreak s =
      .next { s with link := { s.link with receiver := .hunting, lineRested := false } }) ∧
    exec .frameGapTimeout s = .next { s with link := { s.link with receiver := .hunting } } ∧
    exec .lineRestedHigh s = .next { s with link := { s.link with lineRested := true } } ∧
    (s.link.lineRested = false → ∀ bits, exec (.linkCharacter bits) s = .next s)

/-- The beginning and the end of a reply: the flags it clears, and the reset that follows an
addressed UNIT_RESET. That a frame being received is dropped as the reply begins, because the
receiver hears the address character of the reply, is the model's reading of section 11.2 (log entry
12). -/
def Obligations.RepliesAreSentAndClearTheirFlags : Prop :=
  ∀ (s : State) (r : Reply), s.resetPhase = .running → s.link.reply = some r →
    (r.sending = false → exec .replyStart s =
      .next { s with link := { s.link with
        reply := some { r with sending := true }, receiver := .hunting } }) ∧
    (r.sending = true → r.resets = false → exec .replyEnd s =
      .next { s with
        link := { s.link with
          reply := none,
          overrun := if r.showsOverrun = true ∧ s.link.overrunSince = false then false
            else s.link.overrun,
          overrunSince := false },
        reports := { s.reports with
          lost := if r.isFetch = true ∧ r.showsLost = true ∧ s.reports.lostSince = false then false
            else s.reports.lost,
          lostSince := false } }) ∧
    (r.sending = true → r.resets = true → exec .replyEnd s = exec (.unitReset true) s)

/-- A request that is complete while a reply is pending is discarded, and the overrun flag is set;
at address 0 and in a reset nothing comes of one. -/
def Obligations.RequestsAreDiscardedWhileAReplyIsPending : Prop :=
  ∀ (i : Instr) (code : Byte) (body : List Byte) (s : State),
    requestFrame i = some (code, body) →
      (s.resetPhase = .running → s.link.address ≠ 0 → s.link.reply ≠ none →
        exec i s = .next { s with link := { s.link with overrun := true, overrunSince := true } }) ∧
      (s.resetPhase ≠ .running ∨ s.link.address = 0 → exec i s = .next s)

/-! ### Status header and replies -/

/-- The six bytes of the status header. -/
def Obligations.TheStatusHeaderShowsTheState : Prop :=
  ∀ s : State, ∃ flags kind index count lanes : Byte,
    s.header = [flags, BitVec.ofNat 8 s.reports.queue.length, kind, index, count, lanes] ∧
    flags.getLsbD 0 = s.estop ∧ flags.getLsbD 1 = s.lineHold ∧ flags.getLsbD 2 = s.rollLift ∧
    flags.getLsbD 3 = decide (s.phase = .track ∨ s.phase = .stack) ∧
    flags.getLsbD 4 = s.reports.lost ∧ flags.getLsbD 5 = s.link.overrun ∧
    flags.getLsbD 6 = s.inputs.ironerRun ∧ flags.getLsbD 7 = false ∧
    (s.alarms.current = none → kind = 0 ∧ index = 0 ∧ count = 0) ∧
    (∀ src, s.alarms.current = some src → kind = src.kind.code ∧ index = src.index ∧
      count = BitVec.ofNat 8 (s.alarms.latches.get src).count) ∧
    ∀ l : LaneNo, lanes.extractLsb' (2 * l.val) 2 =
      (match (s.lane l).state with
        | .closed => 0
        | .halted => 1
        | .opened => 2
        | .draining => 3)

/-- The codes of plans, states, next eyes, reject causes, outcomes, loss causes, stack reasons, feed
and arbitration modes, widths, results, and of the alarm kinds, indexes and causes (the codes of
messages, slots and lane commands are those of RequestsAndFramesAgree), and the bytes of each
report, of a record summary and of the reply data of STATION_READ, LANE_READ and ALARM_READ. -/
def Obligations.ReportsAndRepliesAreLaidOut : Prop :=
  ([PlanCode.p1, .p2, .p4].map PlanCode.code = [1, 2, 4] ∧
    [StationState.noBatch, .waiting, .loaded, .armed, .opening, .dwell, .returning,
      .finishing].map StationState.code = [0, 1, 2, 3, 4, 5, 6, 7] ∧
    [LaneState.closed, .halted, .opened, .draining].map LaneState.code = [0, 1, 2, 3] ∧
    [NextEye.e0, .e1, .e2, .e3, .clear].map NextEye.code = [0, 1, 2, 3, 4] ∧
    [none, some RejectCause.short, some .long, some .double, some .foreign, some .marked,
      some .foldMissed].map causeByte = [0, 1, 2, 3, 4, 5, 6] ∧
    [DoneOutcome.stacked, .rejected, .unstacked].map DoneOutcome.code = [1, 2, 3] ∧
    [LostCause.misfeed, .merged, .missingE1, .missingE2, .missingE3, .stuckE0, .stuckE3,
      .purged].map LostCause.code = [1, 2, 3, 4, 5, 6, 7, 8] ∧
    [StackReason.full, .batch, .host, .plan].map StackReason.code = [1, 2, 3, 4] ∧
    [FeedMode.single, .run].map FeedMode.code = [0, 1] ∧
    [Result.ok, .clamped, .badLength, .badValue, .state, .busy, .full, .tooLate,
      .unknownCode].map resultByte = [0, 1, 2, 3, 4, 5, 6, 7, 8] ∧
    [Kind.estop, .scorch, .wrap, .jam, .stray, .stacker, .misfeed, .speedLow,
      .speedHigh].map Kind.code = [1, 2, 3, 4, 5, 6, 7, 8, 9] ∧
    [Source.estop, .scorch, .speedLow, .speedHigh].map Source.index = [0, 0, 0, 0] ∧
    (∀ i : Fin 4,
      [Source.wrap i, .jam i, .stray i, .stacker i, .misfeed i].map Source.index =
        List.replicate 5 (BitVec.ofNat 8 i.val)) ∧
    [causeActivated, causeExpired, causeWrapMissingE1, causeJamMissingE2, causeJamMissingE3,
      causeJamStuckE0, causeJamStuckE3, causeJamFoldOver, causeStrayPoolFull, causeStrayUnmatched 1,
      causeStrayUnmatched 2, causeStrayUnmatched 3, causeStackerOverrun, causeStackerTimeout,
      causeNoEntry, causeFellBelow, causeRoseAbove] =
      [1, 1, 1, 1, 2, 3, 4, 5, 1, 2, 3, 4, 1, 2, 1, 1, 1] ∧
    [widthOperand 1, widthOperand 2, widthOperand 3] = [some .full, some .half, some .quarter] ∧
    [arbModeOperand 0, arbModeOperand 1] = [some .fixed, some .rotating] ∧
    allSources = [.estop, .scorch, .wrap 0, .wrap 1, .wrap 2, .wrap 3, .jam 0, .jam 1, .jam 2,
      .jam 3, .stray 0, .stray 1, .stray 2, .stray 3, .stacker 0, .stacker 1, .stacker 2,
      .stacker 3, .misfeed 0, .misfeed 1, .misfeed 2, .misfeed 3, .speedLow, .speedHigh]) ∧
  (∀ r : Report, r.encode.length = 12) ∧
  (∀ (tag : Nat) (l : LaneNo) (origin : Option StationNo) (batch : Nat) (c : ClassNo)
      (o : DoneOutcome) (cause : Option RejectCause),
    (Report.sheetDone tag l origin batch c o cause).encode =
      [1, BitVec.ofNat 8 (tag / 256), BitVec.ofNat 8 tag, BitVec.ofNat 8 l.val,
        (match origin with
          | some st => BitVec.ofNat 8 st.val
          | none => 0xFF),
        BitVec.ofNat 8 (batch / 256), BitVec.ofNat 8 batch, BitVec.ofNat 8 c.val, o.code,
        causeByte cause, 0, 0]) ∧
  (∀ (tag : Nat) (l : LaneNo) (origin : Option StationNo) (batch : Nat) (c : ClassNo)
      (lost : LostCause) (cause : Option RejectCause),
    (Report.sheetLost tag l origin batch c lost cause).encode =
      [2, BitVec.ofNat 8 (tag / 256), BitVec.ofNat 8 tag, BitVec.ofNat 8 l.val,
        (match origin with
          | some st => BitVec.ofNat 8 st.val
          | none => 0xFF),
        BitVec.ofNat 8 (batch / 256), BitVec.ofNat 8 batch, BitVec.ofNat 8 c.val, lost.code,
        causeByte cause, 0, 0]) ∧
  (∀ pair : PlanPair, (Report.planDone pair).encode =
    [5, pair.plan.code, BitVec.ofNat 8 (pair.map.get 0).val, BitVec.ofNat 8 (pair.map.get 1).val,
      BitVec.ofNat 8 (pair.map.get 2).val, BitVec.ofNat 8 (pair.map.get 3).val, 0, 0, 0, 0, 0, 0]) ∧
  (∀ (l : LaneNo) (batch : Nat) (c : ClassNo) (count : Nat) (reason : StackReason),
    (Report.stackDone l batch c count reason).encode =
      [3, BitVec.ofNat 8 l.val, BitVec.ofNat 8 (batch / 256), BitVec.ofNat 8 batch,
        BitVec.ofNat 8 c.val, BitVec.ofNat 8 count, reason.code, 0, 0, 0, 0, 0]) ∧
  (∀ (st : StationNo) (batch pieces delivered : Nat) (cancelled : Bool),
    (Report.batchEnd st batch pieces delivered cancelled).encode =
      [4, BitVec.ofNat 8 st.val, BitVec.ofNat 8 (batch / 256), BitVec.ofNat 8 batch,
        BitVec.ofNat 8 (pieces / 256), BitVec.ofNat 8 pieces, BitVec.ofNat 8 (delivered / 256),
        BitVec.ofNat 8 delivered, (if cancelled then 1 else 0), 0, 0, 0]) ∧
  (∀ (r : Record) (release entry : Pos), release = r.releasePos.getD 0 →
    entry = (if r.nextEye = .e0 then r.predLe0.getD 0 else r.le0.getD 0) →
    r.summary =
      [BitVec.ofNat 8 (r.tag / 256), BitVec.ofNat 8 r.tag,
        BitVec.ofNat 8 ((match r.origin with
          | some st => st.val
          | none => 15) * 16 + r.cls.val),
        BitVec.ofNat 8 (r.batch / 256), BitVec.ofNat 8 r.batch, r.nextEye.code, causeByte r.cause,
        BitVec.ofNat 8 ((if r.te0 = none then 0 else 1) + (if r.folded = true then 2 else 0)),
        release.extractLsb' 24 8, release.extractLsb' 16 8, release.extractLsb' 8 8,
        release.extractLsb' 0 8, entry.extractLsb' 24 8, entry.extractLsb' 16 8,
        entry.extractLsb' 8 8, entry.extractLsb' 0 8]) ∧
  (slotData none = [0, 0, 0, 0, 0, 0, 0, 0, 0] ∧
    ∀ b : Batch, slotData (some b) =
      [1, BitVec.ofNat 8 (b.id / 256), BitVec.ofNat 8 b.id, BitVec.ofNat 8 b.cls.val,
        BitVec.ofNat 8 (b.pieces / 256), BitVec.ofNat 8 b.pieces,
        BitVec.ofNat 8 (b.remaining / 256), BitVec.ofNat 8 b.remaining,
        (match b.foldOverride with
          | some f => BitVec.ofNat 8 f
          | none => 0)]) ∧
  (∀ (x : Station) (g : Bool), stationData x g =
    [x.state.code, (if g then 1 else 0), BitVec.ofNat 8 x.outstanding] ++ slotData x.current ++
      slotData x.next ++
      [BitVec.ofNat 8 (x.params.drop / 256), BitVec.ofNat 8 x.params.drop,
        BitVec.ofNat 8 (x.params.openMs / 256), BitVec.ofNat 8 x.params.openMs,
        BitVec.ofNat 8 x.params.dwellMs, BitVec.ofNat 8 (x.params.returnMs / 256),
        BitVec.ofNat 8 x.params.returnMs, x.params.mode.code,
        BitVec.ofNat 8 (x.params.hold / 256), BitVec.ofNat 8 x.params.hold]) ∧
  (∀ ln : Lane, laneData ln =
    [ln.state.code, BitVec.ofNat 8 ln.queue.length, BitVec.ofNat 8 ln.folder.queue.length] ++
      (match ln.stacker.state with
        | .empty => [0, 0, 0, 0, 0, 0, 0, 0, 0, 0]
        | .building p =>
          [1, BitVec.ofNat 8 (p.batch / 256), BitVec.ofNat 8 p.batch, BitVec.ofNat 8 p.cls.val,
            BitVec.ofNat 8 p.count, BitVec.ofNat 8 p.target, 0, 0, 0, 0]
        | .discharging out pocket =>
          [2, BitVec.ofNat 8 (out.batch / 256), BitVec.ofNat 8 out.batch,
            BitVec.ofNat 8 out.cls.val, BitVec.ofNat 8 out.count, out.reason.code] ++
          (match pocket with
            | none => [0, 0, 0]
            | some q => [1, BitVec.ofNat 8 (q.batch / 256), BitVec.ofNat 8 q.batch]) ++
          [if ln.stacker.timer = .expired then 1 else 0]) ++
      [BitVec.ofNat 8 (ln.stacker.tally / 256), BitVec.ofNat 8 ln.stacker.tally]) ∧
  ∀ (a : Alarms) (held : List Source),
    held = allSources.filter (fun src => (a.latches.get src).latched) →
    a.readData =
      [if a.settings.jam.masked then 1 else 0, if a.settings.jam.high then 1 else 0,
        if a.settings.stray.masked then 1 else 0, if a.settings.stray.high then 1 else 0,
        if a.settings.stacker.masked then 1 else 0, if a.settings.stacker.high then 1 else 0,
        if a.settings.misfeed.masked then 1 else 0, if a.settings.misfeed.high then 1 else 0,
        if a.settings.speedLow.masked then 1 else 0, if a.settings.speedLow.high then 1 else 0,
        if a.settings.speedHigh.masked then 1 else 0, if a.settings.speedHigh.high then 1 else 0,
        BitVec.ofNat 8 held.length] ++
      held.flatMap fun src =>
        [src.kind.code, src.index, BitVec.ofNat 8 (a.latches.get src).count,
          BitVec.ofNat 8 (a.latches.get src).cause]

/-! ### Requests that read -/

/-- POLL, SHEETS_READ, STATION_READ, LANE_READ and ALARM_READ answer and change nothing but the
reply; a lane or station above 3 is refused. -/
def Obligations.ReadingRequestsAnswerAndChangeNothing : Prop :=
  ∀ s : State, s.Ready →
    exec .poll s = .next (s.answered 0x01 .ok [] false) ∧
    exec .alarmRead s = .next (s.answered 0x06 .ok s.alarms.readData false) ∧
    (∀ (b start : Byte) (l : LaneNo), b.toNat = l.val → exec (.sheetsRead b start) s =
      .next (s.answered 0x03 .ok
        (BitVec.ofNat 8 (s.queue l).length ::
          BitVec.ofNat 8 (((s.queue l).drop start.toNat).take 8).length ::
          (((s.queue l).drop start.toNat).take 8).flatMap Record.summary) false)) ∧
    (∀ (b : Byte) (st : StationNo), b.toNat = st.val → exec (.stationRead b) s =
      .next (s.answered 0x04 .ok
        (stationData (s.station st) (decide ((s.lane (s.laneOf st)).grant = some st))) false)) ∧
    (∀ (b : Byte) (l : LaneNo), b.toNat = l.val → exec (.laneRead b) s =
      .next (s.answered 0x05 .ok (laneData (s.lane l)) false)) ∧
    ∀ b : Byte, 4 ≤ b.toNat →
      (∀ start, exec (.sheetsRead b start) s = .next (s.answered 0x03 .badValue [] false)) ∧
      exec (.stationRead b) s = .next (s.answered 0x04 .badValue [] false) ∧
      exec (.laneRead b) s = .next (s.answered 0x05 .badValue [] false)

/-- REPORT_FETCH: the count clamped to 1..8, that many of the oldest reports removed and sent oldest
first, and ATTN with the queue. -/
def Obligations.ReportFetchRemovesTheOldestReports : Prop :=
  ∀ (max : Byte) (n : Nat) (s : State), s.Ready →
    (n = if max.toNat = 0 then 1 else if 8 < max.toNat then 8 else max.toNat) →
    exec (.reportFetch max) s = .next
      ({ s with
          reports := { s.reports with queue := s.reports.queue.drop n },
          attn := s.alarms.current.isSome ||
            (s.params.attention && !(s.reports.queue.drop n).isEmpty) }.answered 0x02
        (if max.toNat = 0 ∨ 8 < max.toNat then .clamped else .ok)
        (BitVec.ofNat 8 (min n s.reports.queue.length) ::
          (s.reports.queue.take n).flatMap Report.encode) false)

/-! ### Requests that set -/

/-- CLASS_SET on every operand: refused with BAD_VALUE for a class outside 1..15 or a width code
outside 1..3, refused with BUSY for a change of width of a class in a slot, else written whole with
every field clamped to its range. -/
def Obligations.ClassSetWritesOneClassWhole : Prop :=
  ∀ (o : ClassOperands) (s : State), s.Ready →
    (o.cls.toNat = 0 ∨ 16 ≤ o.cls.toNat ∨ o.width.toNat = 0 ∨ 4 ≤ o.width.toNat →
      exec (.classSet o) s = .next (s.answered 0x10 .badValue [] false)) ∧
    ∀ (c : ClassNo) (w : Width), o.cls.toNat = c.val → c ≠ 0 →
      (o.width.toNat = match w with
        | .full => 1
        | .half => 2
        | .quarter => 3) →
      ((w ≠ s.classes[c].width ∧ ∃ (st : StationNo) (b : Batch), b.cls = c ∧
          ((s.station st).current = some b ∨ (s.station st).next = some b)) →
        exec (.classSet o) s = .next (s.answered 0x10 .busy [] false)) ∧
      (¬(w ≠ s.classes[c].width ∧ ∃ (st : StationNo) (b : Batch), b.cls = c ∧
          ((s.station st).current = some b ∨ (s.station st).next = some b)) →
        exec (.classSet o) s = .next
          ((s.setClass c
              { valid := true, lnom := max 200 (min o.lnom.toNat 6000),
                tol := min o.tol.toNat 1000, leadGap := min o.leadGap.toNat 3000,
                trailGap := min o.trailGap.toNat 3000, width := w,
                fold := max 1 (min o.fold.toNat 7),
                target := max 1 (min o.target.toNat 100) }).answered 0x10
            (if 200 ≤ o.lnom.toNat ∧ o.lnom.toNat ≤ 6000 ∧ o.tol.toNat ≤ 1000 ∧
                o.leadGap.toNat ≤ 3000 ∧ o.trailGap.toNat ≤ 3000 ∧ 1 ≤ o.fold.toNat ∧
                o.fold.toNat ≤ 7 ∧ 1 ≤ o.target.toNat ∧ o.target.toNat ≤ 100
              then .ok else .clamped) [] false))

/-- STATION_SET: BAD_VALUE for a station above 3 or a mode code above 1; BUSY outside NO_BATCH and
WAITING; else the six values written. A station without the grant, or in RUN mode with its hold not
over, is not changed otherwise; one with the grant that takes SINGLE mode, or whose hold is over,
gives the grant back, and the arbiter decides. -/
def Obligations.StationSetWritesAStationsParameters : Prop :=
  ∀ (o : StationOperands) (s : State), s.Ready →
    (4 ≤ o.station.toNat ∨ 2 ≤ o.mode.toNat →
      exec (.stationSet o) s = .next (s.answered 0x11 .badValue [] false)) ∧
    ∀ (st : StationNo) (l : LaneNo) (m : FeedMode) (p : StationParams) (r : Result),
      o.station.toNat = st.val → l = s.laneOf st →
      (o.mode.toNat = match m with
        | .single => 0
        | .run => 1) →
      p = { drop := min o.drop.toNat 5000, openMs := max 10 (min o.openMs.toNat 2000),
            dwellMs := o.dwellMs.toNat, returnMs := max 10 (min o.returnMs.toNat 5000),
            mode := m, hold := min o.hold.toNat 20000 } →
      r = (if o.drop.toNat ≤ 5000 ∧ 10 ≤ o.openMs.toNat ∧ o.openMs.toNat ≤ 2000 ∧
          10 ≤ o.returnMs.toNat ∧ o.returnMs.toNat ≤ 5000 ∧ o.hold.toNat ≤ 20000
        then .ok else .clamped) →
      ((s.station st).state ≠ .noBatch ∧ (s.station st).state ≠ .waiting →
        exec (.stationSet o) s = .next (s.answered 0x11 .busy [] false)) ∧
      ((s.station st).state = .noBatch ∨ (s.station st).state = .waiting →
        (((s.lane l).grant ≠ some st ∨ (m = .run ∧
            ((s.station st).state = .noBatch ∨
              (s.travel - ((s.station st).holdOrigin + BitVec.ofNat 32 p.hold)).msb = true))) →
          exec (.stationSet o) s = .next
            ((s.setStation st { s.station st with params := p }).answered 0x11 r [] false)) ∧
        ((s.lane l).grant = some st → (m = .single ∨ ((s.station st).state = .waiting ∧
              (s.travel - ((s.station st).holdOrigin + BitVec.ofNat 32 p.hold)).msb = false)) →
          ∀ v : State, v = (s.setStation st { s.station st with params := p }).setLane l
              { s.lane l with grant := none, releasePoint := none } →
            ((s.lane l).state ≠ .opened ∨
                (∀ su, s.laneOf su = l → (s.station su).state ≠ .loaded) →
              exec (.stationSet o) s = .next (v.answered 0x11 r [] false)) ∧
            ∀ su, (s.lane l).state = .opened → v.Chosen l su →
              ∃ t : State, exec (.release l) (v.granted l su (v.workedPoint l su)) = .next t ∧
                exec (.stationSet o) s = .next (t.answered 0x11 r [] false)) ∧
        ∃ t : State, exec (.stationSet o) s = .next (t.answered 0x11 r [] false) ∧
          (t.station st).params = p ∧ (t.station st).state = (s.station st).state ∧
          ((m = .single ∨ ((s.station st).state = .waiting ∧
              (s.travel - ((s.station st).holdOrigin + BitVec.ofNat 32 p.hold)).msb = false)) →
            (t.lane l).grant ≠ some st) ∧
          (∀ su, su ≠ st → (t.station su).params = (s.station su).params) ∧
          t.params = s.params ∧ t.classes = s.classes ∧ t.travel = s.travel ∧
          t.alarms = s.alarms ∧ t.reports = s.reports ∧ t.link = s.link)

/-- GEOMETRY_SET on every operand: BAD_VALUE for a lane above 3 or clamped positions out of order,
STATE for a lane that is OPEN or DRAINING or holds a record, else all seven values written. -/
def Obligations.GeometrySetWritesALanesGeometry : Prop :=
  ∀ (o : GeometryOperands) (s : State), s.Ready →
    (4 ≤ o.lane.toNat → exec (.geometrySet o) s = .next (s.answered 0x12 .badValue [] false)) ∧
    ∀ (l : LaneNo) (g : Geometry), o.lane.toNat = l.val →
      g = { pos1 := max 500 (min o.pos1.toNat 65000), pos2 := max 500 (min o.pos2.toNat 65000),
            pos3 := max 500 (min o.pos3.toNat 65000), w0 := max 5 (min o.w0.toNat 2000),
            w1 := max 5 (min o.w1.toNat 2000), w2 := max 5 (min o.w2.toNat 2000),
            w3 := max 5 (min o.w3.toNat 2000) } →
      exec (.geometrySet o) s = .next
        (if ¬(g.pos1 < g.pos2 ∧ g.pos2 < g.pos3) then s.answered 0x12 .badValue [] false
        else if ((s.lane l).state = .halted ∨ (s.lane l).state = .closed) ∧ s.queue l = [] then
          (s.setLane l { s.lane l with geometry := g }).answered 0x12
            (if g.pos1 = o.pos1.toNat ∧ g.pos2 = o.pos2.toNat ∧ g.pos3 = o.pos3.toNat ∧
                g.w0 = o.w0.toNat ∧ g.w1 = o.w1.toNat ∧ g.w2 = o.w2.toNat ∧ g.w3 = o.w3.toNat
              then .ok else .clamped) [] false
        else s.answered 0x12 .state [] false)

/-- LINE_SET on every operand: refused with BAD_VALUE for a bad mode or attention code or Vlo above
Vhi, with STATE for a change of P or Fe while a lane is OPEN or DRAINING; else every parameter takes
its clamped value and the reply is OK or CLAMPED. A change of P clears r, a change of mode sets the
order lists, a change of Vs evaluates the scorch guard, ATTN follows, and a change of Fe accepts
each pending eye change that is due with the new Fe; nothing else changes. -/
def Obligations.LineSetWritesTheLineParameters : Prop :=
  ∀ (o : LineOperands) (s : State), s.Ready →
    (2 ≤ o.mode.toNat ∨ 2 ≤ o.attention.toNat →
      exec (.lineSet o) s = .next (s.answered 0x13 .badValue [] false)) ∧
    ∀ (m : ArbMode) (att : Bool) (p : LineParams) (r : Result),
      (o.mode.toNat = match m with
        | .fixed => 0
        | .rotating => 1) →
      o.attention.toNat = att.toNat →
      p = { scale := max 1 (min o.scale.toNat 64), fe := min o.fe.toNat 50,
            vlo := min o.vlo.toNat 2040, vhi := min o.vhi.toNat 2040, vs := min o.vs.toNat 500,
            tsc := max 1 (min o.tsc.toNat 60), ts := max 1 (min o.ts.toNat 60),
            gb := min o.gb.toNat 5000, mode := m, attention := att } →
      r = (if 1 ≤ o.scale.toNat ∧ o.scale.toNat ≤ 64 ∧ o.fe.toNat ≤ 50 ∧
            o.vlo.toNat ≤ 2040 ∧ o.vhi.toNat ≤ 2040 ∧ o.vs.toNat ≤ 500 ∧
            1 ≤ o.tsc.toNat ∧ o.tsc.toNat ≤ 60 ∧ 1 ≤ o.ts.toNat ∧ o.ts.toNat ≤ 60 ∧
            o.gb.toNat ≤ 5000
          then .ok else .clamped) →
      (p.vhi < p.vlo → exec (.lineSet o) s = .next (s.answered 0x13 .badValue [] false)) ∧
      (p.vlo ≤ p.vhi → (p.scale ≠ s.params.scale ∨ p.fe ≠ s.params.fe) →
        (∃ l : LaneNo, (s.lane l).state = .opened ∨ (s.lane l).state = .draining) →
        exec (.lineSet o) s = .next (s.answered 0x13 .state [] false)) ∧
      (p.vlo ≤ p.vhi → ((p.scale = s.params.scale ∧ p.fe = s.params.fe) ∨
          ∀ l : LaneNo, (s.lane l).state ≠ .opened ∧ (s.lane l).state ≠ .draining) →
        ∃ u : State,
          u = { s with
            params := p, lanes := u.lanes,
            residual := if p.scale = s.params.scale then s.residual else 0,
            scorch := if p.vs = s.params.vs then s.scorch
              else if s.records.any Record.inZone = true ∧ s.speed < p.vs then
                (match s.scorch with
                  | .idle => .running (p.tsc * 1000)
                  | x => x)
              else .idle,
            attn := s.alarms.current.isSome || (att && !s.reports.queue.isEmpty) } ∧
          (∀ l, u.lane l = { s.lane l with
            order := if m = s.params.mode then (s.lane l).order
              else allFour.filter (fun st => s.laneOf st = l) }) ∧
          (p.fe = s.params.fe ∨ (∀ l k x, (s.eye l k).pending = some x →
              (s.travel - (x + BitVec.ofNat 32 p.fe)).msb = true) →
            exec (.lineSet o) s = .next (u.answered 0x13 r [] false)) ∧
          (p.fe ≠ s.params.fe → ∀ l k x, (s.eye l k).pending = some x →
            (s.travel - (x + BitVec.ofNat 32 p.fe)).msb = false →
            (∀ m j y, (m ≠ l ∨ j ≠ k) → (s.eye m j).pending = some y →
              (s.travel - (y + BitVec.ofNat 32 p.fe)).msb = true) →
            ∃ t : State, exec (.edgeAccepted l k) u = .next t ∧
              exec (.lineSet o) s = .next (t.answered 0x13 r [] false)) ∧
          ∃ t : State, exec (.lineSet o) s = .next (t.answered 0x13 r [] false) ∧
            t.params = p ∧ t.residual = u.residual ∧ t.travel = s.travel ∧ t.speed = s.speed ∧
            t.classes = s.classes ∧ t.estop = s.estop ∧ t.inputs = s.inputs ∧ t.link = s.link ∧
            t.gateCount = s.gateCount ∧
            ∀ l k,
              (∀ x, p.fe ≠ s.params.fe → (s.eye l k).pending = some x →
                (s.travel - (x + BitVec.ofNat 32 p.fe)).msb = false →
                t.eye l k = ⟨(s.eye l k).raw, (s.eye l k).raw, none⟩) ∧
              (p.fe = s.params.fe ∨ (∀ x, (s.eye l k).pending = some x →
                  (s.travel - (x + BitVec.ofNat 32 p.fe)).msb = true) →
                t.eye l k = s.eye l k))

/-- What a PLAN_SET names (the plan codes 1, 2 and 4, and four lanes of the plan named), which
classes fit a plan, and a PLAN_SET refused, without effect, or withdrawing a change: every case but
the one that begins a change. -/
def Obligations.PlanSetIsRefusedOrWithdrawsAChange : Prop :=
  (∀ (o : PlanOperands) (pair : PlanPair), planOperands o = some pair ↔
    (o.plan.toNat = (match pair.plan with
      | .p1 => 1
      | .p2 => 2
      | .p4 => 4)) ∧
    o.lane0.toNat = (pair.map.get 0).val ∧ o.lane1.toNat = (pair.map.get 1).val ∧
    o.lane2.toNat = (pair.map.get 2).val ∧ o.lane3.toNat = (pair.map.get 3).val ∧
    ∀ st : StationNo, (pair.map.get st).val < (match pair.plan with
      | .p1 => 1
      | .p2 => 2
      | .p4 => 4)) ∧
  (∀ (s : State) (c : ClassNo) (p : PlanCode), s.classFits c p = true ↔
      c ≠ 0 ∧ (match p with
        | .p1 => True
        | .p2 => s.classes[c].width = .half ∨ s.classes[c].width = .quarter
        | .p4 => s.classes[c].width = .quarter)) ∧
  ∀ (o : PlanOperands) (s : State), s.Ready →
    (planOperands o = none → exec (.planSet o) s = .next (s.answered 0x14 .badValue [] false)) ∧
    ∀ pair, planOperands o = some pair →
      ((∃ (st : StationNo) (b : Batch),
          ((s.station st).current = some b ∨ (s.station st).next = some b) ∧
            s.classFits b.cls pair.plan = false) →
        exec (.planSet o) s = .next (s.answered 0x14 .state [] false)) ∧
      ((∀ (st : StationNo) (b : Batch),
          ((s.station st).current = some b ∨ (s.station st).next = some b) →
            s.classFits b.cls pair.plan = true) →
        (s.phase = .stack → exec (.planSet o) s = .next (s.answered 0x14 .busy [] false)) ∧
        (s.phase = .track → pair ≠ s.planNow →
          exec (.planSet o) s = .next (s.answered 0x14 .busy [] false)) ∧
        (s.phase = .track → pair = s.planNow → exec (.planSet o) s = .next
          ({ s with planNext := none, phase := .noChange,
                    lanes := s.lanes.map (fun (ln : Lane) => { ln with state :=
                      if ln.state = LaneState.draining then LaneState.halted else ln.state }) }.answered
            0x14 .ok [] false)) ∧
        (s.phase = .noChange → pair = s.planNow →
          exec (.planSet o) s = .next (s.answered 0x14 .ok [] false)))

/-- A PLAN_SET that begins a change: with a record left in a lane of the plan in force the change
waits in TRACK with those lanes DRAINING; with every queue empty and a stack BUILDING that stack
discharges with reason PLAN and the change waits in STACK; with every queue and every stacking unit
empty it completes at once, with every lane in its new state, every order list as the new map has it
and PLAN_DONE offered. In every case OPEN and HALTED lanes go to DRAINING, an ARMED station of an
OPEN lane returns to LOADED, and the tests of the change are made at once. -/
def Obligations.PlanSetBeginsAPlanChange : Prop :=
  ∀ (o : PlanOperands) (pair : PlanPair) (s : State), s.Ready → planOperands o = some pair →
    s.phase = .noChange → pair ≠ s.planNow →
    (∀ (st : StationNo) (b : Batch),
      ((s.station st).current = some b ∨ (s.station st).next = some b) →
        s.classFits b.cls pair.plan = true) →
    ((∃ l : LaneNo, ((s.lane l).state = .opened ∨ (s.lane l).state = .halted) ∧ s.queue l ≠ []) →
      ∃ t : State, exec (.planSet o) s = .next (t.answered 0x14 .ok [] false) ∧
        t.phase = .track ∧ t.planNext = some pair ∧ t.planNow = s.planNow ∧
        (∀ l st, (s.lane l).state = .opened → (s.lane l).grant = some st →
          (s.station st).state = .armed → (t.station st).state = .loaded) ∧
        (∀ l, (t.lane l).state = (if (s.lane l).state = .closed then LaneState.closed else .draining) ∧
          t.queue l = s.queue l ∧ (t.lane l).folder = (s.lane l).folder ∧
          (t.lane l).stacker = (s.lane l).stacker ∧
          ((s.lane l).state = .opened → (t.lane l).grant = none ∧ (t.lane l).releasePoint = none)) ∧
        (∀ st, (t.station st).current = (s.station st).current ∧
          ((s.station st).state ≠ .armed → (t.station st).state = (s.station st).state)) ∧
        t.reports = s.reports ∧ t.alarms = s.alarms) ∧
    ((∀ l : LaneNo, s.queue l = [] ∧ (s.lane l).stacker.state = .empty) →
      ∃ t : State, exec (.planSet o) s = .next (t.answered 0x14 .ok [] false) ∧
        t.phase = .noChange ∧ t.planNext = none ∧ t.planNow = pair ∧
        (∀ l : LaneNo, (t.lane l).state = (if l.val < (match pair.plan with
            | .p1 => 1
            | .p2 => 2
            | .p4 => 4) then .halted else .closed) ∧
          (t.lane l).order = allFour.filter fun st => pair.map.get st = l) ∧
        (s.reports.queue.length < 32 →
          t.reports.queue = s.reports.queue ++ [.planDone pair]) ∧
        t.alarms = s.alarms) ∧
    ((∀ l : LaneNo, s.queue l = []) → ∀ l p, (s.lane l).state = .opened ∨ (s.lane l).state = .halted →
      (s.lane l).stacker.state = .building p →
      ∃ t : State, exec (.planSet o) s = .next (t.answered 0x14 .ok [] false) ∧ t.phase = .stack ∧
        t.planNext = some pair ∧ t.planNow = s.planNow ∧
        (t.lane l).stacker = (s.lane l).stacker.dischargePile p .plan none s.estop s.params.ts) ∧
    ∃ u : State,
      u = { s with planNext := some pair, phase := .track, lanes := u.lanes,
                   stations := u.stations } ∧
      (∀ l, u.lane l =
        if (s.lane l).state = .opened then
          { s.lane l with state := .draining, grant := none, releasePoint := none }
        else if (s.lane l).state = .halted then { s.lane l with state := .draining }
        else s.lane l) ∧
      (∀ st, u.station st = if (s.station st).state = .armed ∧
            (∃ l, (s.lane l).state = .opened ∧ (s.lane l).grant = some st) then
          { s.station st with state := .loaded }
        else s.station st) ∧
      exec (.planSet o) s = .next (u.planMoved.answered 0x14 .ok [] false)

/-- ALARM_SET on every operand: BAD_VALUE for a kind outside 4..9 or a code above 1, else mask and
level are written and the current-alarm rule is applied. -/
def Obligations.AlarmSetWritesMaskAndLevel : Prop :=
  ∀ (kind mask level : Byte) (s : State), s.Ready →
    (kind.toNat < 4 ∨ 9 < kind.toNat ∨ 1 < mask.toNat ∨ 1 < level.toNat →
      exec (.alarmSet kind mask level) s = .next (s.answered 0x15 .badValue [] false)) ∧
    ∀ k : Kind, k.code = kind → 4 ≤ kind.toNat → mask.toNat ≤ 1 → level.toNat ≤ 1 →
      ∃ (written : KindSettings) (t : State),
        exec (.alarmSet kind mask level) s = .next (t.answered 0x15 .ok [] false) ∧
        written.get k = some ⟨decide (mask.toNat = 1), decide (level.toNat = 1)⟩ ∧
        (∀ k', k' ≠ k → written.get k' = s.alarms.settings.get k') ∧
        t = { s with
          alarms := { s.alarms with settings := written }.applyRule,
          attn := ({ s.alarms with settings := written }.applyRule).current.isSome ||
            (s.params.attention && !s.reports.queue.isEmpty) }

/-- The current-alarm rule: the current source stays while it is presentable and none ranks strictly
higher; otherwise the presentable source of highest rank, earliest in default order among its
equals, takes its place, or none does. A source is presentable while it is latched and its kind is
not maskable or is UNMASKED; its rank is 2 for a kind that is not maskable, 1 at level HIGH and 0 at
level LOW. -/
def Obligations.TheCurrentAlarmRule : Prop :=
  ∀ a : Alarms,
    (∀ src : Source,
      (src.kind = .estop ∨ src.kind = .scorch ∨ src.kind = .wrap →
        a.presentable src = (a.latches.get src).latched ∧ a.rank src = 2) ∧
      ∀ k : KindSetting,
        ((src.kind = .jam ∧ k = a.settings.jam) ∨ (src.kind = .stray ∧ k = a.settings.stray) ∨
          (src.kind = .stacker ∧ k = a.settings.stacker) ∨
          (src.kind = .misfeed ∧ k = a.settings.misfeed) ∨
          (src.kind = .speedLow ∧ k = a.settings.speedLow) ∨
          (src.kind = .speedHigh ∧ k = a.settings.speedHigh)) →
        a.settings.get src.kind = some k ∧
          a.presentable src = ((a.latches.get src).latched && !k.masked) ∧
          a.rank src = if k.high = true then 1 else 0) ∧
    (∀ src, a.current = some src → a.presentable src = true →
      (∀ x, a.presentable x = true → a.rank x ≤ a.rank src) → a.applyRule = a) ∧
    (a.current = none ∨ (∃ src, a.current = some src ∧ (a.presentable src = false ∨
        ∃ x, a.presentable x = true ∧ a.rank src < a.rank x)) →
      ∃ c : Option Source, a.applyRule = { a with current := c } ∧
        (c = none → ∀ x, a.presentable x = false) ∧
        ∀ y, c = some y → a.presentable y = true ∧
          ∀ x, a.presentable x = true → a.rank x < a.rank y ∨
            (a.rank x = a.rank y ∧ allSources.idxOf y ≤ allSources.idxOf x))

/-! ### Requests that command -/

/-- ALARM_ACK on every operand: BAD_VALUE where no source is named, STATE for a source that is not
latched; else its latch is cleared, LINE_HOLD goes off with the last WRAP and ROLL_LIFT with SCORCH,
and the current-alarm rule is applied. -/
def Obligations.AlarmAckClearsALatch : Prop :=
  ∀ (kind index : Byte) (s : State), s.Ready →
    ((∀ src : Source, src.kind.code = kind → src.index ≠ index) →
      exec (.alarmAck kind index) s = .next (s.answered 0x24 .badValue [] false)) ∧
    ∀ src : Source, src.kind.code = kind → src.index = index →
      ((s.alarms.latches.get src).latched = false →
        exec (.alarmAck kind index) s = .next (s.answered 0x24 .state [] false)) ∧
      ((s.alarms.latches.get src).latched = true →
        ∃ (left : Latches) (t : State),
          exec (.alarmAck kind index) s = .next (t.answered 0x24 .ok [] false) ∧
          left.get src = ⟨false, 0, 0⟩ ∧
          (∀ x, x ≠ src → left.get x = s.alarms.latches.get x) ∧
          t = { s with
            alarms := { s.alarms with latches := left }.applyRule,
            lineHold := t.lineHold,
            rollLift := if src = .scorch then false else s.rollLift,
            attn := ({ s.alarms with latches := left }.applyRule).current.isSome ||
              (s.params.attention && !s.reports.queue.isEmpty) } ∧
          (src.kind = .wrap → (∀ l, (left.get (.wrap l)).latched = false) → t.lineHold = false) ∧
          (src.kind ≠ .wrap ∨ (∃ l, (left.get (.wrap l)).latched = true) →
            t.lineHold = s.lineHold))

/-- BATCH_LOAD on every operand: BAD_VALUE, then STATE for a class that does not fit the plan in
force or the plan to come, then FULL; else CURRENT is filled and the station goes to WAITING, or
NEXT is filled. -/
def Obligations.BatchLoadFillsASlot : Prop :=
  ∀ (o : BatchOperands) (s : State), s.Ready →
    (4 ≤ o.station.toNat ∨ o.id.toNat = 0 ∨ o.cls.toNat = 0 ∨ 16 ≤ o.cls.toNat →
      exec (.batchLoad o) s = .next (s.answered 0x20 .badValue [] false)) ∧
    ∀ (st : StationNo) (c : ClassNo) (b : Batch) (r : Result), o.station.toNat = st.val →
      o.cls.toNat = c.val → c ≠ 0 → o.id.toNat ≠ 0 →
      b = { id := o.id.toNat, cls := c, pieces := max 1 (min o.pieces.toNat 9999),
            remaining := max 1 (min o.pieces.toNat 9999),
            foldOverride := if o.fold.toNat = 0 then none else some (min o.fold.toNat 7) } →
      r = (if 1 ≤ o.pieces.toNat ∧ o.pieces.toNat ≤ 9999 ∧ o.fold.toNat ≤ 7 then .ok
        else .clamped) →
      (s.classes[c].valid = false →
        exec (.batchLoad o) s = .next (s.answered 0x20 .badValue [] false)) ∧
      (s.classes[c].valid = true →
        ((s.classFits c s.planNow.plan = false ∨
            ∃ pair, s.planNext = some pair ∧ s.classFits c pair.plan = false) →
          exec (.batchLoad o) s = .next (s.answered 0x20 .state [] false)) ∧
        (s.classFits c s.planNow.plan = true →
          (∀ pair, s.planNext = some pair → s.classFits c pair.plan = true) →
          ((s.station st).current = none → exec (.batchLoad o) s = .next
            ((s.setStation st
              { s.station st with current := some b, state := .waiting }).answered 0x20 r [0]
                false)) ∧
          ((s.station st).current ≠ none → (s.station st).next = none →
            exec (.batchLoad o) s = .next
              ((s.setStation st { s.station st with next := some b }).answered 0x20 r [1] false)) ∧
          ((s.station st).current ≠ none → (s.station st).next ≠ none →
            exec (.batchLoad o) s = .next (s.answered 0x20 .full [] false))))

/-- BATCH_CANCEL: of NEXT, the slot cleared without a report; of CURRENT, BUSY or STATE by the
station's state, else BATCH_END with the cancelled flag, NEXT moved up and the grant, if the station
holds it, given back, with the arbiter's decision. -/
def Obligations.BatchCancelClearsASlot : Prop :=
  ∀ (a : Byte) (s : State), s.Ready →
    (4 ≤ a.toNat → exec (.batchCancelNext a) s = .next (s.answered 0x21 .badValue [] false) ∧
      exec (.batchCancelCurrent a) s = .next (s.answered 0x21 .badValue [] false)) ∧
    ∀ st : StationNo, a.toNat = st.val →
      ((s.station st).next = none →
        exec (.batchCancelNext a) s = .next (s.answered 0x21 .ok [0, 0] false)) ∧
      (∀ b, (s.station st).next = some b → exec (.batchCancelNext a) s = .next
        ((s.setStation st { s.station st with next := none }).answered 0x21 .ok
          [BitVec.ofNat 8 (b.id / 256), BitVec.ofNat 8 b.id] false)) ∧
      ((s.station st).state = .noBatch →
        exec (.batchCancelCurrent a) s = .next (s.answered 0x21 .state [] false)) ∧
      ((s.station st).state = .opening ∨ (s.station st).state = .dwell ∨
          (s.station st).state = .returning ∨ (s.station st).state = .finishing →
        exec (.batchCancelCurrent a) s = .next (s.answered 0x21 .busy [] false)) ∧
      ∀ b, ((s.station st).state = .waiting ∨ (s.station st).state = .loaded ∨
          (s.station st).state = .armed) → (s.station st).current = some b →
        ∃ t : State, exec (.batchCancelCurrent a) s = .next (t.answered 0x21 .ok
            [BitVec.ofNat 8 (b.id / 256), BitVec.ofNat 8 b.id] false) ∧
          t.station st = { s.station st with
            current := (s.station st).next, next := none,
            state := if (s.station st).next = none then .noBatch else .waiting } ∧
          (t.lane (s.laneOf st)).grant ≠ some st ∧
          (s.reports.queue.length < 32 → t.reports.queue =
            s.reports.queue ++ [.batchEnd st b.id b.pieces (b.pieces - b.remaining) true]) ∧
          (∀ l, s.queue l <+: t.queue l) ∧ t.alarms = s.alarms ∧ t.params = s.params ∧
          ((s.lane (s.laneOf st)).grant ≠ some st →
            t.lanes = s.lanes ∧ ∀ su, su ≠ st → t.station su = s.station su) ∧
          ∀ u v : State,
            u = (s.setStation st { s.station st with
              current := (s.station st).next, next := none,
              state := if (s.station st).next = none then .noBatch else .waiting }).offer
                (.batchEnd st b.id b.pieces (b.pieces - b.remaining) true) →
            ((s.lane (s.laneOf st)).grant ≠ some st ∧ v = u) ∨
              ((s.lane (s.laneOf st)).grant = some st ∧ u.GaveBack (s.laneOf st) v) →
            exec (.batchCancelCurrent a) s = .next (v.answered 0x21 .ok
              [BitVec.ofNat 8 (b.id / 256), BitVec.ofNat 8 b.id] false)

/-- LANE_CMD RESUME: by the lane's state, its latches, SCORCH, ESTOP and its geometry. The lane that
opens brings its arbiter's decision: the station chosen among the LOADED ones of the lane, in FIXED
and in ROTATING mode, takes the grant with its release point worked out, and its release test is
made. -/
def Obligations.ResumeOpensAHaltedLane : Prop :=
  ∀ (a : Byte) (s : State), s.Ready →
    (4 ≤ a.toNat → exec (.laneCmdResume a) s = .next (s.answered 0x22 .badValue [] false)) ∧
    ∀ l : LaneNo, a.toNat = l.val →
      ((s.lane l).state = .opened →
        exec (.laneCmdResume a) s = .next (s.answered 0x22 .ok [] false)) ∧
      ((s.lane l).state = .closed ∨ (s.lane l).state = .draining →
        exec (.laneCmdResume a) s = .next (s.answered 0x22 .state [] false)) ∧
      ((s.lane l).state = .halted →
        ((∃ src ∈ [Source.wrap l, .jam l, .stray l, .stacker l, .scorch],
              (s.alarms.latches.get src).latched = true) ∨ s.estop = true ∨
            (s.lane l).geometry.pos1 = 0 ∨ (s.lane l).geometry.pos2 = 0 ∨
            (s.lane l).geometry.pos3 = 0 →
          exec (.laneCmdResume a) s = .next (s.answered 0x22 .state [] false)) ∧
        ((∀ src ∈ [Source.wrap l, .jam l, .stray l, .stacker l, .scorch],
              (s.alarms.latches.get src).latched = false) → s.estop = false →
            (s.lane l).geometry.pos1 ≠ 0 → (s.lane l).geometry.pos2 ≠ 0 →
            (s.lane l).geometry.pos3 ≠ 0 →
          (∀ (u : State) (st : StationNo), u = s.setLane l { s.lane l with state := .opened } →
            (s.lane l).grant = none → u.Chosen l st →
            ∃ t : State, exec (.release l) (u.granted l st (u.workedPoint l st)) = .next t ∧
              exec (.laneCmdResume a) s = .next (t.answered 0x22 .ok [] false)) ∧
          ∃ t : State, exec (.laneCmdResume a) s = .next (t.answered 0x22 .ok [] false) ∧
            (t.lane l).state = .opened ∧ (∀ m, m ≠ l → t.lane m = s.lane m) ∧
            (s.queue l <+: t.queue l) ∧ t.alarms = s.alarms ∧ t.reports = s.reports ∧
            (∀ st, (s.station st).state ≠ .loaded → t.station st = s.station st) ∧
            ((∀ st, s.laneOf st = l → (s.station st).state ≠ .loaded) →
              t = s.setLane l { s.lane l with state := .opened }) ∧
            ∀ st, (s.lane l).grant = none → s.params.mode = .fixed → s.laneOf st = l →
              (s.station st).state = .loaded →
              (∀ su, su < st → s.laneOf su = l → (s.station su).state ≠ .loaded) →
              (t.station st).state = .armed ∨ (t.station st).state = .opening))

/-- LANE_CMD HALT and HALT_ALL: a lane that is OPEN goes to HALTED, its grant is taken back, its
release point dropped and an ARMED holder returned to LOADED; nothing else changes. -/
def Obligations.HaltTakesLanesOutOfOpen : Prop :=
  ∀ s : State,
    (s.Ready → ∀ a : Byte,
      (4 ≤ a.toNat → exec (.laneCmdHalt a) s = .next (s.answered 0x22 .badValue [] false)) ∧
      ∀ l : LaneNo, a.toNat = l.val →
        ((s.lane l).state = .halted →
          exec (.laneCmdHalt a) s = .next (s.answered 0x22 .ok [] false)) ∧
        ((s.lane l).state = .closed ∨ (s.lane l).state = .draining →
          exec (.laneCmdHalt a) s = .next (s.answered 0x22 .state [] false)) ∧
        ((s.lane l).state = .opened →
          (∀ st, (s.lane l).grant = some st → (s.station st).state = .armed →
            exec (.laneCmdHalt a) s = .next
              (((s.setStation st { s.station st with state := .loaded }).setLane l
                { s.lane l with state := .halted, grant := none, releasePoint := none }).answered
                  0x22 .ok [] false)) ∧
          ((∀ st, (s.lane l).grant = some st → (s.station st).state ≠ .armed) →
            exec (.laneCmdHalt a) s = .next
              ((s.setLane l
                { s.lane l with state := .halted, grant := none, releasePoint := none }).answered
                  0x22 .ok [] false)))) ∧
    ∃ t : State,
      (s.Ready → exec (.haltAll false) s = .next (t.answered 0x23 .ok [] false)) ∧
      (s.resetPhase = .running → exec (.haltAll true) s = .next t) ∧
      (∀ l, t.lane l = if (s.lane l).state = .opened then
          { s.lane l with state := .halted, grant := none, releasePoint := none }
        else s.lane l) ∧
      (∀ st, t.station st = if (s.station st).state = .armed ∧
            (∃ l, (s.lane l).state = .opened ∧ (s.lane l).grant = some st) then
          { s.station st with state := .loaded }
        else s.station st) ∧
      t = { s with lanes := t.lanes, stations := t.stations }

/-- LANE_CMD PURGE: only in HALTED and DRAINING with the drive reported stopped; the lane's queue
and fold interface are emptied, each record with a SHEET_LOST report of cause PURGED, head to tail,
and a plan change that waits for these records moves on. -/
def Obligations.PurgeEmptiesALane : Prop :=
  ∀ (a : Byte) (s : State), s.Ready →
    (4 ≤ a.toNat → exec (.laneCmdPurge a) s = .next (s.answered 0x22 .badValue [] false)) ∧
    ∀ l : LaneNo, a.toNat = l.val →
      ((s.lane l).state = .opened ∨ (s.lane l).state = .closed ∨ s.inputs.ironerRun = true →
        exec (.laneCmdPurge a) s = .next (s.answered 0x22 .state [] false)) ∧
      ((s.lane l).state = .halted ∨ (s.lane l).state = .draining →
        s.inputs.ironerRun = false →
        ∃ t : State, exec (.laneCmdPurge a) s = .next (t.answered 0x22 .ok [] false) ∧
          t.queue l = [] ∧
          (t.lane l).folder = { queue := [], phase := .idle, timer := none, strobe := false,
                                code := 0 } ∧
          (t.lane l).eyes = (s.lane l).eyes ∧ t.alarms = s.alarms ∧ t.params = s.params ∧
          (s.phase = .noChange → (t.lane l).state = (s.lane l).state ∧
            (t.lane l).stacker = (s.lane l).stacker) ∧
          (s.phase = .noChange → (∀ st, (s.station st).state ≠ .finishing) →
            (∀ m, m ≠ l → t.lane m = s.lane m) ∧
            (∀ st, (t.station st).outstanding = (s.station st).outstanding -
                ((s.queue l).filter fun r =>
                  decide (r.nextEye = .e0) && decide (r.origin = some st)).length ∧
              (t.station st).current = (s.station st).current ∧
              (t.station st).state = (s.station st).state) ∧
            (s.reports.queue.length + (s.queue l).length ≤ 32 →
              t.reports.queue = s.reports.queue ++ (s.queue l).map fun r =>
                .sheetLost r.tag l r.origin r.batch r.cls .purged r.cause)) ∧
          (s.queue l ≠ [] → (∀ st, (s.station st).state ≠ .finishing) →
            ∃ v : State,
              (∀ st, v.station st = { s.station st with
                outstanding := (s.station st).outstanding -
                  ((s.queue l).filter fun r =>
                    decide (r.nextEye = .e0) && decide (r.origin = some st)).length }) ∧
              v = ((s.queue l).foldl
                (fun (u : State) (r : Record) =>
                  u.offer (.sheetLost r.tag l r.origin r.batch r.cls .purged r.cause))
                ({ s with stations := v.stations }.setLane l { s.lane l with
                  queue := [],
                  folder := { queue := [], phase := .idle, timer := none, strobe := false,
                              code := 0 } })).evalGuard ∧
              t = v.planMoved))

/-- LANE_CMD FLUSH: a stack that is BUILDING discharges with reason HOST at its present count; in
EMPTY and DISCHARGING the request is refused. -/
def Obligations.FlushDischargesABuildingStack : Prop :=
  ∀ (a : Byte) (s : State), s.Ready →
    (4 ≤ a.toNat → exec (.laneCmdFlush a) s = .next (s.answered 0x22 .badValue [] false)) ∧
    ∀ l : LaneNo, a.toNat = l.val →
      ((s.lane l).stacker.state = .empty ∨
          (∃ out pocket, (s.lane l).stacker.state = .discharging out pocket) →
        exec (.laneCmdFlush a) s = .next (s.answered 0x22 .state [] false)) ∧
      ∀ p, (s.lane l).stacker.state = .building p → exec (.laneCmdFlush a) s = .next
        ((s.setLane l { s.lane l with stacker :=
          { state := .discharging ⟨p.batch, p.cls, p.count, .host⟩ none,
            timer := if s.estop then .suspended (s.params.ts * 1000)
              else .running (s.params.ts * 1000),
            discharge := !s.estop, tally := (s.lane l).stacker.tally } }).answered
          0x22 .ok [] false)

/-- REJECT_MARK: BAD_VALUE for a tag no record holds, TOO_LATE with the record's cause once it is
folded; else the record takes MARKED unless it holds a cause, and the reply gives the cause held. -/
def Obligations.RejectMarkMarksAnUnfoldedRecord : Prop :=
  ∀ (tag : BitVec 16) (s : State), s.Ready →
    ((∀ r ∈ s.records, r.tag ≠ tag.toNat) →
      exec (.rejectMark tag) s = .next (s.answered 0x25 .badValue [] false)) ∧
    ∀ (l : LaneNo) (r : Record), (s.records.map Record.tag).Nodup → r ∈ s.queue l →
      r.tag = tag.toNat →
      (r.folded = true → exec (.rejectMark tag) s = .next (s.answered 0x25 .tooLate
        [tag.extractLsb' 8 8, tag.extractLsb' 0 8, causeByte r.cause] false)) ∧
      (r.folded = false → exec (.rejectMark tag) s = .next
        ((s.setLane l { s.lane l with queue := (s.queue l).map (fun (x : Record) =>
            if x.tag = tag.toNat then { x with cause := some (x.cause.getD .marked) }
            else x) }).answered 0x25 .ok
          [tag.extractLsb' 8 8, tag.extractLsb' 0 8, (r.cause.getD .marked).code] false))

/-! ### Reset -/

/-- The RESET pin puts every block at its reset values and every output off. Of the class entries,
that of class 0, which R20 fixes as FOREIGN, is the model's own: no request writes it and nothing
reads it (log entry 20). -/
def Obligations.TheResetPinSetsEveryBlock : Prop :=
  ∀ s : State, ∃ t : State, exec .resetPin s = .next t ∧ t.resetPhase = .held ∧
    t.travel = 0 ∧ t.residual = 0 ∧ t.gateCount = 0 ∧ t.speed = 0 ∧ t.emptyGate = true ∧
    t.params = { scale := 4, fe := 0, vlo := 0, vhi := 2040, vs := 100, tsc := 8, ts := 20,
                 gb := 1000, mode := .fixed, attention := false } ∧
    (∀ c : ClassNo, t.classes[c] =
      { valid := false, lnom := 200, tol := 0, leadGap := 0, trailGap := 0, width := .full,
        fold := 1, target := 1 }) ∧
    t.planNow = { plan := .p1, map := ⟨0, 0, 0, 0⟩ } ∧ t.planNext = none ∧ t.phase = .noChange ∧
    (∀ st, t.station st =
      { state := .noBatch, current := none, next := none, outstanding := 0, timer := none,
        holdOrigin := 0, openOut := false, returnOut := false,
        params := { drop := 1500, openMs := 300, dwellMs := 50, returnMs := 800, mode := .single,
                    hold := 2000 } }) ∧
    (∀ l, (t.lane l).state = (if l = 0 then .halted else .closed) ∧
      (t.lane l).geometry = { pos1 := 0, pos2 := 0, pos3 := 0, w0 := 100, w1 := 100, w2 := 100,
                              w3 := 100 } ∧
      (t.lane l).grant = none ∧ (t.lane l).releasePoint = none ∧
      (t.lane l).order = (if l = 0 then [0, 1, 2, 3] else []) ∧ t.queue l = [] ∧
      (t.lane l).folder = { queue := [], phase := .idle, timer := none, strobe := false,
                            code := 0 } ∧
      (t.lane l).stacker = { state := .empty, timer := .idle, discharge := false, tally := 0 } ∧
      ∀ k, (t.eye l k).raw = (s.eye l k).raw ∧ (t.eye l k).pending = none) ∧
    t.tagCounter = 1 ∧ t.scorch = .idle ∧ t.rollLift = false ∧ t.lineHold = false ∧
    t.attn = false ∧ t.estop = false ∧ t.inputs = s.inputs ∧
    (∀ src, t.alarms.latches.get src = ⟨false, 0, 0⟩) ∧ t.alarms.current = none ∧
    t.alarms.settings.get .jam = some ⟨false, true⟩ ∧
    t.alarms.settings.get .stray = some ⟨false, true⟩ ∧
    t.alarms.settings.get .stacker = some ⟨false, true⟩ ∧
    t.alarms.settings.get .misfeed = some ⟨false, false⟩ ∧
    t.alarms.settings.get .speedLow = some ⟨false, false⟩ ∧
    t.alarms.settings.get .speedHigh = some ⟨false, false⟩ ∧
    t.reports.queue = [] ∧ t.reports.lost = false ∧ t.link.receiver = .hunting ∧
    t.link.lineRested = false ∧ t.link.reply = none ∧ t.link.overrun = false ∧
    t.pending = s.pending

/-- An addressed UNIT_RESET is answered first, with the header of the state before it, and a
broadcast one has the effect of the RESET pin with the 20 ms interval begun; the release of the pin
begins the interval; its end reads the switches, settles the eyes and starts the gate, and takes an
active ESTOP input as an activation. -/
def Obligations.UnitResetsAndTheResetInterval : Prop :=
  ∀ s : State,
    (s.Ready → exec (.unitReset false) s = .next (s.answered 0x2F .ok [] true)) ∧
    (s.resetPhase = .running → ∃ t : State, exec .resetPin s = .next t ∧
      exec (.unitReset true) s = .next { t with resetPhase := .interval 20 }) ∧
    (s.resetPhase = .held → exec .resetPinRelease s =
      .next { s with resetPhase := .interval 20 }) ∧
    ∀ ms, s.resetPhase = .interval ms →
      (s.inputs.estop = false → exec .resetEnd s = .next
        { s with
          resetPhase := .running, gateLeft := 125,
          link := { s.link with address := s.inputs.addrSwitches,
                                rate := s.inputs.baudSwitches },
          lanes := s.lanes.map (fun (ln : Lane) => { ln with
            eyes := ln.eyes.map (fun (e : Eye) => ⟨e.raw, e.raw, none⟩) }) }) ∧
      (s.inputs.estop = true → ∃ t : State, exec .resetEnd s = .next t ∧
        t.resetPhase = .running ∧ t.estop = true ∧
        t.link.address = s.inputs.addrSwitches ∧
        (t.alarms.latches.get .estop).latched = true ∧
        ((s.alarms.latches.get .estop).latched = false →
          t.alarms.latches.get .estop = ⟨true, 1, 1⟩) ∧
        ∀ l k, t.eye l k = ⟨(s.eye l k).raw, (s.eye l k).raw, none⟩)

/-- In a reset no command has an effect but those of the RESET pin, the end of the interval, and the
levels of the eye and ESTOP inputs. -/
def Obligations.NothingIsTakenInAReset : Prop :=
  ∀ (c : Instr) (s : State), s.resetPhase ≠ .running →
    (exec c s = .next s) ∨ c = .resetPin ∨ c = .resetPinRelease ∨ c = .resetEnd ∨
      (∃ l k covered, c = .eyeRawChange l k covered ∧
        exec c s = .next (s.setEye l k
          (if covered = (s.eye l k).raw then s.eye l k else ⟨covered, covered, none⟩))) ∨
      (c = .estopActivation ∧
        exec c s = .next { s with inputs := { s.inputs with estop := true } }) ∨
      (c = .estopInactiveEdge ∧
        exec c s = .next { s with inputs := { s.inputs with estop := false } })

/-! ### Alarm occurrences -/

/-- An occurrence of any source: its latch, count and cause, the lanes it halts, the line outputs,
and the current-alarm rule as the last step. -/
def Obligations.OccurrencesLatchHaltAndShow : Prop :=
  ∀ (src : Source) (cause : Nat) (s t : State), t = s.occur src cause →
    t = { s with alarms := t.alarms, attn := t.attn, lineHold := t.lineHold,
                 rollLift := t.rollLift, lanes := t.lanes, stations := t.stations } ∧
    t.alarms.latches.get src =
      (if (s.alarms.latches.get src).latched = true then
        ⟨true, min ((s.alarms.latches.get src).count + 1) 255, cause⟩
      else ⟨true, 1, cause⟩) ∧
    (∀ x, x ≠ src → t.alarms.latches.get x = s.alarms.latches.get x) ∧
    t.alarms = { s.alarms with latches := t.alarms.latches }.applyRule ∧
    t.attn = (t.alarms.current.isSome || (s.params.attention && !s.reports.queue.isEmpty)) ∧
    t.lineHold = (s.lineHold || decide (src.kind = .wrap)) ∧
    t.rollLift = (s.rollLift || decide (src = .scorch)) ∧
    (∀ l, t.lane l = if (s.lane l).state = .opened ∧
          src ∈ [Source.estop, .scorch, .wrap l, .jam l, .stray l, .stacker l] then
        { s.lane l with state := .halted, grant := none, releasePoint := none }
      else s.lane l) ∧
    ∀ st, t.station st = if (s.station st).state = .armed ∧
          (∃ l, (s.lane l).state = .opened ∧ (s.lane l).grant = some st ∧
            src ∈ [Source.estop, .scorch, .wrap l, .jam l, .stray l, .stacker l]) then
        { s.station st with state := .loaded }
      else s.station st

/-! ### Travel and speed -/

/-- Pulses bring r to P, where they are a travel advance; an advance counts and makes the tests that
are due. One test due is the row of that test (log entries 6 and 7), a test that is not due has no
effect, and an edge is taken before a deadline. A release test and the deadline or the edge due
beside it are taken in either order, which one by a free choice (log entry 8), and with the pool
full a lane that can be given an ARMED station has its test too. -/
def Obligations.PulsesMakeTravelAdvances : Prop :=
  ∀ s : State, s.resetPhase = .running →
    (s.residual + 1 < s.params.scale →
      exec .encPulse s = .next { s with residual := s.residual + 1 }) ∧
    (s.params.scale ≤ s.residual + 1 → exec .encPulse s = exec .travelAdvance s) ∧
    (∃ t : State, exec .travelAdvance s = .next t ∧ t.travel = s.travel + 1 ∧ t.residual = 0 ∧
      t.gateCount = min (s.gateCount + 1) 255 ∧ t.speed = s.speed ∧ t.emptyGate = s.emptyGate ∧
      t.gateLeft = s.gateLeft ∧ t.params = s.params ∧ t.classes = s.classes ∧
      t.estop = s.estop ∧ t.inputs = s.inputs ∧ t.link = s.link) ∧
    ∀ c : State,
      c = { s with travel := s.travel + 1, residual := 0,
                   gateCount := min (s.gateCount + 1) 255 } →
      (c.advanceTasks = [] → exec .travelAdvance s = .next c) ∧
      (∀ l k, c.advanceTasks = [.edge l k] → exec .travelAdvance s = exec (.edgeAccepted l k) c) ∧
      (∀ st, c.advanceTasks = [.hold st] → exec .travelAdvance s = exec (.runHoldExpiry st) c) ∧
      (∀ l, c.advanceTasks = [.releaseTest l] → exec .travelAdvance s = exec (.release l) c) ∧
      (∀ l tag, s.PoolSound → c.advanceTasks = [.deadline l tag] →
        exec .travelAdvance s = exec (.deadlinePass (BitVec.ofNat 16 tag)) c) ∧
      (∀ l k m tag (t : State), s.PoolSound → c.advanceTasks = [.edge l k, .deadline m tag] →
        exec (.edgeAccepted l k) c = .next t → (t.laneWithTag tag = none ∨ t.laneWithTag tag = some m) →
          exec .travelAdvance s = exec (.deadlinePass (BitVec.ofNat 16 tag)) t) ∧
      (∀ l m tag, s.PoolSound → c.advanceTasks = [.releaseTest l, .deadline m tag] →
        ∃ o : List Instr, (o = [.release l, .deadlinePass (BitVec.ofNat 16 tag)] ∨
            o = [.deadlinePass (BitVec.ofNat 16 tag), .release l]) ∧
          exec .travelAdvance s = runAll o { c with freeDraws := s.freeDraws + 1 }) ∧
      (∀ l k m, c.advanceTasks = [.edge l k, .releaseTest m] →
        ∃ o : List Instr, (o = [.edgeAccepted l k, .release m] ∨
            o = [.release m, .edgeAccepted l k]) ∧
          exec .travelAdvance s = runAll o { c with freeDraws := s.freeDraws + 1 }) ∧
      (96 ≤ s.records.length → ∀ l st, (s.lane l).state = .opened → s.laneOf st = l →
        (s.station st).state = .loaded → .releaseTest l ∈ c.advanceTasks) ∧
      (∀ l k, .edge l k ∉ c.advanceTasks → exec (.edgeAccepted l k) c = .next c) ∧
      (∀ st, .hold st ∉ c.advanceTasks → exec (.runHoldExpiry st) c = .next c) ∧
      (∀ l, .releaseTest l ∉ c.advanceTasks → exec (.release l) c = .next c) ∧
      ∀ tag : BitVec 16, (∀ l, .deadline l tag.toNat ∉ c.advanceTasks) →
        exec (.deadlinePass tag) c = .next c

/-- The end of a gate: the new filtered speed and the empty-gate mark, the speed comparisons against
the speed before, the scorch guard, and a working of every ARMED station with the new lead. -/
def Obligations.GateEndUpdatesTheSpeed : Prop :=
  ∀ (s : State) (f : Nat), s.resetPhase = .running →
    f = (if s.gateCount = 0 ∧ s.emptyGate = true then 0
      else (3 * s.speed + 8 * s.gateCount + 2) / 4) →
    ∃ t : State, exec .gateEnd s = .next t ∧ t.speed = f ∧
      t.emptyGate = decide (s.gateCount = 0) ∧ t.gateCount = 0 ∧ t.gateLeft = 125 ∧
      t.travel = s.travel ∧ t.residual = s.residual ∧ t.params = s.params ∧
      t.classes = s.classes ∧ t.reports = s.reports ∧ t.estop = s.estop ∧ t.link = s.link ∧
      t.alarms =
        (if s.params.vlo ≤ s.speed ∧ f < s.params.vlo ∧ s.inputs.ironerRun = true then
          (s.occur .speedLow 1).alarms
        else if s.speed ≤ s.params.vhi ∧ s.params.vhi < f then (s.occur .speedHigh 1).alarms
        else s.alarms) ∧
      t.scorch = ({ s with speed := f }.evalGuard).scorch ∧
      ((∀ l, s.armedStation l = none) → t.lanes = s.lanes ∧ t.stations = s.stations) ∧
      (s.GrantsSound → ∀ l st p, s.armedStation l = some st →
        ({ s with speed := f }.workedPoint l st) = some p →
          ((s.travel - p).msb = true →
            t.lane l = { s.lane l with releasePoint := some p } ∧ t.station st = s.station st) ∧
          ((s.travel - p).msb = false → s.poolCount < 96 →
            (∀ m, m ≠ l → s.armedStation m = none) →
            (t.station st).state = .opening ∧ ∃ r more, t.queue l = s.queue l ++ r :: more ∧
              r.origin = some st ∧ r.releasePos = some s.travel ∧
              r.predLe0 = some (s.travel + BitVec.ofNat 32 ((s.station st).params.drop +
                (f * (s.station st).params.openMs + 500) / 1000))))

/-! ### Eyes -/

/-- A raw change of an eye starts a pending change, drops one or, with Fe = 0, is accepted at once;
a pending change is accepted where the travel has come Fe past its start, and in a CLOSED lane no
edge of it is delivered. -/
def Obligations.EyesAreConditioned : Prop :=
  ∀ (l : LaneNo) (k : EyeNo) (s : State), s.resetPhase = .running →
    (∀ covered : Bool, covered ≠ (s.eye l k).raw →
      (covered = (s.eye l k).accepted → exec (.eyeRawChange l k covered) s =
        .next (s.setEye l k ⟨covered, covered, none⟩)) ∧
      (covered ≠ (s.eye l k).accepted → s.params.fe ≠ 0 →
        exec (.eyeRawChange l k covered) s =
          .next (s.setEye l k ⟨covered, (s.eye l k).accepted, some s.travel⟩)) ∧
      (covered ≠ (s.eye l k).accepted → s.params.fe = 0 →
        exec (.eyeRawChange l k covered) s = exec (.edgeAccepted l k)
          (s.setEye l k ⟨covered, (s.eye l k).accepted, some s.travel⟩))) ∧
    ∀ x : Pos, (s.eye l k).pending = some x →
      (s.travel - (x + BitVec.ofNat 32 s.params.fe)).msb = false →
      ((s.lane l).state = .closed → exec (.edgeAccepted l k) s =
        .next (s.setEye l k ⟨(s.eye l k).raw, (s.eye l k).raw, none⟩)) ∧
      ∃ t : State, exec (.edgeAccepted l k) s = .next t ∧
        t.eye l k = ⟨(s.eye l k).raw, (s.eye l k).raw, none⟩ ∧
        (∀ m j, m ≠ l ∨ j ≠ k → t.eye m j = s.eye m j) ∧ t.travel = s.travel ∧
        t.residual = s.residual ∧ t.gateCount = s.gateCount ∧ t.speed = s.speed ∧
        t.params = s.params ∧ t.classes = s.classes ∧ t.estop = s.estop ∧ t.link = s.link

/-! ### Edges at E0 -/

/-- A leading edge at E0 in the window of the record nearest the head that waits for E0: the
record's LE0, next eye and deadlines, the notice to its station, which in FINISHING may complete its
batch and give the grant of a RUN station back with the arbiter's decision, a working of the lane's
ARMED station where the record is the youngest, and the scorch guard. A deadline set behind the
travel passes at once. -/
def Obligations.AnEdgeInTheEntryWindowMatches : Prop :=
  ∀ (l : LaneNo) (x pred : Pos) (r r' : Record) (s u : State), s.resetPhase = .running →
    s.PoolSound → (s.lane l).state ≠ .closed → (s.eye l 0).raw = true →
    (s.eye l 0).pending = some x → (s.travel - (x + BitVec.ofNat 32 s.params.fe)).msb = false →
    (s.queue l).find? (fun y => decide (y.nextEye = .e0)) = some r → r.predLe0 = some pred →
    -((s.lane l).geometry.w0 : Int) ≤ (x - pred).toInt →
    (x - pred).toInt ≤ ((s.lane l).geometry.w0 : Int) →
    r' = { r with
      le0 := some x, predLe0 := none, nextEye := .e1,
      deadline := x + BitVec.ofNat 32
        ((s.lane l).geometry.pos1 + (s.lane l).geometry.w1 + s.params.fe),
      clearDeadline := some (x + BitVec.ofNat 32 (2 * r.lnom + s.params.fe)) } →
    u = (s.setEye l 0 ⟨true, true, none⟩).setQueue l
      ((s.queue l).map (fun (y : Record) => if y.tag = r.tag then r' else y)) →
    (∀ v : State,
      ((r.origin = none ∧ v = u) ∨
        (∃ st, r.origin = some st ∧
          ((s.station st).state ≠ .finishing ∨ 1 < (s.station st).outstanding) ∧
          v = u.setStation st
            { s.station st with outstanding := (s.station st).outstanding - 1 }) ∨
        (∃ (st : StationNo) (b : Batch) (g : State), r.origin = some st ∧
          (s.station st).state = .finishing ∧
          (s.station st).outstanding = 1 ∧ (s.station st).current = some b ∧
          g = (u.setStation st
            { s.station st with
              outstanding := 0, current := (s.station st).next, next := none,
              state := if (s.station st).next = none then .noBatch else .waiting }).offer
            (.batchEnd st b.id b.pieces (b.pieces - b.remaining) false) ∧
          (((s.lane (s.laneOf st)).grant ≠ some st ∧ v = g) ∨
            ((s.lane (s.laneOf st)).grant = some st ∧ g.GaveBack (s.laneOf st) v)))) →
      (v.armedStation l = none ∨ (s.queue l).getLast? ≠ some r →
        exec (.edgeAccepted l 0) s =
            exec (.deadlinePass (BitVec.ofNat 16 r.tag)) v.evalGuard ∧
          ((s.travel - r'.deadline).msb = true →
            (s.travel - (x + BitVec.ofNat 32 (2 * r.lnom + s.params.fe))).msb = true →
            exec (.edgeAccepted l 0) s = .next v.evalGuard)) ∧
      ∀ (a : StationNo) (t : State), v.armedStation l = some a → (s.queue l).getLast? = some r →
        exec (.release l) (v.setLane l
          { v.lane l with releasePoint := v.workedPoint l a }) = .next t →
        exec (.edgeAccepted l 0) s =
            exec (.deadlinePass (BitVec.ofNat 16 r.tag)) t.evalGuard ∧
          ((s.travel - r'.deadline).msb = true →
            (s.travel - (x + BitVec.ofNat 32 (2 * r.lnom + s.params.fe))).msb = true →
            exec (.edgeAccepted l 0) s = .next t.evalGuard)) ∧
    ((s.travel - r'.deadline).msb = true →
      (s.travel - (x + BitVec.ofNat 32 (2 * r.lnom + s.params.fe))).msb = true →
      ∃ t : State, exec (.edgeAccepted l 0) s = .next t ∧ (∀ m, u.queue m <+: t.queue m) ∧
        t.alarms = s.alarms ∧
        ∀ m, (t.lane m).state = (s.lane m).state ∧ (t.lane m).folder = (s.lane m).folder ∧
          (t.lane m).stacker = (s.lane m).stacker)

/-- A leading edge at E0 that matches no record makes a foreign record ahead of the records that
wait for E0, with the first tag from the counter on that no record holds, and the lane's ARMED
station works its point again; with no slot free it is an occurrence of STRAY with cause POOL_FULL.
-/
def Obligations.AnUnmatchedEdgeAtE0MakesAForeignRecord : Prop :=
  ∀ (l : LaneNo) (x : Pos) (s u : State), s.resetPhase = .running →
    s.PoolSound → (s.lane l).state ≠ .closed → (s.eye l 0).raw = true →
    (s.eye l 0).pending = some x → (s.travel - (x + BitVec.ofNat 32 s.params.fe)).msb = false →
    ((∀ y ∈ s.queue l, y.nextEye ≠ .e0) ∨
      ∃ r pred, (s.queue l).find? (fun y => decide (y.nextEye = .e0)) = some r ∧
        r.predLe0 = some pred ∧
        ((x - pred).toInt < -((s.lane l).geometry.w0 : Int) ∨
          ((s.lane l).geometry.w0 : Int) < (x - pred).toInt)) →
    u = s.setEye l 0 ⟨true, true, none⟩ →
    (96 ≤ s.records.length → exec (.edgeAccepted l 0) s = .next (u.occur (.stray l) 1)) ∧
    (s.records.length < 96 →
      ∃ (n : Nat) (r : Record) (q : List Record) (v : State),
        (1 ≤ n ∧ n ≤ 65535 ∧ ∀ y ∈ s.records, y.tag ≠ n) ∧
        ((∀ y ∈ s.records, y.tag ≠ s.tagCounter) → n = s.tagCounter) ∧ s.NextTag n ∧
        r = { tag := n, lane := l, origin := none, batch := 0, cls := 0, lnom := 6000, tol := 0,
              trailGap := 0, fold := 0, releasePos := none, predLe0 := none, le0 := some x,
              te0 := none, length := none, nextEye := .e1, le3 := none, cause := some .foreign,
              folded := false,
              deadline := x + BitVec.ofNat 32
                ((s.lane l).geometry.pos1 + (s.lane l).geometry.w1 + s.params.fe),
              clearDeadline := some (x + BitVec.ofNat 32 (12000 + s.params.fe)) } ∧
        q = (s.queue l).takeWhile (fun y => decide (y.nextEye ≠ .e0)) ++
          r :: (s.queue l).dropWhile (fun y => decide (y.nextEye ≠ .e0)) ∧
        v = { u.setQueue l q with tagCounter := if n = 65535 then 1 else n + 1 } ∧
        (s.armedStation l = none → exec (.edgeAccepted l 0) s =
          exec (.deadlinePass (BitVec.ofNat 16 n)) v.evalGuard) ∧
        (∀ (a : StationNo) (t : State), s.armedStation l = some a →
          exec (.release l) (v.setLane l
            { v.lane l with releasePoint := v.workedPoint l a }) = .next t →
          exec (.edgeAccepted l 0) s =
              exec (.deadlinePass (BitVec.ofNat 16 n)) t.evalGuard ∧
            ((s.travel - r.deadline).msb = true →
              (s.travel - (x + BitVec.ofNat 32 (12000 + s.params.fe))).msb = true →
              exec (.edgeAccepted l 0) s = .next t.evalGuard)) ∧
        ((s.travel - r.deadline).msb = true →
          (s.travel - (x + BitVec.ofNat 32 (12000 + s.params.fe))).msb = true →
          (s.armedStation l = none → exec (.edgeAccepted l 0) s = .next v.evalGuard) ∧
          ∃ t : State, exec (.edgeAccepted l 0) s = .next t ∧ v.queue l <+: t.queue l ∧
            (∀ m, m ≠ l → t.lane m = s.lane m) ∧ t.alarms = s.alarms ∧ t.reports = s.reports))

/-- A trailing edge at E0: the record on E0 takes TE0, its measured length and, if it has an origin
and no cause yet, the cause its length gives, and the lane's ARMED station works its point again
where the record is the youngest; with no record on E0 the edge is ignored. Only a CLEAR deadline
that the edge sets again is tested at it. -/
def Obligations.ATrailingEdgeAtE0MeasuresAndClasses : Prop :=
  ∀ (l : LaneNo) (x : Pos) (s u : State), s.resetPhase = .running → s.PoolSound →
    (s.lane l).state ≠ .closed → (s.eye l 0).raw = false → (s.eye l 0).pending = some x →
    (s.travel - (x + BitVec.ofNat 32 s.params.fe)).msb = false →
    u = s.setEye l 0 ⟨false, false, none⟩ →
    ((∀ y ∈ s.queue l, y.le0 = none ∨ y.te0 ≠ none) → exec (.edgeAccepted l 0) s = .next u) ∧
    ∀ (r r' : Record) (le0 : Pos) (n : Nat) (v : State),
      (s.queue l).find? (fun y => y.le0.isSome && y.te0.isNone) = some r → r.le0 = some le0 →
      n = (x - le0).toNat →
      r' = { r with
        te0 := some x, length := some n, clearDeadline := none,
        deadline := (match r.nextEye, r.le3 with
          | .clear, some le3 => le3 + BitVec.ofNat 32 (n + (s.lane l).geometry.w3 + s.params.fe)
          | _, _ => r.deadline),
        cause :=
          if r.cause ≠ none ∨ r.origin = none then r.cause
          else if r.lnom + r.lnom / 2 ≤ n then some .double
          else if r.lnom + r.tol < n then some .long
          else if n + r.tol < r.lnom then some .short
          else none } →
      v = u.setQueue l
        ((s.queue l).map (fun (y : Record) => if y.tag = r.tag then r' else y)) →
      (∀ w : State,
        (((s.armedStation l = none ∨ (s.queue l).getLast? ≠ some r) ∧ w = v) ∨
          (∃ a, s.armedStation l = some a ∧ (s.queue l).getLast? = some r ∧
            exec (.release l) (v.setLane l
              { v.lane l with releasePoint := v.workedPoint l a }) = .next w)) →
        (r.nextEye ≠ .clear ∨ r.le3 = none → exec (.edgeAccepted l 0) s = .next w) ∧
        (r.nextEye = .clear → r.le3 ≠ none →
          exec (.edgeAccepted l 0) s = exec (.deadlinePass (BitVec.ofNat 16 r.tag)) w ∧
          ((s.travel - r'.deadline).msb = true → exec (.edgeAccepted l 0) s = .next w))) ∧
      (r.nextEye ≠ .clear ∨ r.le3 = none ∨ (s.travel - r'.deadline).msb = true →
        ∃ t : State, exec (.edgeAccepted l 0) s = .next t ∧ v.queue l <+: t.queue l ∧
          (∀ m, m ≠ l → t.lane m = s.lane m) ∧ t.alarms = s.alarms ∧ t.reports = s.reports)

/-! ### Edges at E1, E2 and E3 -/

/-- Edges at E1 and E3: a leading edge in the window of the record nearest the head that waits for
the eye moves it on, one that matches nothing is an occurrence of STRAY, at E2 too, and the trailing
edges of E1 and E2, and one of E3 that finds no record at CLEAR, are ignored. A match tests the
deadline it has set, and no deadline set before. -/
def Obligations.EdgesDownstreamMatchOrStray : Prop :=
  ∀ (l : LaneNo) (k : EyeNo) (x : Pos) (s u : State), s.resetPhase = .running →
    (s.lane l).state ≠ .closed → (s.eye l k).pending = some x →
    (s.travel - (x + BitVec.ofNat 32 s.params.fe)).msb = false →
    u = s.setEye l k ⟨(s.eye l k).raw, (s.eye l k).raw, none⟩ →
    ((s.eye l k).raw = false → k = 1 ∨ k = 2 ∨ (k = 3 ∧ ∀ y ∈ s.queue l, y.nextEye ≠ .clear) →
      exec (.edgeAccepted l k) s = .next u) ∧
    ((s.eye l k).raw = true → ∀ (eye : NextEye) (pos w : Nat),
      ((k = 1 ∧ eye = .e1 ∧ pos = (s.lane l).geometry.pos1 ∧ w = (s.lane l).geometry.w1) ∨
        (k = 2 ∧ eye = .e2 ∧ pos = (s.lane l).geometry.pos2 ∧ w = (s.lane l).geometry.w2) ∨
        (k = 3 ∧ eye = .e3 ∧ pos = (s.lane l).geometry.pos3 ∧ w = (s.lane l).geometry.w3)) →
      ((∀ y ∈ s.queue l, y.nextEye ≠ eye) →
        exec (.edgeAccepted l k) s = .next (u.occur (.stray l) (k.val + 1))) ∧
      ∀ r le0, (s.queue l).find? (fun y => decide (y.nextEye = eye)) = some r →
        r.le0 = some le0 →
        ((x - (le0 + BitVec.ofNat 32 pos)).toInt < -(w : Int) ∨
            (w : Int) < (x - (le0 + BitVec.ofNat 32 pos)).toInt →
          exec (.edgeAccepted l k) s = .next (u.occur (.stray l) (k.val + 1))) ∧
        (-(w : Int) ≤ (x - (le0 + BitVec.ofNat 32 pos)).toInt →
          (x - (le0 + BitVec.ofNat 32 pos)).toInt ≤ (w : Int) → s.PoolSound →
          ∀ (r' : Record) (v : State),
            ((k = 1 ∧ r' = { r with
                nextEye := .e2,
                deadline := le0 + BitVec.ofNat 32
                  ((s.lane l).geometry.pos2 + (s.lane l).geometry.w2 + s.params.fe) }) ∨
              (k = 3 ∧ r' = { r with
                nextEye := .clear, le3 := some x,
                deadline := x + BitVec.ofNat 32
                  ((match r.length with
                    | some n => n
                    | none => r.lnom + r.tol) + (s.lane l).geometry.w3 + s.params.fe) })) →
            v = u.setQueue l
              ((s.queue l).map (fun (y : Record) => if y.tag = r.tag then r' else y)) →
            ((s.travel - r'.deadline).msb = false →
              exec (.edgeAccepted l k) s = exec (.deadlinePass (BitVec.ofNat 16 r.tag)) v) ∧
            ((s.travel - r'.deadline).msb = true → exec (.edgeAccepted l k) s = .next v)))

/-- A match at E2: LONG where TE0 is absent, the fold command with the record's fold code or 0, its
strobe, its wait or its overflow, next eye E3 and its deadline, and the scorch guard. The match
tests the deadline it has set, and no deadline set before. That an overflow comes before the outcome
of a deadline that has passed already is the model's reading of R116, R125 and R89 (log entry 27).
-/
def Obligations.AMatchAtE2MakesAFoldCommand : Prop :=
  ∀ (l : LaneNo) (x le0 : Pos) (r r' : Record) (code : Nat) (s u : State),
    s.resetPhase = .running → s.PoolSound → (s.lane l).state ≠ .closed → (s.eye l 2).raw = true →
    (s.eye l 2).pending = some x → (s.travel - (x + BitVec.ofNat 32 s.params.fe)).msb = false →
    (s.queue l).find? (fun y => decide (y.nextEye = .e2)) = some r → r.le0 = some le0 →
    -((s.lane l).geometry.w2 : Int) ≤
      (x - (le0 + BitVec.ofNat 32 (s.lane l).geometry.pos2)).toInt →
    (x - (le0 + BitVec.ofNat 32 (s.lane l).geometry.pos2)).toInt ≤
      ((s.lane l).geometry.w2 : Int) →
    r' = { r with
      cause := if r.te0 = none ∧ r.cause = none then some .long else r.cause,
      folded := true, nextEye := .e3,
      deadline := le0 + BitVec.ofNat 32
        ((s.lane l).geometry.pos3 + (s.lane l).geometry.w3 + s.params.fe) } →
    code = (if r'.cause = none then r.fold else 0) → u = s.setEye l 2 ⟨true, true, none⟩ →
    ∀ v : State,
      (((s.lane l).folder.queue.length < 2 ∧ ∃ f : Folder,
          ((s.lane l).folder.phase ≠ .idle → f =
            { (s.lane l).folder with
              queue := (s.lane l).folder.queue ++ [⟨r.tag, code⟩] }) ∧
          ((s.lane l).folder.phase = .idle → (s.lane l).folder.queue = [] ∧ f =
            { queue := [⟨r.tag, code⟩], phase := .strobe, timer := some 40, strobe := true,
              code := code }) ∧
          v = u.setLane l { u.lane l with
            folder := f,
            queue := (s.queue l).map (fun (y : Record) => if y.tag = r.tag then r' else y) }) ∨
        (2 ≤ (s.lane l).folder.queue.length ∧
          v = (u.setQueue l ((s.queue l).map (fun (y : Record) =>
            if y.tag = r.tag then { r' with cause := some (r'.cause.getD .foldMissed) }
            else y))).occur (.jam l) 5)) →
      ((s.travel - r'.deadline).msb = false → exec (.edgeAccepted l 2) s =
        exec (.deadlinePass (BitVec.ofNat 16 r.tag)) v.evalGuard) ∧
      ((s.travel - r'.deadline).msb = true → exec (.edgeAccepted l 2) s = .next v.evalGuard)

/-- A trailing edge at E3 retires the record nearest the head at CLEAR: it leaves the queue, the
stacking unit takes the piece, SHEET_DONE carries the outcome, the lane's ARMED station works its
point again, and the scorch guard follows. While no plan change waits for this removal alone nothing
else changes; in phase STACK a record with a reject cause is meant, the only kind that can be in a
draining lane then. That an UNSTACKED retirement, which halts the lane, makes no release there is
the model's reading: the arbiter is told after the alarm occurrence (log entry 14). -/
def Obligations.ATrailingEdgeAtE3Retires : Prop :=
  ∀ (l : LaneNo) (x : Pos) (r : Record) (o : DoneOutcome) (z' : Stacker) (s u v w : State),
    s.resetPhase = .running → s.PoolSound →
    (s.lane l).state ≠ .closed → (s.eye l 3).raw = false → (s.eye l 3).pending = some x →
    (s.travel - (x + BitVec.ofNat 32 s.params.fe)).msb = false →
    (s.queue l).find? (fun y => decide (y.nextEye = .clear)) = some r →
    (s.phase = .noChange ∨
      (s.phase = .track ∧ ∃ m, (s.lane m).state = .draining ∧
        ∃ y ∈ s.queue m, y.tag ≠ r.tag) ∨
      (s.phase = .stack ∧ r.cause ≠ none ∧ ∃ m, (s.lane m).state = .draining ∧
        ((∃ y ∈ s.queue m, y.tag ≠ r.tag) ∨ (s.lane m).stacker.state.isDischarging = true))) →
    u = (s.setEye l 3 ⟨false, false, none⟩).setQueue l
      ((s.queue l).filter (fun y => decide (y.tag ≠ r.tag))) →
    s.Stacks (s.lane l).stacker r o z' →
    v = (u.setLane l { u.lane l with stacker := z' }) →
    w = ((if o = .unstacked then v.occur (.stacker l) 1 else v).offer
      (.sheetDone r.tag l r.origin r.batch r.cls o r.cause)) →
    (s.armedStation l = none ∨ o = .unstacked → exec (.edgeAccepted l 3) s = .next w.evalGuard) ∧
    (∀ (a : StationNo) (t : State), s.armedStation l = some a → o ≠ .unstacked →
      exec (.release l) (w.setLane l { w.lane l with releasePoint := w.workedPoint l a }) =
        .next t →
      exec (.edgeAccepted l 3) s = .next t.evalGuard) ∧
    ∃ t : State, exec (.edgeAccepted l 3) s = .next t ∧ w.queue l <+: t.queue l ∧
      (t.lane l).stacker = z' ∧ (t.lane l).folder = (s.lane l).folder ∧
      (∀ m, m ≠ l → t.lane m = w.lane m) ∧ t.alarms = w.alarms ∧ t.reports = w.reports ∧
      t.phase = s.phase ∧ t.planNow = s.planNow

/-- The retirement of the last record of the draining lanes. A record with a reject cause: with
every stacking unit of them EMPTY in TRACK, or none DISCHARGING in STACK, the plan change completes,
with PLAN_DONE after SHEET_DONE; with one BUILDING in TRACK it discharges with reason PLAN and the
change waits in STACK. A good piece in TRACK: the unit takes it, the phase becomes STACK, and every
stack that is BUILDING, with the piece just taken, discharges with reason PLAN. That SHEET_DONE
comes before PLAN_DONE is the model's reading of the order of the parts of a removal (log entry 14).
-/
def Obligations.TheLastRetirementEndsATrackPhase : Prop :=
  ∀ (l : LaneNo) (x : Pos) (r : Record) (pair : PlanPair) (s : State),
    s.resetPhase = .running → s.PoolSound → (s.lane l).state = .draining →
    (s.eye l 3).raw = false → (s.eye l 3).pending = some x →
    (s.travel - (x + BitVec.ofNat 32 s.params.fe)).msb = false →
    (s.queue l).find? (fun y => decide (y.nextEye = .clear)) = some r →
    s.planNext = some pair →
    (∀ m, (s.lane m).state = .draining → ∀ y ∈ s.queue m, y.tag = r.tag) →
    (∀ c : RejectCause, r.cause = some c →
      ((s.phase = .track ∧ ∀ m, (s.lane m).state = .draining →
          (s.lane m).stacker.state = .empty) ∨
        (s.phase = .stack ∧ ∀ m, (s.lane m).state = .draining →
          (s.lane m).stacker.state.isDischarging = false)) →
      ∃ t : State, exec (.edgeAccepted l 3) s = .next t ∧ t.phase = .noChange ∧
        t.planNext = none ∧ t.planNow = pair ∧ t.queue l = [] ∧
        (∀ m : LaneNo, (t.lane m).state = (if m.val < (match pair.plan with
            | .p1 => 1
            | .p2 => 2
            | .p4 => 4) then .halted else .closed) ∧
          (t.lane m).order = allFour.filter (fun st => pair.map.get st = m)) ∧
        (s.reports.queue.length < 31 → t.reports.queue = s.reports.queue ++
          [.sheetDone r.tag l r.origin r.batch r.cls .rejected (some c), .planDone pair]) ∧
        t.stations = s.stations ∧ t.alarms = s.alarms ∧ t.classes = s.classes ∧
        t.params = s.params) ∧
    (r.cause ≠ none → s.phase = .track →
      (∃ m p, (s.lane m).state = .draining ∧ (s.lane m).stacker.state = .building p) →
      ∃ t : State, exec (.edgeAccepted l 3) s = .next t ∧ t.phase = .stack ∧
        t.planNext = some pair ∧ t.planNow = s.planNow ∧
        (∀ m p, (s.lane m).state = .draining → (s.lane m).stacker.state = .building p →
          (t.lane m).stacker.state = .discharging ⟨p.batch, p.cls, p.count, .plan⟩ none) ∧
        (∀ m, (t.lane m).state = (s.lane m).state) ∧ t.stations = s.stations ∧
        t.alarms = s.alarms) ∧
    (r.cause = none → s.phase = .track → ∀ (o : DoneOutcome) (z' : Stacker),
      s.Stacks (s.lane l).stacker r o z' →
      ∃ t : State, exec (.edgeAccepted l 3) s = .next t ∧ t.phase = .stack ∧
        t.planNext = some pair ∧ t.planNow = s.planNow ∧ t.queue l = [] ∧
        (t.lane l).stacker = (match z'.state with
          | .building p => z'.dischargePile p .plan none s.estop s.params.ts
          | _ => z') ∧
        (∀ m p, m ≠ l → (s.lane m).state = .draining →
          (s.lane m).stacker.state = .building p →
          (t.lane m).stacker = (s.lane m).stacker.dischargePile p .plan none s.estop s.params.ts) ∧
        (s.reports.queue.length < 32 → t.reports.queue = s.reports.queue ++
          [.sheetDone r.tag l r.origin r.batch r.cls o none]) ∧
        (∀ m, (t.lane m).state = (s.lane m).state) ∧ t.stations = s.stations ∧
        t.alarms = (if o = .unstacked then (s.occur (.stacker l) 1).alarms else s.alarms))

/-! ### Deadlines -/

/-- A deadline of a record past E0: the record is lost with the cause of its next eye, or with
STUCK_E0 where the entry-clear deadline alone has passed, with the occurrence that belongs to it,
and a plan change that waits for this record moves on. That the lane's ARMED station, which the
occurrence takes out of ARMED with the lane, makes no release at the removal is the model's reading:
the arbiter is told after the occurrence (log entry 14), as R108 has it for STUCK_E0: "With the lane
halted by the JAM, though, it has no ARMED station to work for." -/
def Obligations.PassedDeadlinesLoseRecordsPastE0 : Prop :=
  ∀ (tag : BitVec 16) (s : State), s.resetPhase = .running →
    ∀ (l : LaneNo) (r : Record), s.PoolSound → r ∈ s.queue l → r.tag = tag.toNat →
      ∀ (cause : LostCause) (src : Source) (code : Nat),
        (((s.travel - r.deadline).msb = false ∧
            ((r.nextEye = .e1 ∧ cause = .missingE1 ∧ src = .wrap l ∧ code = 1) ∨
              (r.nextEye = .e2 ∧ cause = .missingE2 ∧ src = .jam l ∧ code = 1) ∨
              (r.nextEye = .e3 ∧ cause = .missingE3 ∧ src = .jam l ∧ code = 2) ∨
              (r.nextEye = .clear ∧ cause = .stuckE3 ∧ src = .jam l ∧ code = 4))) ∨
          ((s.travel - r.deadline).msb = true ∧ r.nextEye ≠ .e0 ∧
            (∃ d, r.clearDeadline = some d ∧ (s.travel - d).msb = false) ∧
            cause = .stuckE0 ∧ src = .jam l ∧ code = 3)) →
        ∀ v : State,
          v = (((s.setQueue l ((s.queue l).filter (fun y => decide (y.tag ≠ tag.toNat)))).offer
            (.sheetLost r.tag l r.origin r.batch r.cls cause r.cause)).occur src code).evalGuard →
          (s.phase = .noChange → exec (.deadlinePass tag) s = .next v) ∧
          exec (.deadlinePass tag) s = .next v.planMoved ∧
          ∃ t : State, exec (.deadlinePass tag) s = .next t ∧ (∀ m, t.queue m = v.queue m) ∧
            t.alarms = v.alarms ∧ t.scorch = v.scorch ∧ t.lineHold = v.lineHold ∧
            v.reports.queue <+: t.reports.queue ∧ t.stations = v.stations ∧ t.travel = s.travel

/-- The end of an entry window: MISFEED with E0 clear, with its occurrence and the piece restored to
a batch of the same id, or MERGED with E0 covered, with DOUBLE for the record on E0; the notice to
the station, which may bring it to WAITING or complete its batch, and then give the grant of a RUN
station back with the arbiter's decision; a working of the lane's ARMED station; the scorch guard; a
plan change that waits for this record moves on. That BATCH_END comes before SHEET_LOST, and the
working after both, is the model's reading of the order of the parts of a removal (log entry 14). -/
def Obligations.AnEntryWindowEndsAsMisfeedOrMerged : Prop :=
  ∀ (tag : BitVec 16) (l : LaneNo) (r : Record) (st : StationNo) (x : Station)
      (restores : Bool) (s u m v w : State),
    s.resetPhase = .running → s.PoolSound → r ∈ s.queue l → r.tag = tag.toNat →
    (s.travel - r.deadline).msb = false → r.nextEye = .e0 → r.origin = some st →
    x = s.station st →
    (restores = true ↔ (s.eye l 0).accepted = false ∧
      ∃ b, x.current = some b ∧ b.id = r.batch ∧ b.remaining < b.pieces) →
    u = s.setQueue l ((s.queue l).filter (fun y => decide (y.tag ≠ tag.toNat))) →
    ((((s.eye l 0).accepted = false ∨ ∀ y ∈ u.queue l, y.le0 = none ∨ y.te0 ≠ none) ∧ m = u) ∨
      ((s.eye l 0).accepted = true ∧
        ∃ y, (u.queue l).find? (fun y => y.le0.isSome && y.te0.isNone) = some y ∧
          m = u.setQueue l ((u.queue l).map (fun (z : Record) =>
            if z.tag = y.tag then { z with cause := some (z.cause.getD .double) } else z)))) →
    ((restores = true ∧ ∃ (b : Batch) (g : State), x.current = some b ∧
        g = m.setStation st { x with
          outstanding := x.outstanding - 1,
          current := some { b with remaining := b.remaining + 1 },
          state := if x.state = .finishing then .waiting else x.state } ∧
        (((x.state ≠ .finishing ∨ x.params.mode = .single ∨
              (s.lane (s.laneOf st)).grant ≠ some st ∨
              (s.travel - (x.holdOrigin + BitVec.ofNat 32 x.params.hold)).msb = true) ∧ v = g) ∨
          (x.state = .finishing ∧ x.params.mode = .run ∧
            (s.lane (s.laneOf st)).grant = some st ∧
            (s.travel - (x.holdOrigin + BitVec.ofNat 32 x.params.hold)).msb = false ∧
            g.GaveBack (s.laneOf st) v))) ∨
      (restores = false ∧ (x.state ≠ .finishing ∨ 1 < x.outstanding) ∧
        v = m.setStation st { x with outstanding := x.outstanding - 1 }) ∨
      (restores = false ∧ x.state = .finishing ∧ x.outstanding = 1 ∧
        ∃ (b : Batch) (g : State), x.current = some b ∧
        g = (m.setStation st { x with
          outstanding := 0, current := x.next, next := none,
          state := if x.next = none then .noBatch else .waiting }).offer
          (.batchEnd st b.id b.pieces (b.pieces - b.remaining) false) ∧
        (((s.lane (s.laneOf st)).grant ≠ some st ∧ v = g) ∨
          ((s.lane (s.laneOf st)).grant = some st ∧ g.GaveBack (s.laneOf st) v)))) →
    w = (if (s.eye l 0).accepted = true then
        v.offer (.sheetLost r.tag l r.origin r.batch r.cls .merged r.cause)
      else (v.offer (.sheetLost r.tag l r.origin r.batch r.cls .misfeed r.cause)).occur
        (.misfeed st) 1) →
    (w.armedStation l = none →
      exec (.deadlinePass tag) s = .next w.evalGuard.planMoved ∧
      (s.phase = .noChange → exec (.deadlinePass tag) s = .next w.evalGuard)) ∧
    ∀ (a : StationNo) (t : State), w.armedStation l = some a →
      exec (.release l) (w.setLane l { w.lane l with releasePoint := w.workedPoint l a }) =
        .next t →
      exec (.deadlinePass tag) s = .next t.evalGuard.planMoved ∧
      (s.phase = .noChange → exec (.deadlinePass tag) s = .next t.evalGuard)

/-! ### Stations and arbiters -/

/-- The run-hold test: a RUN station in WAITING with the grant and the travel at or past its hold
origin + H gives the grant back, and only such a one; the arbiter then decides among the LOADED
stations of the lane. -/
def Obligations.ARunHoldEndsByGivingTheGrantBack : Prop :=
  ∀ (st : StationNo) (l : LaneNo) (s : State), s.resetPhase = .running → s.laneOf st = l →
    ((s.station st).state ≠ .waiting ∨ (s.station st).params.mode ≠ .run ∨
        (s.lane l).grant ≠ some st ∨
        (s.travel - ((s.station st).holdOrigin +
          BitVec.ofNat 32 (s.station st).params.hold)).msb = true →
      exec (.runHoldExpiry st) s = .next s) ∧
    ((s.station st).state = .waiting → (s.station st).params.mode = .run →
      (s.lane l).grant = some st →
      (s.travel - ((s.station st).holdOrigin +
        BitVec.ofNat 32 (s.station st).params.hold)).msb = false →
      ((∀ su, s.laneOf su = l → (s.station su).state ≠ .loaded) ∨ (s.lane l).state ≠ .opened →
        exec (.runHoldExpiry st) s =
          .next (s.setLane l { s.lane l with grant := none, releasePoint := none })) ∧
      (∀ su, (s.lane l).state = .opened → s.Chosen l su →
        exec (.runHoldExpiry st) s =
          exec (.release l) (s.granted l su (s.workedPoint l su))) ∧
      ∃ t : State, exec (.runHoldExpiry st) s = .next t ∧ (t.lane l).grant ≠ some st ∧
        t.station st = s.station st ∧ s.queue l <+: t.queue l ∧
        (∀ m, m ≠ l → t.lane m = s.lane m) ∧ t.alarms = s.alarms ∧ t.reports = s.reports ∧
        ∀ su, (s.station su).state ≠ .loaded → t.station su = s.station su)

/-- The release of an ARMED station whose point is absent or reached, with a free slot: the record
at the tail, with the first tag from the counter on that no record holds and the values of its class
(class 0 is FOREIGN, every other class its entry of the table), the station's counts, OPEN_s and
clamp timer, the grant back in SINGLE mode and the order list in ROTATING mode; the station chosen
after it takes the grant with its point worked out, and its own release test is made in the same
command (log entry 26); with the point ahead, the pool full or no ARMED station nothing happens (log
entry 7). -/
def Obligations.AReleaseMakesARecord : Prop :=
  (∀ (s : State) (c : ClassNo), c ≠ 0 → s.classEntry c = s.classes[c]) ∧
  (∀ s : State, (s.classEntry 0).lnom = 6000 ∧ (s.classEntry 0).tol = 0 ∧
    (s.classEntry 0).trailGap = 0 ∧ (s.classEntry 0).fold = 0) ∧
  ∀ (l : LaneNo) (s : State), s.resetPhase = .running →
    ((s.lane l).state ≠ .opened ∨ (s.lane l).grant = none ∨
        (∃ st, (s.lane l).grant = some st ∧ (s.station st).state ≠ .armed) ∨
        96 ≤ s.records.length ∨
        (∃ p, (s.lane l).releasePoint = some p ∧ (s.travel - p).msb = true) →
      exec (.release l) s = .next s) ∧
    ∀ (st : StationNo) (b : Batch) (x : Station) (pred : Pos), (s.lane l).state = .opened →
      (s.lane l).grant = some st → x = s.station st → x.state = .armed → x.current = some b →
      s.records.length < 96 → s.PoolSound →
      ((s.lane l).releasePoint = none ∨
        ∃ p, (s.lane l).releasePoint = some p ∧ (s.travel - p).msb = false) →
      pred = s.travel + BitVec.ofNat 32
        (x.params.drop + (s.speed * x.params.openMs + 500) / 1000) →
      ∃ (n : Nat) (r : Record) (v : State),
        (1 ≤ n ∧ n ≤ 65535 ∧ ∀ y ∈ s.records, y.tag ≠ n) ∧
        ((∀ y ∈ s.records, y.tag ≠ s.tagCounter) → n = s.tagCounter) ∧ s.NextTag n ∧
        r = { tag := n, lane := l, origin := some st, batch := b.id, cls := b.cls,
              lnom := (s.classEntry b.cls).lnom, tol := (s.classEntry b.cls).tol,
              trailGap := (s.classEntry b.cls).trailGap,
              fold := b.foldOverride.getD (s.classEntry b.cls).fold,
              releasePos := some s.travel, predLe0 := some pred, le0 := none, te0 := none,
              length := none, nextEye := .e0, le3 := none, cause := none, folded := false,
              deadline := pred + BitVec.ofNat 32 ((s.lane l).geometry.w0 + s.params.fe),
              clearDeadline := none } ∧
        v = { (s.setStation st { x with
            state := .opening, current := some { b with remaining := b.remaining - 1 },
            outstanding := x.outstanding + 1, timer := some x.params.openMs,
            holdOrigin := s.travel, openOut := true }).setLane l { s.lane l with
            queue := s.queue l ++ [r], releasePoint := none,
            grant := if x.params.mode = .single then none else some st,
            order := if s.params.mode = .rotating ∧ st ∈ (s.lane l).order then
              (s.lane l).order.erase st ++ [st] else (s.lane l).order } with
            tagCounter := if n = 65535 then 1 else n + 1 } ∧
        (x.params.mode = .run ∨
            (∀ su, su ≠ st → s.laneOf su = l → (s.station su).state ≠ .loaded) →
          exec (.release l) s = .next v) ∧
        (∀ su, x.params.mode = .single → v.Chosen l su →
          exec (.release l) s = exec (.release l) (v.granted l su (v.workedPoint l su))) ∧
        ∃ t : State, exec (.release l) s = .next t ∧ v.queue l <+: t.queue l ∧
          t.station st = v.station st ∧ (∀ m, m ≠ l → t.lane m = s.lane m) ∧
          t.alarms = s.alarms ∧ t.reports = s.reports

/-- A pedal edge: ignored outside WAITING and under ESTOP; else the station is LOADED and waits, or
it is ARMED, as the holder of its grant or by the arbiter's decision, with the release point of TEy,
gap, drop and lead, or with none behind an empty queue, and releases at once where the point is
reached. The worked release point itself is pinned first. -/
def Obligations.APedalEdgeLoadsOrArmsAStation : Prop :=
  ∀ (st : StationNo) (l : LaneNo) (x : Station) (s : State), x = s.station st →
    (s.queue l = [] → s.workedPoint l st = none) ∧
    (∀ (b : Batch) (y : Record) (te : Pos) (gap lead : Nat), x.current = some b →
      (s.queue l).getLast? = some y →
      te = (match y.te0, y.le0, y.predLe0 with
        | some te, _, _ => te
        | none, some le, _ => le + BitVec.ofNat 32 (y.lnom + y.tol)
        | none, none, some pred => pred + BitVec.ofNat 32 (y.lnom + y.tol)
        | none, none, none => BitVec.ofNat 32 (y.lnom + y.tol)) →
      gap = max y.trailGap (s.classEntry b.cls).leadGap +
        (if b.id = y.batch then 0 else s.params.gb) →
      lead = (s.speed * x.params.openMs + 500) / 1000 →
      s.workedPoint l st =
        some (te + BitVec.ofNat 32 gap - BitVec.ofNat 32 (x.params.drop + lead))) ∧
    (s.resetPhase = .running → s.laneOf st = l →
      (x.state ≠ .waiting ∨ s.estop = true → exec (.pedalEdge st) s = .next s) ∧
      (x.state = .waiting → s.estop = false →
        ((s.lane l).grant ≠ some st → (s.lane l).state ≠ .opened ∨ (s.lane l).grant ≠ none →
          exec (.pedalEdge st) s = .next (s.setStation st { x with state := .loaded })) ∧
        (∀ (u : State) (su : StationNo), u = s.setStation st { x with state := .loaded } →
          (s.lane l).state = .opened → (s.lane l).grant = none → u.Chosen l su →
          exec (.pedalEdge st) s = exec (.release l) (u.granted l su (u.workedPoint l su))) ∧
        ((s.lane l).state = .opened →
          (((s.lane l).grant = none ∧ (s.params.mode = .fixed ∨ st ∈ (s.lane l).order) ∧
              ∀ su, s.laneOf su = l → (s.station su).state ≠ .loaded) ∨
            (s.lane l).grant = some st) →
          ∀ b p, x.current = some b → p = s.workedPoint l st →
            ((96 ≤ s.records.length ∨ (∃ q, p = some q ∧ (s.travel - q).msb = true) →
              exec (.pedalEdge st) s = .next (s.granted l st p)) ∧
            (s.records.length < 96 → (∀ q, p = some q → (s.travel - q).msb = false) →
              exec (.pedalEdge st) s = exec (.release l) (s.granted l st p))))))

/-- The ends of To, Td and Tr, each in its own state; the batch completes at the end of the last,
and a grant held then goes back with the arbiter's decision. -/
def Obligations.TheClampCycleRunsOn : Prop :=
  ∀ (st : StationNo) (x : Station) (s : State), s.resetPhase = .running → x = s.station st →
    (x.state = .opening → exec (.openTimeExpiry st) s = .next (s.setStation st
      { x with state := .dwell, openOut := false, timer := some x.params.dwellMs })) ∧
    (x.state = .dwell → exec (.dwellExpiry st) s = .next (s.setStation st
      { x with state := .returning, returnOut := true, timer := some x.params.returnMs })) ∧
    (∀ b, x.state = .returning → x.current = some b →
      (0 < b.remaining →
        (x.params.mode = .single ∨ (s.lane (s.laneOf st)).grant ≠ some st ∨
            (s.travel - (x.holdOrigin + BitVec.ofNat 32 x.params.hold)).msb = true →
          exec (.returnTimeExpiry st) s = .next (s.setStation st
            { x with state := .waiting, openOut := false, returnOut := false, timer := none })) ∧
        (x.params.mode = .run → (s.lane (s.laneOf st)).grant = some st →
          (s.travel - (x.holdOrigin + BitVec.ofNat 32 x.params.hold)).msb = false →
          exec (.returnTimeExpiry st) s = exec (.runHoldExpiry st) (s.setStation st
            { x with state := .waiting, openOut := false, returnOut := false, timer := none }))) ∧
      (b.remaining = 0 → 0 < x.outstanding → exec (.returnTimeExpiry st) s =
        .next (s.setStation st
          { x with state := .finishing, openOut := false, returnOut := false, timer := none })) ∧
      (b.remaining = 0 → x.outstanding = 0 →
        ∃ (v t : State), v = (s.setStation st { x with
            current := x.next, next := none, openOut := false, returnOut := false, timer := none,
            state := if x.next = none then .noBatch else .waiting }).offer
              (.batchEnd st b.id b.pieces b.pieces false) ∧
          exec (.returnTimeExpiry st) s = .next t ∧ t.station st = v.station st ∧
          t.reports = v.reports ∧ t.alarms = s.alarms ∧ (∀ m, s.queue m <+: t.queue m) ∧
          (t.lane (s.laneOf st)).grant ≠ some st ∧
          ((s.lane (s.laneOf st)).grant ≠ some st → t = v) ∧
          ((s.lane (s.laneOf st)).grant = some st → ∀ g : State, v.GaveBack (s.laneOf st) g →
            exec (.returnTimeExpiry st) s = .next g)))

/-! ### Delivery -/

/-- The ends of the strobe and of the gap of a fold interface, each in its own phase. -/
def Obligations.FoldStrobesAndGapsEnd : Prop :=
  ∀ (l : LaneNo) (f : Folder) (s : State), s.resetPhase = .running → f = (s.lane l).folder →
    (f.phase = .strobe → exec (.foldStrobeEnd l) s = .next (s.setLane l { s.lane l with
      folder := { queue := f.queue.tail, phase := .gap, timer := some 10, strobe := false,
                  code := 0 } })) ∧
    (f.phase = .gap →
      (f.queue = [] → exec (.foldGapEnd l) s = .next (s.setLane l { s.lane l with
        folder := { queue := [], phase := .idle, timer := none, strobe := false, code := 0 } })) ∧
      ∀ c rest, f.queue = c :: rest → exec (.foldGapEnd l) s = .next (s.setLane l
        { s.lane l with
          folder := { queue := c :: rest, phase := .strobe, timer := some 40, strobe := true,
                      code := c.code } }))

/-- The end of a discharge at CLEAR_l, with STACK_DONE and the pocket piece made a stack, in phase
STACK with the end of the change where nothing is left to wait for, and the expiry of the stacker
timer, with a STACKER occurrence of cause TIMEOUT. -/
def Obligations.DischargesEndOrTimeOut : Prop :=
  ∀ (l : LaneNo) (z : Stacker) (s : State), s.resetPhase = .running → z = (s.lane l).stacker →
    ((∀ out pocket, z.state ≠ .discharging out pocket) → exec (.clearEdge l) s = .next s) ∧
    (∀ out pocket, z.state = .discharging out pocket → s.phase ≠ .stack →
      ∀ z' : Stacker,
        (match pocket with
          | none => z' = { z with state := .empty, timer := .idle, discharge := false }
          | some q => z' =
              if 1 < q.target then
                { z with state := .building ⟨q.batch, q.cls, 1, q.target⟩, timer := .idle,
                         discharge := false }
              else
                { z with
                  state := .discharging ⟨q.batch, q.cls, 1, .full⟩ none,
                  timer := if s.estop then .suspended (s.params.ts * 1000)
                    else .running (s.params.ts * 1000),
                  discharge := !s.estop }) →
        exec (.clearEdge l) s = .next ((s.setLane l { s.lane l with stacker := z' }).offer
          (.stackDone l out.batch out.cls out.count out.reason))) ∧
    (∀ out q, z.state = .discharging out (some q) → s.phase = .stack →
      (s.lane l).state = .draining →
      exec (.clearEdge l) s = .next ((s.setLane l { s.lane l with
        stacker := { z with
          state := .discharging ⟨q.batch, q.cls, 1, if 1 < q.target then .plan else .full⟩ none,
          timer := if s.estop then .suspended (s.params.ts * 1000)
            else .running (s.params.ts * 1000),
          discharge := !s.estop } }).offer
        (.stackDone l out.batch out.cls out.count out.reason))) ∧
    (∀ out, z.state = .discharging out none → s.phase = .stack →
      s.queueLeft ∨ (∃ m, m ≠ l ∧ (s.lane m).state = .draining ∧
        (s.lane m).stacker.state.isDischarging = true) →
      exec (.clearEdge l) s = .next ((s.setLane l { s.lane l with
        stacker := { z with state := .empty, timer := .idle, discharge := false } }).offer
        (.stackDone l out.batch out.cls out.count out.reason))) ∧
    (∀ out pair, z.state = .discharging out none → s.phase = .stack → s.planNext = some pair →
      (∀ m, (s.lane m).state = .draining → s.queue m = [] ∧
        (m ≠ l → (s.lane m).stacker.state.isDischarging = false)) →
      ∃ t : State, exec (.clearEdge l) s = .next t ∧ t.phase = .noChange ∧ t.planNow = pair ∧
        t.planNext = none ∧ (t.lane l).stacker.state = .empty ∧
        (s.reports.queue.length < 31 → t.reports.queue = s.reports.queue ++
          [.stackDone l out.batch out.cls out.count out.reason, .planDone pair])) ∧
    (∀ ms, z.timer = .running ms → exec (.stackerTimeout l) s = .next
      ((s.setLane l { s.lane l with stacker := { z with timer := .expired } }).occur
        (.stacker l) 2))

/-! ### Line protection -/

/-- The scorch guard: what an evaluation does to the timer, and the expiry of the running timer with
an occurrence of SCORCH. -/
def Obligations.TheScorchGuardEvaluatesAndExpires : Prop :=
  ∀ s : State,
    (((∃ r ∈ s.records, r.le0 ≠ none ∧ (r.nextEye = .e1 ∨ r.nextEye = .e2)) ∧
        s.speed < s.params.vs →
      s.evalGuard = { s with
        scorch := if s.scorch = .idle then .running (s.params.tsc * 1000) else s.scorch }) ∧
    ((∀ r ∈ s.records, r.le0 = none ∨ (r.nextEye ≠ .e1 ∧ r.nextEye ≠ .e2)) ∨
        s.params.vs ≤ s.speed → s.evalGuard = { s with scorch := .idle })) ∧
    (s.resetPhase = .running → ∀ ms, s.scorch = .running ms →
      exec .scorchTimerExpiry s = .next ({ s with scorch := .expired }.occur .scorch 1))

/-- The emergency stop: an activation with all its effects, BATCH_END of each batch it completes
among them (in a free order, log entry 8), the hold that a change of the input to inactive starts,
and the deactivation. -/
def Obligations.TheEmergencyStopIsTakenAndReleased : Prop :=
  ∀ s : State, s.resetPhase = .running →
    (s.estop = true → exec .estopActivation s = .next
      { s with inputs := { s.inputs with estop := true }, estopHold := none }) ∧
    (s.estop = false → s.GrantsSound → s.PoolSound →
      ∃ t : State, exec .estopActivation s = .next t ∧ t.estop = true ∧ t.estopHold = none ∧
        t.inputs = { s.inputs with estop := true } ∧ t.alarms = (s.occur .estop 1).alarms ∧
        (∀ l, (t.lane l).state =
            (if (s.lane l).state = .opened then .halted else (s.lane l).state) ∧
          ((s.lane l).state = .opened →
            (t.lane l).grant = none ∧ (t.lane l).releasePoint = none) ∧
          (t.lane l).eyes = (s.lane l).eyes ∧ (t.lane l).geometry = (s.lane l).geometry ∧
          (t.lane l).order = (s.lane l).order ∧
          (t.lane l).folder = { queue := [], phase := .idle, timer := none, strobe := false,
                                code := 0 } ∧
          t.queue l = (s.queue l).map (fun (y : Record) =>
            if y.tag ∈ (s.lane l).folder.queue.map FoldCommand.tag then
              { y with cause := some (y.cause.getD .foldMissed) } else y) ∧
          ((s.lane l).stacker.state.isDischarging = false →
            (t.lane l).stacker = (s.lane l).stacker) ∧
          ((s.lane l).stacker.state.isDischarging = true →
            (t.lane l).stacker = { (s.lane l).stacker with
              discharge := false,
              timer := match (s.lane l).stacker.timer with
                | .running ms => .suspended ms
                | x => x })) ∧
        (∀ st, (∀ b, (s.station st).state.inCycle = true → (s.station st).current = some b →
            (0 < b.remaining → t.station st = { s.station st with
              state := .waiting, openOut := false, returnOut := false, timer := none }) ∧
            (b.remaining = 0 → 0 < (s.station st).outstanding → t.station st =
              { s.station st with
                state := .finishing, openOut := false, returnOut := false, timer := none }) ∧
            (b.remaining = 0 → (s.station st).outstanding = 0 → t.station st =
              { s.station st with
                current := (s.station st).next, next := none,
                state := if (s.station st).next = none then .noBatch else .waiting,
                openOut := false, returnOut := false, timer := none })) ∧
          ((s.station st).state.inCycle = false → t.station st = { s.station st with
            state := if (s.station st).state = .armed then .loaded else (s.station st).state,
            openOut := false, returnOut := false, timer := none })) ∧
        ((∀ st b, (s.station st).state.inCycle = true → (s.station st).current = some b →
          0 < b.remaining ∨ 0 < (s.station st).outstanding) → t.reports = s.reports) ∧
        (∃ ended : List (StationNo × Batch), (ended.map Prod.fst).Nodup ∧
          (∀ st b, (st, b) ∈ ended ↔ (s.station st).state.inCycle = true ∧
            (s.station st).current = some b ∧ b.remaining = 0 ∧ (s.station st).outstanding = 0) ∧
          t.reports = (ended.foldl
            (fun (u : State) e => u.offer (.batchEnd e.1 e.2.id e.2.pieces e.2.pieces false))
            s).reports) ∧
        t.scorch = s.scorch ∧ t.phase = s.phase ∧ t.travel = s.travel ∧ t.speed = s.speed ∧
        t.link = s.link) ∧
    (s.estop = false → exec .estopInactiveEdge s = .next
      { s with inputs := { s.inputs with estop := false } }) ∧
    (s.estop = true → s.inputs.estop = true → exec .estopInactiveEdge s = .next
      { s with inputs := { s.inputs with estop := false }, estopHold := some 100 }) ∧
    (s.estopHold ≠ none → ∃ t : State, exec .estopDeactivation s = .next t ∧
      t = { s with estop := false, estopHold := none, lanes := t.lanes } ∧
      ∀ l, ((s.lane l).stacker.state.isDischarging = false → t.lane l = s.lane l) ∧
        ((s.lane l).stacker.state.isDischarging = true → t.lane l = { s.lane l with
          stacker := { (s.lane l).stacker with
            discharge := true,
            timer := match (s.lane l).stacker.timer with
              | .suspended ms => .running ms
              | x => x } }))

/-! ### Rows whose condition does not hold -/

/-- The row of an interval, a pending change or a deadline that has nothing to end, and a level that
an eye or the ESTOP input already has, change nothing: an ESTOP hold that runs goes on (the model's
choice, log entries 4 and 5). -/
def Obligations.RowsWithoutTheirConditionChangeNothing : Prop :=
  ∀ s : State, s.resetPhase = .running →
    (∀ st, (s.station st).state ≠ .opening → exec (.openTimeExpiry st) s = .next s) ∧
    (∀ st, (s.station st).state ≠ .dwell → exec (.dwellExpiry st) s = .next s) ∧
    (∀ st, (s.station st).state ≠ .returning → exec (.returnTimeExpiry st) s = .next s) ∧
    (∀ l, (s.lane l).folder.phase ≠ .strobe → exec (.foldStrobeEnd l) s = .next s) ∧
    (∀ l, (s.lane l).folder.phase ≠ .gap → exec (.foldGapEnd l) s = .next s) ∧
    (∀ l, (s.lane l).stacker.timer.isRunning = false → exec (.stackerTimeout l) s = .next s) ∧
    ((∀ ms, s.scorch ≠ .running ms) → exec .scorchTimerExpiry s = .next s) ∧
    (s.estopHold = none → exec .estopDeactivation s = .next s) ∧
    (∀ l k, exec (.eyeRawChange l k (s.eye l k).raw) s = .next s) ∧
    (s.inputs.estop = false → exec .estopInactiveEdge s = .next s) ∧
    (s.inputs.estop = true → s.estop = true → s.estopHold = none →
      exec .estopActivation s = .next s) ∧
    (∀ l k, (∀ x, (s.eye l k).pending = some x →
        (s.travel - (x + BitVec.ofNat 32 s.params.fe)).msb = true) →
      exec (.edgeAccepted l k) s = .next s) ∧
    (∀ tag : BitVec 16, (∀ r ∈ s.records, r.tag = tag.toNat → (s.travel - r.deadline).msb = true ∧
        ∀ d, r.clearDeadline = some d → (s.travel - d).msb = true) →
      exec (.deadlinePass tag) s = .next s) ∧
    (s.link.reply = none → exec .replyStart s = .next s ∧ exec .replyEnd s = .next s) ∧
    exec .resetPinRelease s = .next s ∧ exec .resetEnd s = .next s

/-! ### What every step keeps -/

/-- LINE_HOLD, ROLL_LIFT and ATTN agree with the latches, the current source and the report queue;
latches and the current source are sound; at most 32 reports wait. -/
def Obligations.EveryStepKeepsLinesAlarmsAndReports : Prop :=
  ∀ s t : State, s.LinesAgree → s.AlarmsSound → s.ReportsSound → step s = .next t →
    t.LinesAgree ∧ t.AlarmsSound ∧ t.ReportsSound

/-- Lanes agree with the plan in force and the phase, grants are held only in OPEN lanes by their
own stations, clamp outputs, timers and slots agree with the station states, and under ESTOP no lane
is OPEN and no clamp moves. The classes of all slots fit the plan in force and the plan to come,
each order list holds the stations mapped to its lane once, a CLOSED lane holds no record and its
stacking unit is EMPTY, and the hold of ESTOP runs only with ESTOP active and its input inactive. -/
def Obligations.EveryStepKeepsPlansGrantsAndStations : Prop :=
  ∀ s t : State, step s = .next t →
    (s.PlanSound → s.GrantsSound → s.StationsSound → s.StopSound → s.ResetSound →
      t.PlanSound ∧ t.GrantsSound ∧ t.StationsSound ∧ t.StopSound) ∧
    (s.FitSound → t.FitSound) ∧ (s.OrdersSound → t.OrdersSound) ∧
    (s.PlanSound → s.ClosedSound → t.ClosedSound) ∧
    (s.ResetSound → s.EstopSound → t.EstopSound)

/-- Fold interfaces are as their phases have them, stacking units as their states and ESTOP have
them, and in a reset every block holds its reset values. Class entries stay in their ranges, and
with them the counts and targets of every stack and of every pocket piece. -/
def Obligations.EveryStepKeepsFoldersStackersAndReset : Prop :=
  ∀ s t : State, step s = .next t →
    (s.FoldersSound → s.StackersSound → s.ResetSound →
      t.FoldersSound ∧ t.StackersSound ∧ t.ResetSound) ∧
    (s.ClassesSound → s.PilesSound → t.ClassesSound ∧ t.PilesSound)

/-- Values stay in their ranges, the pool keeps at most 96 records with tags of their own, each
station's outstanding count is the number of its records that wait for E0, and the scorch timer is
idle exactly while the guard condition does not hold. Each lane keeps at most one record on E0,
under a covered eye, and the eyes keep a pending change exactly while raw and accepted state differ.
-/
def Obligations.EveryStepKeepsThePoolAndItsCounts : Prop :=
  ∀ s t : State, step s = .next t →
    (s.RangesSound → s.PoolSound → s.OutstandingSound → s.GuardSound →
      t.RangesSound ∧ t.PoolSound ∧ t.OutstandingSound ∧ t.GuardSound) ∧
    (s.PoolSound → s.PlanSound → s.ClosedSound → s.ResetSound → s.EntrySound → t.EntrySound)

/-- The travel passes no pending deadline of a record in the pool. -/
def Obligations.EveryStepKeepsDeadlinesAhead : Prop :=
  ∀ s t : State, s.RangesSound → s.PoolSound → s.DeadlinesAhead → step s = .next t →
    t.DeadlinesAhead

/-- All of these hold right after reset. -/
def Obligations.ResetMeetsEveryInvariant : Prop :=
  State.reset.LinesAgree ∧ State.reset.AlarmsSound ∧ State.reset.ReportsSound ∧
    State.reset.PlanSound ∧ State.reset.GrantsSound ∧ State.reset.StationsSound ∧
    State.reset.StopSound ∧ State.reset.FitSound ∧ State.reset.OrdersSound ∧
    State.reset.ClosedSound ∧ State.reset.EstopSound ∧ State.reset.FoldersSound ∧
    State.reset.StackersSound ∧ State.reset.ResetSound ∧ State.reset.ClassesSound ∧
    State.reset.PilesSound ∧ State.reset.RangesSound ∧ State.reset.PoolSound ∧
    State.reset.OutstandingSound ∧ State.reset.GuardSound ∧ State.reset.EntrySound ∧
    State.reset.DeadlinesAhead

end
end

