-- ==== Sys2Proof/Laws/State.lean ====
section
/-!
SUPPORT. What each update of State leaves as it was, one lemma for each field it does not write, and
what reading back gives for the one it does.
-/

namespace Sys2Proof

/-! ### Four like things -/

variable {α β : Type}

@[simp] theorem Quad.get_set_self (q : Quad α) (i : Fin 4) (x : α) : (q.set i x).get i = x := by
  fin_cases i <;> rfl

theorem Quad.get_set_ne (q : Quad α) {i j : Fin 4} (h : j ≠ i) (x : α) :
    (q.set i x).get j = q.get j := by
  fin_cases i <;> fin_cases j <;> first | rfl | exact absurd rfl h

theorem Quad.get_set (q : Quad α) (i j : Fin 4) (x : α) :
    (q.set i x).get j = if j = i then x else q.get j := by
  fin_cases i <;> fin_cases j <;> rfl

@[simp] theorem Quad.get_fill (x : α) (i : Fin 4) : (Quad.fill x).get i = x := by
  fin_cases i <;> rfl

@[simp] theorem Quad.get_map (q : Quad α) (f : α → β) (i : Fin 4) : (q.map f).get i = f (q.get i) := by
  fin_cases i <;> rfl

@[simp] theorem Quad.set_get_self (q : Quad α) (i : Fin 4) : q.set i (q.get i) = q := by
  fin_cases i <;> rfl

@[simp] theorem Quad.set_set (q : Quad α) (i : Fin 4) (x y : α) : (q.set i x).set i y = q.set i y := by
  fin_cases i <;> rfl

theorem Quad.ext_get {q r : Quad α} (h : ∀ i, q.get i = r.get i) : q = r := by
  have h0 := h 0
  have h1 := h 1
  have h2 := h 2
  have h3 := h 3
  cases q
  cases r
  simp_all [Quad.get]

/-- A thing set to a value whose image is the image of the old one leaves the images as they were. -/
theorem Quad.map_set_same (q : Quad α) (f : α → β) (i : Fin 4) (x : α) (h : f x = f (q.get i)) :
    (q.set i x).map f = q.map f := by
  fin_cases i <;> simp_all [Quad.map, Quad.set, Quad.get]

@[simp] theorem mem_allFour (i : Fin 4) : i ∈ allFour := by
  fin_cases i <;> decide

namespace Machine

variable (s : State)

/-! ### setLane -/

@[simp] theorem State.setLane_travel (l : LaneNo) (x : Lane) : (s.setLane l x).travel = s.travel := rfl
@[simp] theorem State.setLane_residual (l : LaneNo) (x : Lane) : (s.setLane l x).residual = s.residual := rfl
@[simp] theorem State.setLane_gateCount (l : LaneNo) (x : Lane) : (s.setLane l x).gateCount = s.gateCount := rfl
@[simp] theorem State.setLane_speed (l : LaneNo) (x : Lane) : (s.setLane l x).speed = s.speed := rfl
@[simp] theorem State.setLane_emptyGate (l : LaneNo) (x : Lane) : (s.setLane l x).emptyGate = s.emptyGate := rfl
@[simp] theorem State.setLane_gateLeft (l : LaneNo) (x : Lane) : (s.setLane l x).gateLeft = s.gateLeft := rfl
@[simp] theorem State.setLane_params (l : LaneNo) (x : Lane) : (s.setLane l x).params = s.params := rfl
@[simp] theorem State.setLane_classes (l : LaneNo) (x : Lane) : (s.setLane l x).classes = s.classes := rfl
@[simp] theorem State.setLane_planNow (l : LaneNo) (x : Lane) : (s.setLane l x).planNow = s.planNow := rfl
@[simp] theorem State.setLane_planNext (l : LaneNo) (x : Lane) : (s.setLane l x).planNext = s.planNext := rfl
@[simp] theorem State.setLane_phase (l : LaneNo) (x : Lane) : (s.setLane l x).phase = s.phase := rfl
@[simp] theorem State.setLane_stations (l : LaneNo) (x : Lane) : (s.setLane l x).stations = s.stations := rfl
@[simp] theorem State.setLane_tagCounter (l : LaneNo) (x : Lane) : (s.setLane l x).tagCounter = s.tagCounter := rfl
@[simp] theorem State.setLane_scorch (l : LaneNo) (x : Lane) : (s.setLane l x).scorch = s.scorch := rfl
@[simp] theorem State.setLane_rollLift (l : LaneNo) (x : Lane) : (s.setLane l x).rollLift = s.rollLift := rfl
@[simp] theorem State.setLane_lineHold (l : LaneNo) (x : Lane) : (s.setLane l x).lineHold = s.lineHold := rfl
@[simp] theorem State.setLane_attn (l : LaneNo) (x : Lane) : (s.setLane l x).attn = s.attn := rfl
@[simp] theorem State.setLane_estop (l : LaneNo) (x : Lane) : (s.setLane l x).estop = s.estop := rfl
@[simp] theorem State.setLane_estopHold (l : LaneNo) (x : Lane) : (s.setLane l x).estopHold = s.estopHold := rfl
@[simp] theorem State.setLane_inputs (l : LaneNo) (x : Lane) : (s.setLane l x).inputs = s.inputs := rfl
@[simp] theorem State.setLane_alarms (l : LaneNo) (x : Lane) : (s.setLane l x).alarms = s.alarms := rfl
@[simp] theorem State.setLane_reports (l : LaneNo) (x : Lane) : (s.setLane l x).reports = s.reports := rfl
@[simp] theorem State.setLane_link (l : LaneNo) (x : Lane) : (s.setLane l x).link = s.link := rfl
@[simp] theorem State.setLane_resetPhase (l : LaneNo) (x : Lane) : (s.setLane l x).resetPhase = s.resetPhase := rfl
@[simp] theorem State.setLane_freeDraws (l : LaneNo) (x : Lane) : (s.setLane l x).freeDraws = s.freeDraws := rfl
@[simp] theorem State.setLane_pending (l : LaneNo) (x : Lane) : (s.setLane l x).pending = s.pending := rfl

/-! ### setStation -/

@[simp] theorem State.setStation_travel (st : StationNo) (x : Station) : (s.setStation st x).travel = s.travel := rfl
@[simp] theorem State.setStation_residual (st : StationNo) (x : Station) : (s.setStation st x).residual = s.residual := rfl
@[simp] theorem State.setStation_gateCount (st : StationNo) (x : Station) : (s.setStation st x).gateCount = s.gateCount := rfl
@[simp] theorem State.setStation_speed (st : StationNo) (x : Station) : (s.setStation st x).speed = s.speed := rfl
@[simp] theorem State.setStation_emptyGate (st : StationNo) (x : Station) : (s.setStation st x).emptyGate = s.emptyGate := rfl
@[simp] theorem State.setStation_gateLeft (st : StationNo) (x : Station) : (s.setStation st x).gateLeft = s.gateLeft := rfl
@[simp] theorem State.setStation_params (st : StationNo) (x : Station) : (s.setStation st x).params = s.params := rfl
@[simp] theorem State.setStation_classes (st : StationNo) (x : Station) : (s.setStation st x).classes = s.classes := rfl
@[simp] theorem State.setStation_planNow (st : StationNo) (x : Station) : (s.setStation st x).planNow = s.planNow := rfl
@[simp] theorem State.setStation_planNext (st : StationNo) (x : Station) : (s.setStation st x).planNext = s.planNext := rfl
@[simp] theorem State.setStation_phase (st : StationNo) (x : Station) : (s.setStation st x).phase = s.phase := rfl
@[simp] theorem State.setStation_lanes (st : StationNo) (x : Station) : (s.setStation st x).lanes = s.lanes := rfl
@[simp] theorem State.setStation_tagCounter (st : StationNo) (x : Station) : (s.setStation st x).tagCounter = s.tagCounter := rfl
@[simp] theorem State.setStation_scorch (st : StationNo) (x : Station) : (s.setStation st x).scorch = s.scorch := rfl
@[simp] theorem State.setStation_rollLift (st : StationNo) (x : Station) : (s.setStation st x).rollLift = s.rollLift := rfl
@[simp] theorem State.setStation_lineHold (st : StationNo) (x : Station) : (s.setStation st x).lineHold = s.lineHold := rfl
@[simp] theorem State.setStation_attn (st : StationNo) (x : Station) : (s.setStation st x).attn = s.attn := rfl
@[simp] theorem State.setStation_estop (st : StationNo) (x : Station) : (s.setStation st x).estop = s.estop := rfl
@[simp] theorem State.setStation_estopHold (st : StationNo) (x : Station) : (s.setStation st x).estopHold = s.estopHold := rfl
@[simp] theorem State.setStation_inputs (st : StationNo) (x : Station) : (s.setStation st x).inputs = s.inputs := rfl
@[simp] theorem State.setStation_alarms (st : StationNo) (x : Station) : (s.setStation st x).alarms = s.alarms := rfl
@[simp] theorem State.setStation_reports (st : StationNo) (x : Station) : (s.setStation st x).reports = s.reports := rfl
@[simp] theorem State.setStation_link (st : StationNo) (x : Station) : (s.setStation st x).link = s.link := rfl
@[simp] theorem State.setStation_resetPhase (st : StationNo) (x : Station) : (s.setStation st x).resetPhase = s.resetPhase := rfl
@[simp] theorem State.setStation_freeDraws (st : StationNo) (x : Station) : (s.setStation st x).freeDraws = s.freeDraws := rfl
@[simp] theorem State.setStation_pending (st : StationNo) (x : Station) : (s.setStation st x).pending = s.pending := rfl

/-! ### refreshAttn -/

@[simp] theorem State.refreshAttn_travel : (s.refreshAttn).travel = s.travel := rfl
@[simp] theorem State.refreshAttn_residual : (s.refreshAttn).residual = s.residual := rfl
@[simp] theorem State.refreshAttn_gateCount : (s.refreshAttn).gateCount = s.gateCount := rfl
@[simp] theorem State.refreshAttn_speed : (s.refreshAttn).speed = s.speed := rfl
@[simp] theorem State.refreshAttn_emptyGate : (s.refreshAttn).emptyGate = s.emptyGate := rfl
@[simp] theorem State.refreshAttn_gateLeft : (s.refreshAttn).gateLeft = s.gateLeft := rfl
@[simp] theorem State.refreshAttn_params : (s.refreshAttn).params = s.params := rfl
@[simp] theorem State.refreshAttn_classes : (s.refreshAttn).classes = s.classes := rfl
@[simp] theorem State.refreshAttn_planNow : (s.refreshAttn).planNow = s.planNow := rfl
@[simp] theorem State.refreshAttn_planNext : (s.refreshAttn).planNext = s.planNext := rfl
@[simp] theorem State.refreshAttn_phase : (s.refreshAttn).phase = s.phase := rfl
@[simp] theorem State.refreshAttn_stations : (s.refreshAttn).stations = s.stations := rfl
@[simp] theorem State.refreshAttn_lanes : (s.refreshAttn).lanes = s.lanes := rfl
@[simp] theorem State.refreshAttn_tagCounter : (s.refreshAttn).tagCounter = s.tagCounter := rfl
@[simp] theorem State.refreshAttn_scorch : (s.refreshAttn).scorch = s.scorch := rfl
@[simp] theorem State.refreshAttn_rollLift : (s.refreshAttn).rollLift = s.rollLift := rfl
@[simp] theorem State.refreshAttn_lineHold : (s.refreshAttn).lineHold = s.lineHold := rfl
@[simp] theorem State.refreshAttn_estop : (s.refreshAttn).estop = s.estop := rfl
@[simp] theorem State.refreshAttn_estopHold : (s.refreshAttn).estopHold = s.estopHold := rfl
@[simp] theorem State.refreshAttn_inputs : (s.refreshAttn).inputs = s.inputs := rfl
@[simp] theorem State.refreshAttn_alarms : (s.refreshAttn).alarms = s.alarms := rfl
@[simp] theorem State.refreshAttn_reports : (s.refreshAttn).reports = s.reports := rfl
@[simp] theorem State.refreshAttn_link : (s.refreshAttn).link = s.link := rfl
@[simp] theorem State.refreshAttn_resetPhase : (s.refreshAttn).resetPhase = s.resetPhase := rfl
@[simp] theorem State.refreshAttn_freeDraws : (s.refreshAttn).freeDraws = s.freeDraws := rfl
@[simp] theorem State.refreshAttn_pending : (s.refreshAttn).pending = s.pending := rfl

/-! ### evalGuard -/

@[simp] theorem State.evalGuard_travel : (s.evalGuard).travel = s.travel := rfl
@[simp] theorem State.evalGuard_residual : (s.evalGuard).residual = s.residual := rfl
@[simp] theorem State.evalGuard_gateCount : (s.evalGuard).gateCount = s.gateCount := rfl
@[simp] theorem State.evalGuard_speed : (s.evalGuard).speed = s.speed := rfl
@[simp] theorem State.evalGuard_emptyGate : (s.evalGuard).emptyGate = s.emptyGate := rfl
@[simp] theorem State.evalGuard_gateLeft : (s.evalGuard).gateLeft = s.gateLeft := rfl
@[simp] theorem State.evalGuard_params : (s.evalGuard).params = s.params := rfl
@[simp] theorem State.evalGuard_classes : (s.evalGuard).classes = s.classes := rfl
@[simp] theorem State.evalGuard_planNow : (s.evalGuard).planNow = s.planNow := rfl
@[simp] theorem State.evalGuard_planNext : (s.evalGuard).planNext = s.planNext := rfl
@[simp] theorem State.evalGuard_phase : (s.evalGuard).phase = s.phase := rfl
@[simp] theorem State.evalGuard_stations : (s.evalGuard).stations = s.stations := rfl
@[simp] theorem State.evalGuard_lanes : (s.evalGuard).lanes = s.lanes := rfl
@[simp] theorem State.evalGuard_tagCounter : (s.evalGuard).tagCounter = s.tagCounter := rfl
@[simp] theorem State.evalGuard_rollLift : (s.evalGuard).rollLift = s.rollLift := rfl
@[simp] theorem State.evalGuard_lineHold : (s.evalGuard).lineHold = s.lineHold := rfl
@[simp] theorem State.evalGuard_attn : (s.evalGuard).attn = s.attn := rfl
@[simp] theorem State.evalGuard_estop : (s.evalGuard).estop = s.estop := rfl
@[simp] theorem State.evalGuard_estopHold : (s.evalGuard).estopHold = s.estopHold := rfl
@[simp] theorem State.evalGuard_inputs : (s.evalGuard).inputs = s.inputs := rfl
@[simp] theorem State.evalGuard_alarms : (s.evalGuard).alarms = s.alarms := rfl
@[simp] theorem State.evalGuard_reports : (s.evalGuard).reports = s.reports := rfl
@[simp] theorem State.evalGuard_link : (s.evalGuard).link = s.link := rfl
@[simp] theorem State.evalGuard_resetPhase : (s.evalGuard).resetPhase = s.resetPhase := rfl
@[simp] theorem State.evalGuard_freeDraws : (s.evalGuard).freeDraws = s.freeDraws := rfl
@[simp] theorem State.evalGuard_pending : (s.evalGuard).pending = s.pending := rfl

/-! ### setReceiver -/

@[simp] theorem State.setReceiver_travel (r : Receiver) : (s.setReceiver r).travel = s.travel := rfl
@[simp] theorem State.setReceiver_residual (r : Receiver) : (s.setReceiver r).residual = s.residual := rfl
@[simp] theorem State.setReceiver_gateCount (r : Receiver) : (s.setReceiver r).gateCount = s.gateCount := rfl
@[simp] theorem State.setReceiver_speed (r : Receiver) : (s.setReceiver r).speed = s.speed := rfl
@[simp] theorem State.setReceiver_emptyGate (r : Receiver) : (s.setReceiver r).emptyGate = s.emptyGate := rfl
@[simp] theorem State.setReceiver_gateLeft (r : Receiver) : (s.setReceiver r).gateLeft = s.gateLeft := rfl
@[simp] theorem State.setReceiver_params (r : Receiver) : (s.setReceiver r).params = s.params := rfl
@[simp] theorem State.setReceiver_classes (r : Receiver) : (s.setReceiver r).classes = s.classes := rfl
@[simp] theorem State.setReceiver_planNow (r : Receiver) : (s.setReceiver r).planNow = s.planNow := rfl
@[simp] theorem State.setReceiver_planNext (r : Receiver) : (s.setReceiver r).planNext = s.planNext := rfl
@[simp] theorem State.setReceiver_phase (r : Receiver) : (s.setReceiver r).phase = s.phase := rfl
@[simp] theorem State.setReceiver_stations (r : Receiver) : (s.setReceiver r).stations = s.stations := rfl
@[simp] theorem State.setReceiver_lanes (r : Receiver) : (s.setReceiver r).lanes = s.lanes := rfl
@[simp] theorem State.setReceiver_tagCounter (r : Receiver) : (s.setReceiver r).tagCounter = s.tagCounter := rfl
@[simp] theorem State.setReceiver_scorch (r : Receiver) : (s.setReceiver r).scorch = s.scorch := rfl
@[simp] theorem State.setReceiver_rollLift (r : Receiver) : (s.setReceiver r).rollLift = s.rollLift := rfl
@[simp] theorem State.setReceiver_lineHold (r : Receiver) : (s.setReceiver r).lineHold = s.lineHold := rfl
@[simp] theorem State.setReceiver_attn (r : Receiver) : (s.setReceiver r).attn = s.attn := rfl
@[simp] theorem State.setReceiver_estop (r : Receiver) : (s.setReceiver r).estop = s.estop := rfl
@[simp] theorem State.setReceiver_estopHold (r : Receiver) : (s.setReceiver r).estopHold = s.estopHold := rfl
@[simp] theorem State.setReceiver_inputs (r : Receiver) : (s.setReceiver r).inputs = s.inputs := rfl
@[simp] theorem State.setReceiver_alarms (r : Receiver) : (s.setReceiver r).alarms = s.alarms := rfl
@[simp] theorem State.setReceiver_reports (r : Receiver) : (s.setReceiver r).reports = s.reports := rfl
@[simp] theorem State.setReceiver_resetPhase (r : Receiver) : (s.setReceiver r).resetPhase = s.resetPhase := rfl
@[simp] theorem State.setReceiver_freeDraws (r : Receiver) : (s.setReceiver r).freeDraws = s.freeDraws := rfl
@[simp] theorem State.setReceiver_pending (r : Receiver) : (s.setReceiver r).pending = s.pending := rfl

/-! ### setClass -/

@[simp] theorem State.setClass_travel (c : ClassNo) (e : ClassEntry) : (s.setClass c e).travel = s.travel := rfl
@[simp] theorem State.setClass_residual (c : ClassNo) (e : ClassEntry) : (s.setClass c e).residual = s.residual := rfl
@[simp] theorem State.setClass_gateCount (c : ClassNo) (e : ClassEntry) : (s.setClass c e).gateCount = s.gateCount := rfl
@[simp] theorem State.setClass_speed (c : ClassNo) (e : ClassEntry) : (s.setClass c e).speed = s.speed := rfl
@[simp] theorem State.setClass_emptyGate (c : ClassNo) (e : ClassEntry) : (s.setClass c e).emptyGate = s.emptyGate := rfl
@[simp] theorem State.setClass_gateLeft (c : ClassNo) (e : ClassEntry) : (s.setClass c e).gateLeft = s.gateLeft := rfl
@[simp] theorem State.setClass_params (c : ClassNo) (e : ClassEntry) : (s.setClass c e).params = s.params := rfl
@[simp] theorem State.setClass_planNow (c : ClassNo) (e : ClassEntry) : (s.setClass c e).planNow = s.planNow := rfl
@[simp] theorem State.setClass_planNext (c : ClassNo) (e : ClassEntry) : (s.setClass c e).planNext = s.planNext := rfl
@[simp] theorem State.setClass_phase (c : ClassNo) (e : ClassEntry) : (s.setClass c e).phase = s.phase := rfl
@[simp] theorem State.setClass_stations (c : ClassNo) (e : ClassEntry) : (s.setClass c e).stations = s.stations := rfl
@[simp] theorem State.setClass_lanes (c : ClassNo) (e : ClassEntry) : (s.setClass c e).lanes = s.lanes := rfl
@[simp] theorem State.setClass_tagCounter (c : ClassNo) (e : ClassEntry) : (s.setClass c e).tagCounter = s.tagCounter := rfl
@[simp] theorem State.setClass_scorch (c : ClassNo) (e : ClassEntry) : (s.setClass c e).scorch = s.scorch := rfl
@[simp] theorem State.setClass_rollLift (c : ClassNo) (e : ClassEntry) : (s.setClass c e).rollLift = s.rollLift := rfl
@[simp] theorem State.setClass_lineHold (c : ClassNo) (e : ClassEntry) : (s.setClass c e).lineHold = s.lineHold := rfl
@[simp] theorem State.setClass_attn (c : ClassNo) (e : ClassEntry) : (s.setClass c e).attn = s.attn := rfl
@[simp] theorem State.setClass_estop (c : ClassNo) (e : ClassEntry) : (s.setClass c e).estop = s.estop := rfl
@[simp] theorem State.setClass_estopHold (c : ClassNo) (e : ClassEntry) : (s.setClass c e).estopHold = s.estopHold := rfl
@[simp] theorem State.setClass_inputs (c : ClassNo) (e : ClassEntry) : (s.setClass c e).inputs = s.inputs := rfl
@[simp] theorem State.setClass_alarms (c : ClassNo) (e : ClassEntry) : (s.setClass c e).alarms = s.alarms := rfl
@[simp] theorem State.setClass_reports (c : ClassNo) (e : ClassEntry) : (s.setClass c e).reports = s.reports := rfl
@[simp] theorem State.setClass_link (c : ClassNo) (e : ClassEntry) : (s.setClass c e).link = s.link := rfl
@[simp] theorem State.setClass_resetPhase (c : ClassNo) (e : ClassEntry) : (s.setClass c e).resetPhase = s.resetPhase := rfl
@[simp] theorem State.setClass_freeDraws (c : ClassNo) (e : ClassEntry) : (s.setClass c e).freeDraws = s.freeDraws := rfl
@[simp] theorem State.setClass_pending (c : ClassNo) (e : ClassEntry) : (s.setClass c e).pending = s.pending := rfl

/-! ### discardRequest -/

@[simp] theorem State.discardRequest_travel : (s.discardRequest).travel = s.travel := rfl
@[simp] theorem State.discardRequest_residual : (s.discardRequest).residual = s.residual := rfl
@[simp] theorem State.discardRequest_gateCount : (s.discardRequest).gateCount = s.gateCount := rfl
@[simp] theorem State.discardRequest_speed : (s.discardRequest).speed = s.speed := rfl
@[simp] theorem State.discardRequest_emptyGate : (s.discardRequest).emptyGate = s.emptyGate := rfl
@[simp] theorem State.discardRequest_gateLeft : (s.discardRequest).gateLeft = s.gateLeft := rfl
@[simp] theorem State.discardRequest_params : (s.discardRequest).params = s.params := rfl
@[simp] theorem State.discardRequest_classes : (s.discardRequest).classes = s.classes := rfl
@[simp] theorem State.discardRequest_planNow : (s.discardRequest).planNow = s.planNow := rfl
@[simp] theorem State.discardRequest_planNext : (s.discardRequest).planNext = s.planNext := rfl
@[simp] theorem State.discardRequest_phase : (s.discardRequest).phase = s.phase := rfl
@[simp] theorem State.discardRequest_stations : (s.discardRequest).stations = s.stations := rfl
@[simp] theorem State.discardRequest_lanes : (s.discardRequest).lanes = s.lanes := rfl
@[simp] theorem State.discardRequest_tagCounter : (s.discardRequest).tagCounter = s.tagCounter := rfl
@[simp] theorem State.discardRequest_scorch : (s.discardRequest).scorch = s.scorch := rfl
@[simp] theorem State.discardRequest_rollLift : (s.discardRequest).rollLift = s.rollLift := rfl
@[simp] theorem State.discardRequest_lineHold : (s.discardRequest).lineHold = s.lineHold := rfl
@[simp] theorem State.discardRequest_attn : (s.discardRequest).attn = s.attn := rfl
@[simp] theorem State.discardRequest_estop : (s.discardRequest).estop = s.estop := rfl
@[simp] theorem State.discardRequest_estopHold : (s.discardRequest).estopHold = s.estopHold := rfl
@[simp] theorem State.discardRequest_inputs : (s.discardRequest).inputs = s.inputs := rfl
@[simp] theorem State.discardRequest_alarms : (s.discardRequest).alarms = s.alarms := rfl
@[simp] theorem State.discardRequest_reports : (s.discardRequest).reports = s.reports := rfl
@[simp] theorem State.discardRequest_resetPhase : (s.discardRequest).resetPhase = s.resetPhase := rfl
@[simp] theorem State.discardRequest_freeDraws : (s.discardRequest).freeDraws = s.freeDraws := rfl
@[simp] theorem State.discardRequest_pending : (s.discardRequest).pending = s.pending := rfl

/-! ### setEstopInput -/

@[simp] theorem State.setEstopInput_travel (b : Bool) : (s.setEstopInput b).travel = s.travel := rfl
@[simp] theorem State.setEstopInput_residual (b : Bool) : (s.setEstopInput b).residual = s.residual := rfl
@[simp] theorem State.setEstopInput_gateCount (b : Bool) : (s.setEstopInput b).gateCount = s.gateCount := rfl
@[simp] theorem State.setEstopInput_speed (b : Bool) : (s.setEstopInput b).speed = s.speed := rfl
@[simp] theorem State.setEstopInput_emptyGate (b : Bool) : (s.setEstopInput b).emptyGate = s.emptyGate := rfl
@[simp] theorem State.setEstopInput_gateLeft (b : Bool) : (s.setEstopInput b).gateLeft = s.gateLeft := rfl
@[simp] theorem State.setEstopInput_params (b : Bool) : (s.setEstopInput b).params = s.params := rfl
@[simp] theorem State.setEstopInput_classes (b : Bool) : (s.setEstopInput b).classes = s.classes := rfl
@[simp] theorem State.setEstopInput_planNow (b : Bool) : (s.setEstopInput b).planNow = s.planNow := rfl
@[simp] theorem State.setEstopInput_planNext (b : Bool) : (s.setEstopInput b).planNext = s.planNext := rfl
@[simp] theorem State.setEstopInput_phase (b : Bool) : (s.setEstopInput b).phase = s.phase := rfl
@[simp] theorem State.setEstopInput_stations (b : Bool) : (s.setEstopInput b).stations = s.stations := rfl
@[simp] theorem State.setEstopInput_lanes (b : Bool) : (s.setEstopInput b).lanes = s.lanes := rfl
@[simp] theorem State.setEstopInput_tagCounter (b : Bool) : (s.setEstopInput b).tagCounter = s.tagCounter := rfl
@[simp] theorem State.setEstopInput_scorch (b : Bool) : (s.setEstopInput b).scorch = s.scorch := rfl
@[simp] theorem State.setEstopInput_rollLift (b : Bool) : (s.setEstopInput b).rollLift = s.rollLift := rfl
@[simp] theorem State.setEstopInput_lineHold (b : Bool) : (s.setEstopInput b).lineHold = s.lineHold := rfl
@[simp] theorem State.setEstopInput_attn (b : Bool) : (s.setEstopInput b).attn = s.attn := rfl
@[simp] theorem State.setEstopInput_estop (b : Bool) : (s.setEstopInput b).estop = s.estop := rfl
@[simp] theorem State.setEstopInput_estopHold (b : Bool) : (s.setEstopInput b).estopHold = s.estopHold := rfl
@[simp] theorem State.setEstopInput_alarms (b : Bool) : (s.setEstopInput b).alarms = s.alarms := rfl
@[simp] theorem State.setEstopInput_reports (b : Bool) : (s.setEstopInput b).reports = s.reports := rfl
@[simp] theorem State.setEstopInput_link (b : Bool) : (s.setEstopInput b).link = s.link := rfl
@[simp] theorem State.setEstopInput_resetPhase (b : Bool) : (s.setEstopInput b).resetPhase = s.resetPhase := rfl
@[simp] theorem State.setEstopInput_freeDraws (b : Bool) : (s.setEstopInput b).freeDraws = s.freeDraws := rfl
@[simp] theorem State.setEstopInput_pending (b : Bool) : (s.setEstopInput b).pending = s.pending := rfl

/-! ### countTag -/

@[simp] theorem State.countTag_travel (r : Record) : (s.countTag r).travel = s.travel := rfl
@[simp] theorem State.countTag_residual (r : Record) : (s.countTag r).residual = s.residual := rfl
@[simp] theorem State.countTag_gateCount (r : Record) : (s.countTag r).gateCount = s.gateCount := rfl
@[simp] theorem State.countTag_speed (r : Record) : (s.countTag r).speed = s.speed := rfl
@[simp] theorem State.countTag_emptyGate (r : Record) : (s.countTag r).emptyGate = s.emptyGate := rfl
@[simp] theorem State.countTag_gateLeft (r : Record) : (s.countTag r).gateLeft = s.gateLeft := rfl
@[simp] theorem State.countTag_params (r : Record) : (s.countTag r).params = s.params := rfl
@[simp] theorem State.countTag_classes (r : Record) : (s.countTag r).classes = s.classes := rfl
@[simp] theorem State.countTag_planNow (r : Record) : (s.countTag r).planNow = s.planNow := rfl
@[simp] theorem State.countTag_planNext (r : Record) : (s.countTag r).planNext = s.planNext := rfl
@[simp] theorem State.countTag_phase (r : Record) : (s.countTag r).phase = s.phase := rfl
@[simp] theorem State.countTag_stations (r : Record) : (s.countTag r).stations = s.stations := rfl
@[simp] theorem State.countTag_lanes (r : Record) : (s.countTag r).lanes = s.lanes := rfl
@[simp] theorem State.countTag_scorch (r : Record) : (s.countTag r).scorch = s.scorch := rfl
@[simp] theorem State.countTag_rollLift (r : Record) : (s.countTag r).rollLift = s.rollLift := rfl
@[simp] theorem State.countTag_lineHold (r : Record) : (s.countTag r).lineHold = s.lineHold := rfl
@[simp] theorem State.countTag_attn (r : Record) : (s.countTag r).attn = s.attn := rfl
@[simp] theorem State.countTag_estop (r : Record) : (s.countTag r).estop = s.estop := rfl
@[simp] theorem State.countTag_estopHold (r : Record) : (s.countTag r).estopHold = s.estopHold := rfl
@[simp] theorem State.countTag_inputs (r : Record) : (s.countTag r).inputs = s.inputs := rfl
@[simp] theorem State.countTag_alarms (r : Record) : (s.countTag r).alarms = s.alarms := rfl
@[simp] theorem State.countTag_reports (r : Record) : (s.countTag r).reports = s.reports := rfl
@[simp] theorem State.countTag_link (r : Record) : (s.countTag r).link = s.link := rfl
@[simp] theorem State.countTag_resetPhase (r : Record) : (s.countTag r).resetPhase = s.resetPhase := rfl
@[simp] theorem State.countTag_freeDraws (r : Record) : (s.countTag r).freeDraws = s.freeDraws := rfl
@[simp] theorem State.countTag_pending (r : Record) : (s.countTag r).pending = s.pending := rfl

/-! ### Reading back -/

@[simp] theorem State.lane_setLane_self (l : LaneNo) (x : Lane) : (s.setLane l x).lane l = x :=
  Quad.get_set_self _ _ _

theorem State.lane_setLane_ne {l m : LaneNo} (h : m ≠ l) (x : Lane) :
    (s.setLane l x).lane m = s.lane m :=
  Quad.get_set_ne _ h _

theorem State.lane_setLane (l m : LaneNo) (x : Lane) :
    (s.setLane l x).lane m = if m = l then x else s.lane m :=
  Quad.get_set _ _ _ _

@[simp] theorem State.station_setStation_self (st : StationNo) (x : Station) :
    (s.setStation st x).station st = x :=
  Quad.get_set_self _ _ _

theorem State.station_setStation_ne {st su : StationNo} (h : su ≠ st) (x : Station) :
    (s.setStation st x).station su = s.station su :=
  Quad.get_set_ne _ h _

theorem State.station_setStation (st su : StationNo) (x : Station) :
    (s.setStation st x).station su = if su = st then x else s.station su :=
  Quad.get_set _ _ _ _

@[simp] theorem State.station_setLane (l : LaneNo) (x : Lane) (st : StationNo) :
    (s.setLane l x).station st = s.station st := rfl

@[simp] theorem State.lane_setStation (st : StationNo) (x : Station) (l : LaneNo) :
    (s.setStation st x).lane l = s.lane l := rfl

@[simp] theorem State.lane_refreshAttn (l : LaneNo) : s.refreshAttn.lane l = s.lane l := rfl

@[simp] theorem State.station_refreshAttn (st : StationNo) :
    s.refreshAttn.station st = s.station st := rfl

@[simp] theorem State.lane_evalGuard (l : LaneNo) : s.evalGuard.lane l = s.lane l := rfl

@[simp] theorem State.station_evalGuard (st : StationNo) : s.evalGuard.station st = s.station st := rfl

@[simp] theorem State.attn_refreshAttn : s.refreshAttn.attn =
    (s.alarms.current.isSome || (s.params.attention && !s.reports.queue.isEmpty)) := rfl

@[simp] theorem State.setLane_setLane (l : LaneNo) (x y : Lane) :
    (s.setLane l x).setLane l y = s.setLane l y := by
  simp [State.setLane]

@[simp] theorem State.setStation_setStation (st : StationNo) (x y : Station) :
    (s.setStation st x).setStation st y = s.setStation st y := by
  simp [State.setStation]

@[simp] theorem State.setLane_lane (l : LaneNo) : s.setLane l (s.lane l) = s := by
  simp [State.setLane, State.lane]

@[simp] theorem State.setStation_station (st : StationNo) : s.setStation st (s.station st) = s := by
  simp [State.setStation, State.station]

/-! ### Changes written as updates -/

theorem State.modLane_eq (l : LaneNo) (f : Lane → Lane) :
    s.modLane l f = s.setLane l (f (s.lane l)) := rfl

theorem State.modStation_eq (st : StationNo) (f : Station → Station) :
    s.modStation st f = s.setStation st (f (s.station st)) := rfl

theorem State.setQueue_eq (l : LaneNo) (q : List Record) :
    s.setQueue l q = s.setLane l { s.lane l with queue := q } := rfl

end Machine

end Sys2Proof
end

