-- ==== Sys2Proof/Laws/Runs.lean ====
section
/-!
SUPPORT. Induction over tasks taken one after another: what each task keeps, the whole run keeps.
-/

namespace Sys2Proof.Machine

variable {τ : Type}

theorem State.draw_two (s : State) (n : Nat) :
    (s.draw n).2 = s ∨ (s.draw n).2 = { s with freeDraws := s.freeDraws + 1 } := by
  unfold State.draw
  split
  · exact Or.inl rfl
  · exact Or.inr rfl

/-- What drawing a free value and every task keep, a run in a free order keeps. -/
theorem runFreely_keeps [DecidableEq τ] {P : State → Prop} {enabled : List τ → List τ}
    {run : τ → State → State} (hd : ∀ s n, P s → P (State.draw s n).2)
    (hr : ∀ t s, P s → P (run t s)) (fuel : Nat) (tasks : List τ) (s : State) (h : P s) :
    P (runFreely enabled run fuel tasks s) := by
  induction fuel generalizing tasks s with
  | zero => exact h
  | succ n ih =>
    unfold runFreely
    have hs := hd s (enabled tasks).length h
    generalize State.draw s (enabled tasks).length = x at hs
    obtain ⟨i, s'⟩ := x
    dsimp only at hs ⊢
    split
    · exact hs
    · exact ih _ _ (hr _ _ hs)

theorem inFreeOrder_keeps [DecidableEq τ] {P : State → Prop} {run : τ → State → State}
    (hd : ∀ s n, P s → P (State.draw s n).2) (hr : ∀ t s, P s → P (run t s)) (tasks : List τ)
    (s : State) (h : P s) : P (inFreeOrder run tasks s) :=
  runFreely_keeps hd hr _ _ _ h

theorem forEach_keeps {P : State → Prop} {run : τ → State → State}
    (hr : ∀ t s, P s → P (run t s)) (tasks : List τ) (s : State) (h : P s) :
    P (forEach run tasks s) := by
  induction tasks generalizing s with
  | nil => exact h
  | cons t rest ih => exact ih _ (hr t s h)

variable {β : Type}

theorem runFreely_const [DecidableEq τ] (p : State → β) {enabled : List τ → List τ}
    {run : τ → State → State} (hd : ∀ s n, p (State.draw s n).2 = p s)
    (hr : ∀ t s, p (run t s) = p s) (fuel : Nat) (tasks : List τ) (s : State) :
    p (runFreely enabled run fuel tasks s) = p s :=
  runFreely_keeps (P := fun t => p t = p s) (fun t n h => (hd t n).trans h)
    (fun x t h => (hr x t).trans h) fuel tasks s rfl

theorem inFreeOrder_const [DecidableEq τ] (p : State → β) {run : τ → State → State}
    (hd : ∀ s n, p (State.draw s n).2 = p s) (hr : ∀ t s, p (run t s) = p s) (tasks : List τ)
    (s : State) : p (inFreeOrder run tasks s) = p s :=
  runFreely_const p hd hr _ _ _

theorem forEach_const (p : State → β) {run : τ → State → State} (hr : ∀ t s, p (run t s) = p s)
    (tasks : List τ) (s : State) : p (forEach run tasks s) = p s :=
  forEach_keeps (P := fun t => p t = p s) (fun x t h => (hr x t).trans h) tasks s rfl

theorem forEach_nil (run : τ → State → State) (s : State) : forEach run [] s = s := rfl

theorem forEach_cons (run : τ → State → State) (t : τ) (rest : List τ) (s : State) :
    forEach run (t :: rest) s = forEach run rest (run t s) := rfl

/-- One task alone is taken without drawing a free value. -/
theorem runFreely_single [DecidableEq τ] {enabled : List τ → List τ} {run : τ → State → State}
    (t : τ) (s : State) (h : enabled [t] = [t]) : runFreely enabled run 1 [t] s = run t s := by
  simp [runFreely, h, State.draw]

end Sys2Proof.Machine
end

