-- ==== Sys2Proof/Laws/Arbiter.lean ====
section
/-!
SUPPORT. What an arbiter's work leaves as it is: everything but grants, release points, order lists,
the queues and tags, the stations' states and counts, and the free values drawn.
-/

namespace Sys2Proof.Machine

/-- What of a lane no arbiter writes. -/
structure LaneSteady where
  state : LaneState
  geometry : Geometry
  eyes : Quad Eye
  folder : Folder
  stacker : Stacker

def Lane.steady (ln : Lane) : LaneSteady :=
  { state := ln.state, geometry := ln.geometry, eyes := ln.eyes, folder := ln.folder,
    stacker := ln.stacker }

/-- What of a station no arbiter writes. -/
structure StationSteady where
  next : Option Batch
  params : StationParams
  returnOut : Bool

def Station.steady (x : Station) : StationSteady :=
  { next := x.next, params := x.params, returnOut := x.returnOut }

/-- What of the whole state no arbiter writes. -/
structure Steady where
  alarms : Alarms
  lineHold : Bool
  rollLift : Bool
  attn : Bool
  reports : Reports
  scorch : GuardTimer
  planNow : PlanPair
  planNext : Option PlanPair
  phase : PlanPhase
  lanes : Quad LaneSteady
  stations : Quad StationSteady

def State.steady (s : State) : Steady :=
  { alarms := s.alarms, lineHold := s.lineHold, rollLift := s.rollLift, attn := s.attn,
    reports := s.reports, scorch := s.scorch, planNow := s.planNow, planNext := s.planNext,
    phase := s.phase, lanes := s.lanes.map Lane.steady,
    stations := s.stations.map Station.steady }

theorem State.steady_lane {s t : State} (h : s.steady = t.steady) (l : LaneNo) :
    (s.lane l).steady = (t.lane l).steady := by
  have := congrArg (fun x => x.lanes.get l) h
  simpa [State.steady, State.lane] using this

theorem State.steady_station {s t : State} (h : s.steady = t.steady) (st : StationNo) :
    (s.station st).steady = (t.station st).steady := by
  have := congrArg (fun x => x.stations.get st) h
  simpa [State.steady, State.station] using this

@[simp] theorem State.steady_draw (s : State) (n : Nat) : (s.draw n).2.steady = s.steady := by
  rcases s.draw_two n with h | h <;> rw [h]
  rfl

theorem State.steady_modLane (s : State) (l : LaneNo) (f : Lane → Lane)
    (h : (f (s.lane l)).steady = (s.lane l).steady) : (s.modLane l f).steady = s.steady := by
  simp only [State.steady, State.modLane, State.setLane, Quad.map_set_same _ _ _ _ h]

theorem State.steady_modStation (s : State) (st : StationNo) (f : Station → Station)
    (h : (f (s.station st)).steady = (s.station st).steady) :
    (s.modStation st f).steady = s.steady := by
  simp only [State.steady, State.modStation, State.setStation, Quad.map_set_same _ _ _ _ h]

theorem State.steady_setStation (s : State) (st : StationNo) (x : Station)
    (h : x.steady = (s.station st).steady) : (s.setStation st x).steady = s.steady := by
  simp only [State.steady, State.setStation, Quad.map_set_same _ _ _ _ h]

/-! ### Queues and tags -/

@[simp] theorem State.steady_setQueue (s : State) (l : LaneNo) (q : List Record) :
    (s.setQueue l q).steady = s.steady := by
  exact s.steady_modLane l _ rfl

@[simp] theorem State.steady_modRecord (s : State) (l : LaneNo) (tag : Nat) (f : Record → Record) :
    (s.modRecord l tag f).steady = s.steady := by
  simp [State.modRecord]

@[simp] theorem State.steady_countTag (s : State) (r : Record) :
    (s.countTag r).steady = s.steady := rfl

@[simp] theorem State.steady_joinTail (s : State) (l : LaneNo) (r : Record) :
    (s.joinTail l r).steady = s.steady := by
  simp [State.joinTail]

@[simp] theorem State.steady_joinForeign (s : State) (l : LaneNo) (r : Record) :
    (s.joinForeign l r).steady = s.steady := by
  simp [State.joinForeign]

@[simp] theorem State.steady_dropRecord (s : State) (l : LaneNo) (tag : Nat) :
    (s.dropRecord l tag).steady = s.steady := by
  simp [State.dropRecord]

/-! ### Arbiters -/

@[simp] theorem State.steady_releaseOf (s : State) (l : LaneNo) (st : StationNo) (b : Batch) :
    (s.releaseOf l st b).steady = s.steady := by
  have h := State.steady_joinTail s l (s.releasedRecord l st b (s.predictedEntry st))
  have h2 := State.steady_setStation (s.joinTail l (s.releasedRecord l st b (s.predictedEntry st))) st
    ((s.station st).release b s.travel) rfl
  exact (State.steady_modLane _ _ _ rfl).trans (h2.trans h)

@[simp] theorem State.steady_releaseStep (s : State) (l : LaneNo) (st : StationNo) :
    (s.releaseStep l st).steady = s.steady := by
  unfold State.releaseStep
  split <;> simp

@[simp] theorem State.steady_grantTo (s : State) (l : LaneNo) (st : StationNo) :
    (s.grantTo l st).steady = s.steady := by
  unfold State.grantTo
  rw [State.steady_modStation _ _ _ rfl, State.steady_modLane _ _ _ rfl]

@[simp] theorem State.steady_workPoint (s : State) (l : LaneNo) (st : StationNo) :
    (s.workPoint l st).steady = s.steady := by
  exact s.steady_modLane l _ rfl

@[simp] theorem State.steady_releaseIfMet (s : State) (l : LaneNo) (st : StationNo) :
    (s.releaseIfMet l st).steady = s.steady := by
  unfold State.releaseIfMet
  split <;> simp

@[simp] theorem State.steady_workAndTest (s : State) (l : LaneNo) (st : StationNo) :
    (s.workAndTest l st).steady = s.steady := by
  simp [State.workAndTest]

@[simp] theorem State.steady_decideUpTo (s : State) (l : LaneNo) (n : Nat) :
    (s.decideUpTo l n).steady = s.steady := by
  induction n generalizing s with
  | zero => rfl
  | succ n ih =>
    unfold State.decideUpTo
    split <;> simp [ih]

@[simp] theorem State.steady_decideGrant (s : State) (l : LaneNo) :
    (s.decideGrant l).steady = s.steady := by
  simp [State.decideGrant]

@[simp] theorem State.steady_work (s : State) (l : LaneNo) :
    (s.work l).steady = s.steady := by
  unfold State.work
  split <;> simp

@[simp] theorem State.steady_testRelease (s : State) (l : LaneNo) :
    (s.testRelease l).steady = s.steady := by
  unfold State.testRelease
  split <;> simp

@[simp] theorem State.steady_armHolder (s : State) (l : LaneNo) (st : StationNo) :
    (s.armHolder l st).steady = s.steady := by
  simp only [State.armHolder, State.steady_decideGrant, State.steady_workAndTest]
  exact s.steady_modStation st _ rfl

@[simp] theorem State.steady_giveBack (s : State) (st : StationNo) :
    (s.giveBack st).steady = s.steady := by
  unfold State.giveBack
  split
  · rw [State.steady_decideGrant, State.steady_modLane _ _ _ rfl]
  · rfl

@[simp] theorem State.steady_resetOrders (s : State) :
    s.resetOrders.steady = s.steady := by
  exact forEach_const State.steady (fun l t => t.steady_modLane l _ rfl) _ _

@[simp] theorem State.steady_workIf (s : State) (l : LaneNo) (y : Bool) :
    (s.workIf l y).steady = s.steady := by
  unfold State.workIf
  split <;> simp

/-! ### Stations -/

@[simp] theorem State.steady_testHold (s : State) (st : StationNo) :
    (s.testHold st).steady = s.steady := by
  unfold State.testHold
  split <;> simp

@[simp] theorem State.steady_enterWaiting (s : State) (st : StationNo) :
    (s.enterWaiting st).steady = s.steady := by
  unfold State.enterWaiting
  rw [State.steady_testHold, State.steady_modStation _ _ _ rfl]

@[simp] theorem State.steady_pedal (s : State) (st : StationNo) :
    (s.pedal st).steady = s.steady := by
  unfold State.pedal
  (repeat' split)
  · rw [State.steady_armHolder, State.steady_modStation _ _ _ rfl]
  · rw [State.steady_decideGrant, State.steady_modStation _ _ _ rfl]
  · rfl

end Sys2Proof.Machine
end

