-- ==== Sys2Proof/Laws/Grants.lean ====
section
/-!
SUPPORT. When an arbiter has nothing to do, and what its decisions can touch: only the queue's tail,
the grant, the release point and the order list of its own lane, and stations that are LOADED or ARMED.
-/

namespace Sys2Proof.Machine

/-! ### Nothing to do -/

theorem State.armedStation_eq_some {s : State} {l : LaneNo} {st : StationNo} :
    s.armedStation l = some st ↔ (s.lane l).state = .opened ∧ (s.lane l).grant = some st ∧
      (s.station st).state = .armed := by
  unfold State.armedStation
  rcases h : (s.lane l).state <;> rcases g : (s.lane l).grant with _ | u <;> simp
  constructor
  · rintro ⟨h1, rfl⟩; exact ⟨rfl, h1⟩
  · rintro ⟨rfl, h1⟩; exact ⟨h1, rfl⟩

theorem State.armedStation_of_shut {s : State} {l : LaneNo} (h : (s.lane l).state ≠ .opened) :
    s.armedStation l = none := by
  rcases hx : s.armedStation l with _ | st
  · rfl
  · exact absurd (State.armedStation_eq_some.mp hx).1 h

theorem State.decided_of_held {s : State} {l : LaneNo} (h : (s.lane l).grant ≠ none) :
    s.decided l = none := by
  unfold State.decided
  rw [if_neg fun hh => h hh.2]

theorem State.decided_of_shut {s : State} {l : LaneNo} (h : (s.lane l).state ≠ .opened) :
    s.decided l = none := by
  unfold State.decided
  rw [if_neg fun hh => h hh.1]

theorem State.decided_of_noCandidate {s : State} {l : LaneNo}
    (h : ∀ st, s.laneOf st = l → (s.station st).state ≠ .loaded) : s.decided l = none := by
  have hc : ∀ st, ¬ s.isCandidate l st = true := by
    intro st hh
    rw [State.isCandidate, Bool.and_eq_true, decide_eq_true_eq, decide_eq_true_eq] at hh
    exact h st hh.1 hh.2
  unfold State.decided
  split
  · rw [List.find?_eq_none]; exact fun st _ => hc st
  · rfl

theorem State.decideUpTo_of_none {s : State} {l : LaneNo} (h : s.decided l = none) (n : Nat) :
    s.decideUpTo l n = s := by
  cases n with
  | zero => rfl
  | succ n => simp only [State.decideUpTo, h]

theorem State.decideGrant_of_none {s : State} {l : LaneNo} (h : s.decided l = none) :
    s.decideGrant l = s := State.decideUpTo_of_none h 4

theorem State.work_of_unarmed {s : State} {l : LaneNo} (h : s.armedStation l = none) :
    s.work l = s := by simp only [State.work, h]

theorem State.workIf_of_unarmed {s : State} {l : LaneNo} (h : s.armedStation l = none) (y : Bool) :
    s.workIf l y = s := by cases y <;> simp [State.workIf, State.work_of_unarmed h]

theorem State.giveBack_of_not_holding {s : State} {st : StationNo} (h : s.holdsGrant st = false) :
    s.giveBack st = s := by simp [State.giveBack, h]

theorem State.testHold_of_not_over {s : State} {st : StationNo} (h : s.runHoldOver st = false) :
    s.testHold st = s := by simp [State.testHold, h]

theorem State.planTest_of_noChange {s : State} (h : s.phase = .noChange) : s.planTest = s := by
  have h1 : s.trackTest = s := by
    unfold State.trackTest
    rw [if_neg (by rw [h]; simp)]
  unfold State.planTest
  rw [h1]
  unfold State.stackTest
  split
  · rw [if_neg (by rw [h]; simp)]
  · rfl

theorem State.planTest_of_undrained {s : State} (h : s.drained = false) : s.planTest = s := by
  have h1 : s.trackTest = s := by
    unfold State.trackTest
    rw [if_neg (by rw [h]; simp)]
  unfold State.planTest
  rw [h1]
  unfold State.stackTest
  split
  · rw [if_neg (by rw [h]; simp)]
  · rfl

theorem State.leaveOpen_of_shut {s : State} {l : LaneNo} (h : (s.lane l).state ≠ .opened)
    (after : LaneState) : s.leaveOpen l after = s := by
  unfold State.leaveOpen
  rw [if_neg h]

/-! ### What decisions can touch -/

/-- Other lanes are as before, records only join the lane's tail, and stations other than those that
`may` are as before. -/
def State.ArbiterOnly (l : LaneNo) (may : StationNo → Prop) (s t : State) : Prop :=
  (∀ m, m ≠ l → t.lane m = s.lane m) ∧ s.queue l <+: t.queue l ∧
    ∀ st, ¬ may st → t.station st = s.station st

theorem State.ArbiterOnly.refl (l : LaneNo) (may : StationNo → Prop) (s : State) :
    State.ArbiterOnly l may s s := ⟨fun _ _ => rfl, List.prefix_refl _, fun _ _ => rfl⟩

theorem State.ArbiterOnly.trans {l : LaneNo} {may : StationNo → Prop} {s t u : State}
    (h : State.ArbiterOnly l may s t) (g : State.ArbiterOnly l may t u) :
    State.ArbiterOnly l may s u :=
  ⟨fun m hm => (g.1 m hm).trans (h.1 m hm), h.2.1.trans g.2.1,
    fun st hs => (g.2.2 st hs).trans (h.2.2 st hs)⟩

theorem State.ArbiterOnly.mono {l : LaneNo} {may may' : StationNo → Prop} {s t : State}
    (h : State.ArbiterOnly l may s t) (hm : ∀ st, may st → may' st) :
    State.ArbiterOnly l may' s t :=
  ⟨h.1, h.2.1, fun st hs => h.2.2 st fun h' => hs (hm st h')⟩

theorem State.queue_setLane_self (s : State) (l : LaneNo) (x : Lane) :
    (s.setLane l x).queue l = x.queue := by simp [State.queue]

theorem State.arbiterOnly_modLane (s : State) (l : LaneNo) (f : Lane → Lane)
    (hf : (s.lane l).queue <+: (f (s.lane l)).queue) (may : StationNo → Prop) :
    State.ArbiterOnly l may s (s.modLane l f) := by
  rw [State.modLane_eq]
  exact ⟨fun m hm => State.lane_setLane_ne s hm _, by simpa [State.queue] using hf,
    fun st _ => State.station_setLane s _ _ _⟩

theorem State.arbiterOnly_modStation (s : State) (l : LaneNo) (st : StationNo)
    (f : Station → Station) : State.ArbiterOnly l (fun u => u = st) s (s.modStation st f) := by
  rw [State.modStation_eq]
  exact ⟨fun m _ => State.lane_setStation s _ _ _,
    by simp [State.queue], fun u hu => State.station_setStation_ne s hu _⟩

theorem State.arbiterOnly_releaseOf (s : State) (l : LaneNo) (st : StationNo) (b : Batch) :
    State.ArbiterOnly l (fun u => u = st) s (s.releaseOf l st b) := by
  unfold State.releaseOf
  refine State.ArbiterOnly.trans (t := (s.joinTail l (s.releasedRecord l st b
    (s.predictedEntry st))).setStation st ((s.station st).release b s.travel)) ?_
    (State.arbiterOnly_modLane _ l _ (by exact List.prefix_refl _) _)
  refine ⟨fun m hm => ?_, ?_, fun u hu => ?_⟩
  · simp only [State.lane_setStation]
    unfold State.joinTail State.countTag
    rw [State.setQueue_eq]
    exact State.lane_setLane_ne s hm _
  · simp only [State.queue, State.lane_setStation]
    unfold State.joinTail State.countTag
    rw [State.setQueue_eq]
    change _ <+: ((s.setLane l _).lane l).queue
    simp [State.queue]
  · rw [State.station_setStation_ne _ hu]
    unfold State.joinTail State.countTag
    rw [State.setQueue_eq]
    rfl

theorem State.arbiterOnly_workAndTest (s : State) (l : LaneNo) (st : StationNo) :
    State.ArbiterOnly l (fun u => u = st) s (s.workAndTest l st) := by
  unfold State.workAndTest State.releaseIfMet
  have h1 : State.ArbiterOnly l (fun u => u = st) s (s.workPoint l st) :=
    State.arbiterOnly_modLane s l _ (List.prefix_refl _) _
  split
  · refine h1.trans ?_
    unfold State.releaseStep
    split
    · exact State.arbiterOnly_releaseOf _ _ _ _
    · exact State.ArbiterOnly.refl _ _ _
  · exact h1

theorem State.decided_loaded {s : State} {l : LaneNo} {st : StationNo} (h : s.decided l = some st) :
    s.laneOf st = l ∧ (s.station st).state = .loaded ∧ (s.lane l).state = .opened ∧
      (s.lane l).grant = none := by
  unfold State.decided at h
  split at h
  · rename_i ho
    have := List.find?_some h
    rw [State.isCandidate, Bool.and_eq_true, decide_eq_true_eq, decide_eq_true_eq] at this
    exact ⟨this.1, this.2, ho⟩
  · cases h

theorem State.laneOf_of_kept {s t : State} (h : t.planNow = s.planNow) (st : StationNo) :
    t.laneOf st = s.laneOf st := by rw [State.laneOf, State.laneOf, h]

/-- Decisions of a lane touch only stations that are mapped to it and LOADED. -/
theorem State.arbiterOnly_decideUpTo (l : LaneNo) (n : Nat) (s : State) :
    State.ArbiterOnly l (fun u => s.laneOf u = l ∧ (s.station u).state = .loaded) s
      (s.decideUpTo l n) := by
  induction n generalizing s with
  | zero => exact State.ArbiterOnly.refl _ _ _
  | succ n ih =>
    unfold State.decideUpTo
    split
    · exact State.ArbiterOnly.refl _ _ _
    · rename_i st hd
      have hl := State.decided_loaded hd
      have h1 : State.ArbiterOnly l (fun u => u = st) s ((s.grantTo l st).workAndTest l st) := by
        refine State.ArbiterOnly.trans ?_ (State.arbiterOnly_workAndTest _ _ _)
        exact State.ArbiterOnly.trans
          (State.arbiterOnly_modLane s l _ (List.prefix_refl _) _)
          (State.arbiterOnly_modStation _ _ _ _)
      have hp : ((s.grantTo l st).workAndTest l st).planNow = s.planNow := by
        have := congrArg Steady.planNow
          ((State.steady_workAndTest (s.grantTo l st) l st).trans (State.steady_grantTo s l st))
        exact this
      refine (h1.mono ?_).trans ((ih _).mono ?_)
      · rintro u rfl; exact ⟨hl.1, hl.2.1⟩
      · rintro u ⟨hu1, hu2⟩
        rw [State.laneOf_of_kept hp] at hu1
        by_cases hus : u = st
        · subst hus; exact ⟨hl.1, hl.2.1⟩
        · rw [h1.2.2 u hus] at hu2
          exact ⟨hu1, hu2⟩

theorem State.arbiterOnly_decideGrant (s : State) (l : LaneNo) :
    State.ArbiterOnly l (fun u => s.laneOf u = l ∧ (s.station u).state = .loaded) s
      (s.decideGrant l) := State.arbiterOnly_decideUpTo l 4 s

/-- The release step of a lane's ARMED station. -/
theorem State.arbiterOnly_releaseIfMet (s : State) (l : LaneNo) (st : StationNo) :
    State.ArbiterOnly l (fun u => u = st) s (s.releaseIfMet l st) := by
  unfold State.releaseIfMet State.releaseStep
  split
  · split
    · exact State.arbiterOnly_releaseOf _ _ _ _
    · exact State.ArbiterOnly.refl _ _ _
  · exact State.ArbiterOnly.refl _ _ _

/-- A working and its release test, with the decision that may follow: only LOADED and ARMED stations
change. -/
theorem State.arbiterOnly_work (s : State) (l : LaneNo) :
    State.ArbiterOnly l (fun u => s.armedStation l = some u ∨
      (s.laneOf u = l ∧ (s.station u).state = .loaded)) s (s.work l) := by
  unfold State.work
  split
  · rename_i st hst
    have h1 := State.arbiterOnly_workAndTest s l st
    have hp : (s.workAndTest l st).planNow = s.planNow :=
      congrArg Steady.planNow (State.steady_workAndTest s l st)
    refine (h1.mono ?_).trans ((State.arbiterOnly_decideGrant _ l).mono ?_)
    · rintro u rfl; exact Or.inl hst
    · rintro u ⟨hu1, hu2⟩
      rw [State.laneOf_of_kept hp] at hu1
      by_cases hus : u = st
      · subst hus; exact Or.inl hst
      · rw [h1.2.2 u hus] at hu2
        exact Or.inr ⟨hu1, hu2⟩
  · exact State.ArbiterOnly.refl _ _ _

end Sys2Proof.Machine
end

