-- ==== Sys2Proof/Laws/Kept.lean ====
section
/-!
SUPPORT. What no internal operation of the blocks touches: the counters of the field path, the
parameters and the class table, the inputs, the link, the reset and the waiting commands. Only the
command that owns one of these changes it.
-/

namespace Sys2Proof.Machine

/-- The fields no internal operation writes. -/
structure Kept where
  travel : Pos
  residual : Nat
  gateCount : Nat
  speed : Nat
  emptyGate : Bool
  gateLeft : Nat
  params : LineParams
  classes : Vector ClassEntry 16
  estop : Bool
  estopHold : Option Nat
  inputs : Inputs
  link : Link
  resetPhase : ResetPhase
  pending : List Instr

def State.kept (s : State) : Kept :=
  { travel := s.travel, residual := s.residual, gateCount := s.gateCount, speed := s.speed,
    emptyGate := s.emptyGate, gateLeft := s.gateLeft, params := s.params, classes := s.classes,
    estop := s.estop, estopHold := s.estopHold, inputs := s.inputs, link := s.link,
    resetPhase := s.resetPhase, pending := s.pending }

@[simp] theorem State.kept_draw (s : State) (n : Nat) : (s.draw n).2.kept = s.kept := by
  rcases s.draw_two n with h | h <;> rw [h]
  rfl

/-! ### Ops -/

@[simp] theorem State.kept_setLane (s : State) (l : LaneNo) (x : Lane) :
    (s.setLane l x).kept = s.kept := rfl

@[simp] theorem State.kept_modLane (s : State) (l : LaneNo) (f : Lane → Lane) :
    (s.modLane l f).kept = s.kept := rfl

@[simp] theorem State.kept_setStation (s : State) (st : StationNo) (x : Station) :
    (s.setStation st x).kept = s.kept := rfl

@[simp] theorem State.kept_modStation (s : State) (st : StationNo) (f : Station → Station) :
    (s.modStation st f).kept = s.kept := rfl

@[simp] theorem State.kept_setEye (s : State) (l : LaneNo) (k : EyeNo) (e : Eye) :
    (s.setEye l k e).kept = s.kept := rfl

@[simp] theorem State.kept_setQueue (s : State) (l : LaneNo) (q : List Record) :
    (s.setQueue l q).kept = s.kept := rfl

@[simp] theorem State.kept_modRecord (s : State) (l : LaneNo) (tag : Nat) (f : Record → Record) :
    (s.modRecord l tag f).kept = s.kept := rfl

@[simp] theorem State.kept_refreshAttn (s : State) :
    s.refreshAttn.kept = s.kept := rfl

@[simp] theorem State.kept_offer (s : State) (r : Report) :
    (s.offer r).kept = s.kept := by
  unfold State.offer
  split <;> rfl

@[simp] theorem State.kept_applyAlarmRule (s : State) :
    s.applyAlarmRule.kept = s.kept := rfl

@[simp] theorem State.kept_leaveOpen (s : State) (l : LaneNo) (a : LaneState) :
    (s.leaveOpen l a).kept = s.kept := by
  unfold State.leaveOpen
  (repeat' split) <;> simp

@[simp] theorem State.kept_haltLane (s : State) (l : LaneNo) :
    (s.haltLane l).kept = s.kept := by
  simp [State.haltLane]

@[simp] theorem State.kept_haltEvery (s : State) :
    s.haltEvery.kept = s.kept := by
  exact forEach_const State.kept (by simp) _ _

@[simp] theorem State.kept_haltFor (s : State) (src : Source) :
    (s.haltFor src).kept = s.kept := by
  unfold State.haltFor
  split <;> simp

@[simp] theorem State.kept_assertLines (s : State) (src : Source) :
    (s.assertLines src).kept = s.kept := by
  unfold State.assertLines
  split <;> rfl

@[simp] theorem State.kept_occur (s : State) (src : Source) (c : Nat) :
    (s.occur src c).kept = s.kept := by
  simp [State.occur]
  rfl

/-! ### Pool and arbiters -/

@[simp] theorem State.kept_countTag (s : State) (r : Record) :
    (s.countTag r).kept = s.kept := rfl

@[simp] theorem State.kept_joinTail (s : State) (l : LaneNo) (r : Record) :
    (s.joinTail l r).kept = s.kept := rfl

@[simp] theorem State.kept_joinForeign (s : State) (l : LaneNo) (r : Record) :
    (s.joinForeign l r).kept = s.kept := rfl

@[simp] theorem State.kept_dropRecord (s : State) (l : LaneNo) (tag : Nat) :
    (s.dropRecord l tag).kept = s.kept := rfl

@[simp] theorem State.kept_releaseOf (s : State) (l : LaneNo) (st : StationNo) (b : Batch) :
    (s.releaseOf l st b).kept = s.kept := by
  simp [State.releaseOf]

@[simp] theorem State.kept_releaseStep (s : State) (l : LaneNo) (st : StationNo) :
    (s.releaseStep l st).kept = s.kept := by
  unfold State.releaseStep
  split <;> simp

@[simp] theorem State.kept_grantTo (s : State) (l : LaneNo) (st : StationNo) :
    (s.grantTo l st).kept = s.kept := rfl

@[simp] theorem State.kept_workPoint (s : State) (l : LaneNo) (st : StationNo) :
    (s.workPoint l st).kept = s.kept := rfl

@[simp] theorem State.kept_releaseIfMet (s : State) (l : LaneNo) (st : StationNo) :
    (s.releaseIfMet l st).kept = s.kept := by
  unfold State.releaseIfMet
  split <;> simp

@[simp] theorem State.kept_workAndTest (s : State) (l : LaneNo) (st : StationNo) :
    (s.workAndTest l st).kept = s.kept := by
  simp [State.workAndTest]

@[simp] theorem State.kept_decideUpTo (s : State) (l : LaneNo) (n : Nat) :
    (s.decideUpTo l n).kept = s.kept := by
  induction n generalizing s with
  | zero => rfl
  | succ n ih =>
    unfold State.decideUpTo
    split <;> simp [ih]

@[simp] theorem State.kept_decideGrant (s : State) (l : LaneNo) :
    (s.decideGrant l).kept = s.kept := by
  simp [State.decideGrant]

@[simp] theorem State.kept_work (s : State) (l : LaneNo) :
    (s.work l).kept = s.kept := by
  unfold State.work
  split <;> simp

@[simp] theorem State.kept_testRelease (s : State) (l : LaneNo) :
    (s.testRelease l).kept = s.kept := by
  unfold State.testRelease
  split <;> simp

@[simp] theorem State.kept_armHolder (s : State) (l : LaneNo) (st : StationNo) :
    (s.armHolder l st).kept = s.kept := by
  simp [State.armHolder]

@[simp] theorem State.kept_giveBack (s : State) (st : StationNo) :
    (s.giveBack st).kept = s.kept := by
  unfold State.giveBack
  split <;> simp

@[simp] theorem State.kept_resetOrders (s : State) :
    s.resetOrders.kept = s.kept := by
  exact forEach_const State.kept (by simp) _ _

/-! ### Stations -/

@[simp] theorem State.kept_testHold (s : State) (st : StationNo) :
    (s.testHold st).kept = s.kept := by
  unfold State.testHold
  split <;> simp

@[simp] theorem State.kept_enterWaiting (s : State) (st : StationNo) :
    (s.enterWaiting st).kept = s.kept := by
  simp [State.enterWaiting]

@[simp] theorem State.kept_completeBatch (s : State) (st : StationNo) (c : Bool) :
    (s.completeBatch st c).kept = s.kept := by
  unfold State.completeBatch
  split <;> simp

@[simp] theorem State.kept_afterClampCycle (s : State) (st : StationNo) :
    (s.afterClampCycle st).kept = s.kept := by
  unfold State.afterClampCycle
  (repeat' split) <;> simp

@[simp] theorem State.kept_notice (s : State) (st : StationNo) (b : Nat) (d : Departure) :
    (s.notice st b d).kept = s.kept := by
  unfold State.notice
  (repeat' split) <;> simp

@[simp] theorem State.kept_noticeOf (s : State) (r : Record) (d : Departure) :
    (s.noticeOf r d).kept = s.kept := by
  unfold State.noticeOf
  split <;> simp

@[simp] theorem State.kept_pedal (s : State) (st : StationNo) :
    (s.pedal st).kept = s.kept := by
  unfold State.pedal
  (repeat' split) <;> simp

@[simp] theorem State.kept_openTimeOver (s : State) (st : StationNo) :
    (s.openTimeOver st).kept = s.kept := by
  unfold State.openTimeOver
  split <;> simp

@[simp] theorem State.kept_dwellOver (s : State) (st : StationNo) :
    (s.dwellOver st).kept = s.kept := by
  unfold State.dwellOver
  split <;> simp

@[simp] theorem State.kept_returnTimeOver (s : State) (st : StationNo) :
    (s.returnTimeOver st).kept = s.kept := by
  unfold State.returnTimeOver
  split <;> simp

@[simp] theorem State.kept_stopStation (s : State) (st : StationNo) :
    (s.stopStation st).kept = s.kept := by
  unfold State.stopStation
  split <;> simp

@[simp] theorem State.kept_stopStations (s : State) :
    s.stopStations.kept = s.kept := by
  unfold State.stopStations
  rw [inFreeOrder_const State.kept (by simp) (by simp)]
  exact forEach_const State.kept (by simp) _ _

/-! ### Delivery -/

@[simp] theorem State.kept_evalGuard (s : State) :
    s.evalGuard.kept = s.kept := rfl

@[simp] theorem State.kept_modFolder (s : State) (l : LaneNo) (f : Folder → Folder) :
    (s.modFolder l f).kept = s.kept := rfl

@[simp] theorem State.kept_foldArrival (s : State) (l : LaneNo) (c : FoldCommand) :
    (s.foldArrival l c).kept = s.kept := by
  unfold State.foldArrival
  split <;> simp

@[simp] theorem State.kept_emptyFolder (s : State) (l : LaneNo) :
    (s.emptyFolder l).kept = s.kept := rfl

@[simp] theorem State.kept_abortFolder (s : State) (l : LaneNo) :
    (s.abortFolder l).kept = s.kept := by
  exact forEach_const State.kept (by simp) _ _

@[simp] theorem State.kept_modStacker (s : State) (l : LaneNo) (f : Stacker → Stacker) :
    (s.modStacker l f).kept = s.kept := rfl

@[simp] theorem State.kept_beginDischarge (s : State) (l : LaneNo) (r : StackReason) (p : Option PocketPiece) :
    (s.beginDischarge l r p).kept = s.kept := by
  unfold State.beginDischarge
  split <;> simp

@[simp] theorem State.kept_putPile (s : State) (l : LaneNo) (p : Pile) :
    (s.putPile l p).kept = s.kept := by
  unfold State.putPile
  split <;> simp

@[simp] theorem State.kept_startPile (s : State) (l : LaneNo) (p : PocketPiece) :
    (s.startPile l p).kept = s.kept := by
  unfold State.startPile
  split <;> simp

@[simp] theorem State.kept_stackGood (s : State) (l : LaneNo) (b : Nat) (c : ClassNo) :
    (s.stackGood l b c).2.kept = s.kept := by
  unfold State.stackGood
  (repeat' split) <;> simp

@[simp] theorem State.kept_receivePiece (s : State) (l : LaneNo) (r : Record) :
    (s.receivePiece l r).2.kept = s.kept := by
  unfold State.receivePiece
  split <;> simp

@[simp] theorem State.kept_askDischarge (s : State) (l : LaneNo) :
    (s.askDischarge l).kept = s.kept := by
  unfold State.askDischarge
  split <;> simp

@[simp] theorem State.kept_trackTest (s : State) :
    s.trackTest.kept = s.kept := by
  unfold State.trackTest
  split
  · exact forEach_const State.kept (by simp) _ _
  · rfl

@[simp] theorem State.kept_openPlan (s : State) (p : PlanCode) :
    (s.openPlan p).kept = s.kept := by
  exact forEach_const State.kept (fun l t => t.kept_modLane l _) _ _

@[simp] theorem State.kept_completeChange (s : State) (p : PlanPair) :
    (s.completeChange p).kept = s.kept := by
  simp [State.completeChange]
  rfl

@[simp] theorem State.kept_stackTest (s : State) :
    s.stackTest.kept = s.kept := by
  unfold State.stackTest
  (repeat' split) <;> simp

@[simp] theorem State.kept_planTest (s : State) :
    s.planTest.kept = s.kept := by
  simp [State.planTest]

@[simp] theorem State.kept_clearStack (s : State) (l : LaneNo) :
    (s.clearStack l).kept = s.kept := by
  unfold State.clearStack
  (repeat' split) <;> simp

@[simp] theorem State.kept_stackerTimedOut (s : State) (l : LaneNo) :
    (s.stackerTimedOut l).kept = s.kept := by
  unfold State.stackerTimedOut
  split <;> simp

/-! ### Tracker -/

@[simp] theorem State.kept_markMerged (s : State) (l : LaneNo) (c : LostCause) :
    (s.markMerged l c).kept = s.kept := by
  unfold State.markMerged
  split <;> simp

@[simp] theorem State.kept_lossOccurrence (s : State) (l : LaneNo) (r : Record) (c : LostCause) :
    (s.lossOccurrence l r c).kept = s.kept := by
  unfold State.lossOccurrence
  (repeat' split) <;> simp

@[simp] theorem State.kept_loseRecord (s : State) (l : LaneNo) (r : Record) (c : LostCause) :
    (s.loseRecord l r c).kept = s.kept := by
  simp [State.loseRecord]

@[simp] theorem State.kept_expireFor (s : State) (l : LaneNo) (tag : Nat)
    (due : Record → Option LostCause) : (s.expireFor l tag due).kept = s.kept := by
  unfold State.expireFor
  (repeat' split) <;> simp

@[simp] theorem State.kept_expireIfDue (s : State) (l : LaneNo) (tag : Nat) :
    (s.expireIfDue l tag).kept = s.kept :=
  s.kept_expireFor l tag _

@[simp] theorem State.kept_expireIfSetPast (s : State) (l : LaneNo) (tag : Nat) :
    (s.expireIfSetPast l tag).kept = s.kept :=
  s.kept_expireFor l tag _

@[simp] theorem State.kept_workIf (s : State) (l : LaneNo) (y : Bool) :
    (s.workIf l y).kept = s.kept := by
  unfold State.workIf
  split <;> simp

@[simp] theorem State.kept_matchEntry (s : State) (l : LaneNo) (r : Record) (x : Pos) :
    (s.matchEntry l r x).kept = s.kept := by
  simp [State.matchEntry]

@[simp] theorem State.kept_foreignSheet (s : State) (l : LaneNo) (x : Pos) :
    (s.foreignSheet l x).kept = s.kept := by
  unfold State.foreignSheet
  split <;> simp

@[simp] theorem State.kept_entryLeading (s : State) (l : LaneNo) (x : Pos) :
    (s.entryLeading l x).kept = s.kept := by
  unfold State.entryLeading
  (repeat' split) <;> simp

@[simp] theorem State.kept_entryTrailing (s : State) (l : LaneNo) (x : Pos) :
    (s.entryTrailing l x).kept = s.kept := by
  unfold State.entryTrailing
  (repeat' split) <;> simp

@[simp] theorem State.kept_matchE1 (s : State) (l : LaneNo) (r : Record) :
    (s.matchE1 l r).kept = s.kept := by
  simp [State.matchE1]

@[simp] theorem State.kept_matchE2 (s : State) (l : LaneNo) (r : Record) :
    (s.matchE2 l r).kept = s.kept := by
  simp [State.matchE2]

@[simp] theorem State.kept_matchE3 (s : State) (l : LaneNo) (r : Record) (x : Pos) :
    (s.matchE3 l r x).kept = s.kept := by
  simp [State.matchE3]

@[simp] theorem State.kept_retire (s : State) (l : LaneNo) (r : Record) :
    (s.retire l r).kept = s.kept := by
  simp [State.retire]

@[simp] theorem State.kept_stackTrailing (s : State) (l : LaneNo) :
    (s.stackTrailing l).kept = s.kept := by
  unfold State.stackTrailing
  split <;> simp

theorem State.kept_eyeLeading (s : State) (l : LaneNo) (k : EyeNo) (eye : NextEye) (x : Pos)
    (hit : Record → State) (h : ∀ r, (hit r).kept = s.kept) :
    (s.eyeLeading l k eye x hit).kept = s.kept := by
  unfold State.eyeLeading
  (repeat' split) <;> simp [h]

@[simp] theorem State.kept_takeEdge (s : State) (l : LaneNo) (k : EyeNo) (e : Bool) (x : Pos) :
    (s.takeEdge l k e x).kept = s.kept := by
  unfold State.takeEdge
  (repeat' split) <;> simp [State.kept_eyeLeading]

@[simp] theorem State.kept_purgeLane (s : State) (l : LaneNo) :
    (s.purgeLane l).kept = s.kept := by
  simp [State.purgeLane, forEach_const State.kept]

/-! ### Field -/

@[simp] theorem State.kept_deliver (s : State) (l : LaneNo) (k : EyeNo) (e : Bool) (x : Pos) :
    (s.deliver l k e x).kept = s.kept := by
  unfold State.deliver
  split <;> simp

@[simp] theorem State.kept_acceptChange (s : State) (l : LaneNo) (k : EyeNo) (x : Pos) :
    (s.acceptChange l k x).kept = s.kept := by
  simp [State.acceptChange]

@[simp] theorem State.kept_acceptIfDue (s : State) (l : LaneNo) (k : EyeNo) :
    (s.acceptIfDue l k).kept = s.kept := by
  unfold State.acceptIfDue
  (repeat' split) <;> simp

@[simp] theorem State.kept_rawChange (s : State) (l : LaneNo) (k : EyeNo) (c : Bool) :
    (s.rawChange l k c).kept = s.kept := by
  unfold State.rawChange
  (repeat' split) <;> simp

end Sys2Proof.Machine
end

