-- ==== Sys2Proof/Laws/Lines.lean ====
section
/-!
SUPPORT. What makes no alarm occurrence leaves the alarm unit, LINE_HOLD and ROLL_LIFT as they are.
-/

namespace Sys2Proof.Machine

/-- The alarm unit and the two line outputs that follow its latches. -/
structure Lines where
  alarms : Alarms
  lineHold : Bool
  rollLift : Bool

def State.lines (s : State) : Lines :=
  { alarms := s.alarms, lineHold := s.lineHold, rollLift := s.rollLift }

@[simp] theorem State.lines_draw (s : State) (n : Nat) : (s.draw n).2.lines = s.lines := by
  rcases s.draw_two n with h | h <;> rw [h]
  rfl

/-! ### Ops -/

@[simp] theorem State.lines_setLane (s : State) (l : LaneNo) (x : Lane) :
    (s.setLane l x).lines = s.lines := rfl

@[simp] theorem State.lines_modLane (s : State) (l : LaneNo) (f : Lane → Lane) :
    (s.modLane l f).lines = s.lines := rfl

@[simp] theorem State.lines_setStation (s : State) (st : StationNo) (x : Station) :
    (s.setStation st x).lines = s.lines := rfl

@[simp] theorem State.lines_modStation (s : State) (st : StationNo) (f : Station → Station) :
    (s.modStation st f).lines = s.lines := rfl

@[simp] theorem State.lines_setEye (s : State) (l : LaneNo) (k : EyeNo) (e : Eye) :
    (s.setEye l k e).lines = s.lines := rfl

@[simp] theorem State.lines_setQueue (s : State) (l : LaneNo) (q : List Record) :
    (s.setQueue l q).lines = s.lines := rfl

@[simp] theorem State.lines_modRecord (s : State) (l : LaneNo) (tag : Nat) (f : Record → Record) :
    (s.modRecord l tag f).lines = s.lines := rfl

@[simp] theorem State.lines_refreshAttn (s : State) :
    s.refreshAttn.lines = s.lines := rfl

@[simp] theorem State.lines_offer (s : State) (r : Report) :
    (s.offer r).lines = s.lines := by
  unfold State.offer
  split <;> rfl

@[simp] theorem State.lines_leaveOpen (s : State) (l : LaneNo) (a : LaneState) :
    (s.leaveOpen l a).lines = s.lines := by
  unfold State.leaveOpen
  (repeat' split) <;> simp

@[simp] theorem State.lines_haltLane (s : State) (l : LaneNo) :
    (s.haltLane l).lines = s.lines := by
  simp [State.haltLane]

@[simp] theorem State.lines_haltEvery (s : State) :
    s.haltEvery.lines = s.lines := by
  exact forEach_const State.lines (by simp) _ _

/-! ### Pool and arbiters -/

@[simp] theorem State.lines_countTag (s : State) (r : Record) :
    (s.countTag r).lines = s.lines := rfl

@[simp] theorem State.lines_joinTail (s : State) (l : LaneNo) (r : Record) :
    (s.joinTail l r).lines = s.lines := rfl

@[simp] theorem State.lines_joinForeign (s : State) (l : LaneNo) (r : Record) :
    (s.joinForeign l r).lines = s.lines := rfl

@[simp] theorem State.lines_dropRecord (s : State) (l : LaneNo) (tag : Nat) :
    (s.dropRecord l tag).lines = s.lines := rfl

@[simp] theorem State.lines_releaseOf (s : State) (l : LaneNo) (st : StationNo) (b : Batch) :
    (s.releaseOf l st b).lines = s.lines := rfl

@[simp] theorem State.lines_releaseStep (s : State) (l : LaneNo) (st : StationNo) :
    (s.releaseStep l st).lines = s.lines := by
  unfold State.releaseStep
  split <;> simp

@[simp] theorem State.lines_grantTo (s : State) (l : LaneNo) (st : StationNo) :
    (s.grantTo l st).lines = s.lines := rfl

@[simp] theorem State.lines_workPoint (s : State) (l : LaneNo) (st : StationNo) :
    (s.workPoint l st).lines = s.lines := rfl

@[simp] theorem State.lines_releaseIfMet (s : State) (l : LaneNo) (st : StationNo) :
    (s.releaseIfMet l st).lines = s.lines := by
  unfold State.releaseIfMet
  split <;> simp

@[simp] theorem State.lines_workAndTest (s : State) (l : LaneNo) (st : StationNo) :
    (s.workAndTest l st).lines = s.lines := by
  simp [State.workAndTest]

@[simp] theorem State.lines_decideUpTo (s : State) (l : LaneNo) (n : Nat) :
    (s.decideUpTo l n).lines = s.lines := by
  induction n generalizing s with
  | zero => rfl
  | succ n ih =>
    unfold State.decideUpTo
    split <;> simp [ih]

@[simp] theorem State.lines_decideGrant (s : State) (l : LaneNo) :
    (s.decideGrant l).lines = s.lines := by
  simp [State.decideGrant]

@[simp] theorem State.lines_work (s : State) (l : LaneNo) :
    (s.work l).lines = s.lines := by
  unfold State.work
  split <;> simp

@[simp] theorem State.lines_testRelease (s : State) (l : LaneNo) :
    (s.testRelease l).lines = s.lines := by
  unfold State.testRelease
  split <;> simp

@[simp] theorem State.lines_armHolder (s : State) (l : LaneNo) (st : StationNo) :
    (s.armHolder l st).lines = s.lines := by
  simp [State.armHolder]

@[simp] theorem State.lines_giveBack (s : State) (st : StationNo) :
    (s.giveBack st).lines = s.lines := by
  unfold State.giveBack
  split <;> simp

@[simp] theorem State.lines_resetOrders (s : State) :
    s.resetOrders.lines = s.lines := by
  exact forEach_const State.lines (fun l t => t.lines_modLane l _) _ _

/-! ### Stations -/

@[simp] theorem State.lines_testHold (s : State) (st : StationNo) :
    (s.testHold st).lines = s.lines := by
  unfold State.testHold
  split <;> simp

@[simp] theorem State.lines_enterWaiting (s : State) (st : StationNo) :
    (s.enterWaiting st).lines = s.lines := by
  simp [State.enterWaiting]

@[simp] theorem State.lines_completeBatch (s : State) (st : StationNo) (c : Bool) :
    (s.completeBatch st c).lines = s.lines := by
  unfold State.completeBatch
  split <;> simp

@[simp] theorem State.lines_afterClampCycle (s : State) (st : StationNo) :
    (s.afterClampCycle st).lines = s.lines := by
  unfold State.afterClampCycle
  (repeat' split) <;> simp

@[simp] theorem State.lines_notice (s : State) (st : StationNo) (b : Nat) (d : Departure) :
    (s.notice st b d).lines = s.lines := by
  unfold State.notice
  (repeat' split) <;> simp

@[simp] theorem State.lines_noticeOf (s : State) (r : Record) (d : Departure) :
    (s.noticeOf r d).lines = s.lines := by
  unfold State.noticeOf
  split <;> simp

@[simp] theorem State.lines_pedal (s : State) (st : StationNo) :
    (s.pedal st).lines = s.lines := by
  unfold State.pedal
  (repeat' split) <;> simp

@[simp] theorem State.lines_openTimeOver (s : State) (st : StationNo) :
    (s.openTimeOver st).lines = s.lines := by
  unfold State.openTimeOver
  split <;> simp

@[simp] theorem State.lines_dwellOver (s : State) (st : StationNo) :
    (s.dwellOver st).lines = s.lines := by
  unfold State.dwellOver
  split <;> simp

@[simp] theorem State.lines_returnTimeOver (s : State) (st : StationNo) :
    (s.returnTimeOver st).lines = s.lines := by
  unfold State.returnTimeOver
  split <;> simp

@[simp] theorem State.lines_stopStation (s : State) (st : StationNo) :
    (s.stopStation st).lines = s.lines := by
  unfold State.stopStation
  split <;> simp

@[simp] theorem State.lines_stopStations (s : State) :
    s.stopStations.lines = s.lines := by
  unfold State.stopStations
  rw [inFreeOrder_const State.lines (by simp) (by simp)]
  exact forEach_const State.lines (by simp) _ _

/-! ### Delivery -/

@[simp] theorem State.lines_evalGuard (s : State) :
    s.evalGuard.lines = s.lines := rfl

@[simp] theorem State.lines_modFolder (s : State) (l : LaneNo) (f : Folder → Folder) :
    (s.modFolder l f).lines = s.lines := rfl

@[simp] theorem State.lines_emptyFolder (s : State) (l : LaneNo) :
    (s.emptyFolder l).lines = s.lines := rfl

@[simp] theorem State.lines_abortFolder (s : State) (l : LaneNo) :
    (s.abortFolder l).lines = s.lines := by
  exact forEach_const State.lines (by simp) _ _

@[simp] theorem State.lines_modStacker (s : State) (l : LaneNo) (f : Stacker → Stacker) :
    (s.modStacker l f).lines = s.lines := rfl

@[simp] theorem State.lines_beginDischarge (s : State) (l : LaneNo) (r : StackReason) (p : Option PocketPiece) :
    (s.beginDischarge l r p).lines = s.lines := by
  unfold State.beginDischarge
  split <;> simp

@[simp] theorem State.lines_putPile (s : State) (l : LaneNo) (p : Pile) :
    (s.putPile l p).lines = s.lines := by
  unfold State.putPile
  split <;> simp

@[simp] theorem State.lines_startPile (s : State) (l : LaneNo) (p : PocketPiece) :
    (s.startPile l p).lines = s.lines := by
  unfold State.startPile
  split <;> simp

@[simp] theorem State.lines_askDischarge (s : State) (l : LaneNo) :
    (s.askDischarge l).lines = s.lines := by
  unfold State.askDischarge
  split <;> simp

@[simp] theorem State.lines_trackTest (s : State) :
    s.trackTest.lines = s.lines := by
  unfold State.trackTest
  split
  · exact forEach_const State.lines (by simp) _ _
  · rfl

@[simp] theorem State.lines_openPlan (s : State) (p : PlanCode) :
    (s.openPlan p).lines = s.lines := rfl

@[simp] theorem State.lines_completeChange (s : State) (p : PlanPair) :
    (s.completeChange p).lines = s.lines := by
  simp [State.completeChange]
  rfl

@[simp] theorem State.lines_stackTest (s : State) :
    s.stackTest.lines = s.lines := by
  unfold State.stackTest
  (repeat' split) <;> simp

@[simp] theorem State.lines_planTest (s : State) :
    s.planTest.lines = s.lines := by
  simp [State.planTest]

@[simp] theorem State.lines_clearStack (s : State) (l : LaneNo) :
    (s.clearStack l).lines = s.lines := by
  unfold State.clearStack
  (repeat' split) <;> simp

@[simp] theorem State.lines_markMerged (s : State) (l : LaneNo) (c : LostCause) :
    (s.markMerged l c).lines = s.lines := by
  unfold State.markMerged
  split <;> simp

@[simp] theorem State.lines_workIf (s : State) (l : LaneNo) (y : Bool) :
    (s.workIf l y).lines = s.lines := by
  unfold State.workIf
  split <;> simp

end Sys2Proof.Machine
end

