-- ==== Sys2Proof/Laws/PerInstr.lean ====
section
/-!
SUPPORT. Statements made of every command, one lemma a command: the body of a request's frame has the
length its code requires (R186).
-/

namespace Sys2Proof.Laws.RequestLength

/-- The frame of a request has a body of the length its code requires. -/
def Statement (i : Instr) : Prop :=
  ∀ (code : Byte) (body : List Byte), requestFrame i = some (code, body) →
    bodyLength code = some body.length

theorem of_none {i : Instr} (h : requestFrame i = none) : Statement i := by
  intro code body hc
  rw [h] at hc
  cases hc

theorem of_some {i : Instr} {code : Byte} {body : List Byte}
    (h : requestFrame i = some (code, body)) (hl : bodyLength code = some body.length) :
    Statement i := by
  intro code' body' hc
  rw [h] at hc
  cases hc
  exact hl

theorem resetPin : Statement .resetPin := of_none rfl

theorem resetPinRelease : Statement .resetPinRelease := of_none rfl

theorem resetEnd : Statement .resetEnd := of_none rfl

theorem encPulse : Statement .encPulse := of_none rfl

theorem travelAdvance : Statement .travelAdvance := of_none rfl

theorem gateEnd : Statement .gateEnd := of_none rfl

theorem eyeRawChange (lane : LaneNo) (eye : EyeNo) (covered : Bool) :
    Statement (.eyeRawChange lane eye covered) := of_none rfl

theorem edgeAccepted (lane : LaneNo) (eye : EyeNo) :
    Statement (.edgeAccepted lane eye) := of_none rfl

theorem deadlinePass (tag : BitVec 16) : Statement (.deadlinePass tag) := of_none rfl

theorem runHoldExpiry (station : StationNo) : Statement (.runHoldExpiry station) := of_none rfl

theorem release (lane : LaneNo) : Statement (.release lane) := of_none rfl

theorem pedalEdge (station : StationNo) : Statement (.pedalEdge station) := of_none rfl

theorem openTimeExpiry (station : StationNo) : Statement (.openTimeExpiry station) := of_none rfl

theorem dwellExpiry (station : StationNo) : Statement (.dwellExpiry station) := of_none rfl

theorem returnTimeExpiry (station : StationNo) :
    Statement (.returnTimeExpiry station) := of_none rfl

theorem foldStrobeEnd (lane : LaneNo) : Statement (.foldStrobeEnd lane) := of_none rfl

theorem foldGapEnd (lane : LaneNo) : Statement (.foldGapEnd lane) := of_none rfl

theorem clearEdge (lane : LaneNo) : Statement (.clearEdge lane) := of_none rfl

theorem stackerTimeout (lane : LaneNo) : Statement (.stackerTimeout lane) := of_none rfl

theorem scorchTimerExpiry : Statement .scorchTimerExpiry := of_none rfl

theorem estopActivation : Statement .estopActivation := of_none rfl

theorem estopInactiveEdge : Statement .estopInactiveEdge := of_none rfl

theorem estopDeactivation : Statement .estopDeactivation := of_none rfl

theorem linkCharacter (bits : BitVec 11) : Statement (.linkCharacter bits) := of_none rfl

theorem linkBreak : Statement .linkBreak := of_none rfl

theorem frameGapTimeout : Statement .frameGapTimeout := of_none rfl

theorem replyStart : Statement .replyStart := of_none rfl

theorem replyEnd : Statement .replyEnd := of_none rfl

theorem poll : Statement .poll := of_some rfl rfl

theorem reportFetch (max : Byte) : Statement (.reportFetch max) := of_some rfl rfl

theorem sheetsRead (lane start : Byte) : Statement (.sheetsRead lane start) := of_some rfl rfl

theorem stationRead (station : Byte) : Statement (.stationRead station) := of_some rfl rfl

theorem laneRead (lane : Byte) : Statement (.laneRead lane) := of_some rfl rfl

theorem alarmRead : Statement .alarmRead := of_some rfl rfl

theorem classSet (o : ClassOperands) : Statement (.classSet o) := of_some rfl rfl

theorem stationSet (o : StationOperands) : Statement (.stationSet o) := of_some rfl rfl

theorem geometrySet (o : GeometryOperands) : Statement (.geometrySet o) := of_some rfl rfl

theorem lineSet (o : LineOperands) : Statement (.lineSet o) := of_some rfl rfl

theorem planSet (o : PlanOperands) : Statement (.planSet o) := of_some rfl rfl

theorem alarmSet (kind mask level : Byte) : Statement (.alarmSet kind mask level) := of_some rfl rfl

theorem batchLoad (o : BatchOperands) : Statement (.batchLoad o) := of_some rfl rfl

theorem batchCancelNext (station : Byte) : Statement (.batchCancelNext station) := of_some rfl rfl

theorem batchCancelCurrent (station : Byte) :
    Statement (.batchCancelCurrent station) := of_some rfl rfl

theorem laneCmdResume (lane : Byte) : Statement (.laneCmdResume lane) := of_some rfl rfl

theorem laneCmdHalt (lane : Byte) : Statement (.laneCmdHalt lane) := of_some rfl rfl

theorem laneCmdPurge (lane : Byte) : Statement (.laneCmdPurge lane) := of_some rfl rfl

theorem laneCmdFlush (lane : Byte) : Statement (.laneCmdFlush lane) := of_some rfl rfl

theorem haltAll (broadcast : Bool) : Statement (.haltAll broadcast) := by
  cases broadcast
  · exact of_some rfl (by decide)
  · exact of_none rfl

theorem alarmAck (kind index : Byte) : Statement (.alarmAck kind index) := of_some rfl rfl

theorem rejectMark (tag : BitVec 16) : Statement (.rejectMark tag) := of_some rfl rfl

theorem unitReset (broadcast : Bool) : Statement (.unitReset broadcast) := by
  cases broadcast
  · exact of_some rfl (by decide)
  · exact of_none rfl

theorem lineRestedHigh : Statement .lineRestedHigh := of_none rfl

end Sys2Proof.Laws.RequestLength
end

