-- ==== Sys2Proof/Laws/Requests.lean ====
section
/-!
SUPPORT. What becomes of a request, said once: discarded, not taken, or answered; and what operands
name and clamp to.
-/

namespace Sys2Proof.Machine

variable (s : State) (code : Byte)

/-! ### A request (R175, R177) -/

theorem State.request_ready {s : State} (h : s.Ready) (f : State → Answer) :
    s.request code f = State.respond code (f s) := by
  obtain ⟨h1, h2, h3⟩ := h
  unfold State.request
  rw [if_pos ⟨by simp [State.isRunning, h1], h2⟩, h3]

theorem State.request_pending {s : State} {r : Reply} (h1 : s.resetPhase = .running)
    (h2 : s.link.address ≠ 0) (h3 : s.link.reply = some r) (f : State → Answer) :
    s.request code f = s.discardRequest := by
  unfold State.request
  rw [if_pos ⟨by simp [State.isRunning, h1], h2⟩, h3]

theorem State.request_ignored {s : State} (h : s.resetPhase ≠ .running ∨ s.link.address = 0)
    (f : State → Answer) : s.request code f = s := by
  unfold State.request
  apply if_neg
  rcases h with h | h <;> simp [State.isRunning, h]

/-- A request is discarded, not taken, or answered; there is nothing else it can do. -/
theorem State.request_cases (f : State → Answer) :
    s.request code f = s.discardRequest ∨ s.request code f = s ∨
      (s.Ready ∧ s.request code f = State.respond code (f s)) := by
  by_cases h : s.resetPhase ≠ .running ∨ s.link.address = 0
  · exact Or.inr (Or.inl (State.request_ignored code h f))
  · simp only [not_or, not_not] at h
    cases hr : s.link.reply with
    | none => exact Or.inr (Or.inr ⟨⟨h.1, h.2, hr⟩, State.request_ready code ⟨h.1, h.2, hr⟩ f⟩)
    | some r => exact Or.inl (State.request_pending code h.1 h.2 hr f)

/-! ### Answers as replies (R176) -/

theorem State.respond_eq (a : Answer) :
    State.respond code a = a.state.answered code a.result a.data
      (decide (code = codeUnitReset) && decide (a.result = .ok)) := rfl

theorem State.respond_refuse {r : Result} (h : r ≠ .ok) :
    State.respond code (refuse r s) = s.answered code r [] false := by
  simp [State.respond_eq, refuse, h]

theorem State.respond_carryOut (h : code ≠ codeUnitReset) (c : Bool) (data : List Byte) :
    State.respond code (carryOut c data s) =
      s.answered code (if c then .clamped else .ok) data false := by
  simp [State.respond_eq, carryOut, h, doneResult]

theorem withOperand_some {α : Type} {x : Option α} {a : α} (h : x = some a) (f : α → Answer) :
    withOperand x s f = f a := by
  rw [h]
  rfl

theorem withOperand_none {α : Type} {x : Option α} (h : x = none) (f : α → Answer) :
    withOperand x s f = refuse .badValue s := by
  rw [h]
  rfl

/-! ### Operands (R31, R32) -/

theorem fourOperand_val {b : Byte} {i : Fin 4} (h : b.toNat = i.val) : fourOperand b = some i := by
  unfold fourOperand
  have hb : b.toNat < 4 := h ▸ i.isLt
  rw [dif_pos hb]
  exact congrArg some (Fin.ext h)

theorem fourOperand_none {b : Byte} (h : 4 ≤ b.toNat) : fourOperand b = none :=
  dif_neg (Nat.not_lt.mpr h)

theorem laneOperand_val {b : Byte} {l : LaneNo} (h : b.toNat = l.val) : laneOperand b = some l :=
  fourOperand_val h

theorem laneOperand_none {b : Byte} (h : 4 ≤ b.toNat) : laneOperand b = none := fourOperand_none h

theorem stationOperand_val {b : Byte} {st : StationNo} (h : b.toNat = st.val) :
    stationOperand b = some st :=
  fourOperand_val h

theorem stationOperand_none {b : Byte} (h : 4 ≤ b.toNat) : stationOperand b = none :=
  fourOperand_none h

theorem classOperand_val {b : Byte} {c : ClassNo} (h : b.toNat = c.val) (hc : c ≠ 0) :
    classOperand b = some c := by
  unfold classOperand
  have hb : b.toNat < 16 := h ▸ c.isLt
  have h0 : b ≠ 0 := by
    rintro rfl
    exact hc (Fin.ext h.symm)
  rw [dif_pos hb, if_neg h0]
  exact congrArg some (Fin.ext h)

theorem classOperand_none {b : Byte} (h : b.toNat = 0 ∨ 16 ≤ b.toNat) : classOperand b = none := by
  unfold classOperand
  rcases h with h | h
  · have h0 : b = 0 := BitVec.eq_of_toNat_eq h
    subst h0
    rfl
  · exact dif_neg (Nat.not_lt.mpr h)

/-- A clamped value lies in its range. -/
theorem clampTo_mem {lo hi : Nat} (h : lo ≤ hi) (x : Nat) :
    lo ≤ clampTo lo hi x ∧ clampTo lo hi x ≤ hi := by
  unfold clampTo
  omega

/-- A value in its range is taken as sent (R34). -/
theorem clampTo_of_mem {lo hi x : Nat} (h1 : lo ≤ x) (h2 : x ≤ hi) : clampTo lo hi x = x := by
  unfold clampTo
  omega

theorem needsClamp_iff (lo hi x : Nat) : needsClamp lo hi x = true ↔ x < lo ∨ hi < x := by
  simp [needsClamp]

/-- A value needs clamping exactly where clamping changes it. -/
theorem needsClamp_iff_ne {lo hi : Nat} (h : lo ≤ hi) (x : Nat) :
    needsClamp lo hi x = true ↔ clampTo lo hi x ≠ x := by
  rw [needsClamp_iff]
  unfold clampTo
  omega

end Sys2Proof.Machine
end

