-- ==== Sys2Proof/Tests/Slice0.lean ====
section
/-!
SUPPORT. Tests: what WellFormed and the decoder refuse, the worked examples of the spec, each one
step on a small state, and for every statement with hypotheses a witness, a concrete state and
operands that meet them.
-/

namespace Sys2Proof.Tests

open Sys2Proof.Machine

set_option Elab.async false

/-! ### Well-formedness and the table's words -/

theorem test_start_bit_high_is_refused : (Instr.linkCharacter 1).wellFormed = false := by decide

theorem test_character_with_low_start_bit_is_accepted :
    (Instr.linkCharacter (characterOf true 6)).wellFormed = true := by decide

/-- The opcode table gives its rows no bits, so no word spells a command. -/
theorem test_no_word_spells_a_command : decodeTableWord 16 0x1234 = none := by decide

/-! ### Small states

The line of section 4.8: plan P1, lane L0 OPEN with the geometry of section 2.3, Fe = 10, F = 1,000,
classes 1 and 2, station S2 with batch 415. -/

/-- The state a command leaves. -/
def after (c : Instr) (s : State) : State :=
  match exec c s with
  | .next t => t
  | _ => s

def king : ClassEntry :=
  { valid := true, lnom := 3000, tol := 60, leadGap := 400, trailGap := 300, width := .full,
    fold := 1, target := 20 }

def geometry : Geometry :=
  { pos1 := 9500, pos2 := 14000, pos3 := 17500, w0 := 150, w1 := 200, w2 := 250, w3 := 250 }

def batch415 : Batch := { id := 415, cls := 1, pieces := 20, remaining := 12, foldOverride := none }

/-- S2 in WAITING with batch 415. -/
def s2 : Station :=
  { Station.atReset with
    state := .waiting, current := some batch415,
    params := { Station.atReset.params with drop := 1800, openMs := 350 } }

/-- Tag 302, the king sheet S2 releases, as it waits for E0. -/
def awaited : Record :=
  { tag := 302, lane := 0, origin := some 2, batch := 415, cls := 1, lnom := 3000, tol := 60,
    trailGap := 300, fold := 1, releasePos := some 1207008, predLe0 := some 1209162, le0 := none,
    te0 := none, length := none, nextEye := .e0, le3 := none, cause := none, folded := false,
    deadline := 1209322, clearDeadline := none }

/-- Tag 302 on E0. -/
def entered : Record :=
  { awaited with predLe0 := none, le0 := some 1209170, nextEye := .e1, deadline := 1218880,
                 clearDeadline := some 1215180 }

/-- Tag 302 past E0, at a next eye with the deadline of that eye. -/
def past (eye : NextEye) (deadline : Pos) : Record :=
  { entered with te0 := some 1212195, length := some 3025, clearDeadline := none, nextEye := eye,
                 deadline := deadline }

/-- Tag 302 past E3. -/
def leaving : Record := { past .clear 1229985 with le3 := some 1226700, folded := true }

/-- Lane L0 with a queue. -/
def lane0 (queue : List Record) : Lane :=
  { Lane.atReset .opened [0, 1, 2, 3] (.fill false) with geometry := geometry, queue := queue }

/-- The line with a queue in L0, S2 as given, at a travel. -/
def line (queue : List Record) (x : Station) (travel : Pos) : State :=
  { State.reset with
    travel := travel, speed := 1000, emptyGate := false,
    params := { LineParams.atReset with fe := 10, gb := 1500 },
    classes := State.reset.classes.set 1 king,
    lanes := { State.reset.lanes with q0 := lane0 queue },
    stations := { State.reset.stations with q2 := x }, tagCounter := 302 }

/-- S2 with one record outstanding. -/
def s2Out : Station := { s2 with outstanding := 1 }

/-- An eye of L0 with a change that began at a position. -/
def change (k : EyeNo) (covered : Bool) (start : Pos) (s : State) : State :=
  s.setEye 0 k ⟨covered, !covered, some start⟩

/-! ### Travel and speed (sections 1.2 and 1.3) -/

theorem test_travel_wraps :
    (after .travelAdvance { State.reset with travel := 4294967295 }).travel = 0 := by
  decide +kernel

theorem test_pulse_counts_towards_a_millimetre :
    ((after .encPulse { State.reset with residual := 2 }).residual,
      (after .encPulse { State.reset with residual := 3 }).travel) = (3, 1) := by decide +kernel

/-- Section 1.2: across the wrap the deadline passes at 1,204 and not at 1,203. -/
theorem test_deadline_across_the_wrap :
    atOrPast 1203 (posAdd 4294966500 2000) = false ∧ atOrPast 1204 (posAdd 4294966500 2000) = true :=
  by decide

/-- Section 1.3: the gates of a stop and a restart. -/
theorem test_filtered_speed :
    ([(1000, 60, false), (870, 0, false), (653, 0, true), (0, 40, true), (80, 125, false),
        (310, 125, false), (1000, 255, false), (1793, 255, false)].map fun x =>
      State.filteredSpeed { State.reset with speed := x.1, gateCount := x.2.1, emptyGate := x.2.2 }) =
      [870, 653, 0, 80, 310, 483, 1260, 1855] := by decide

/-- Section 1.3: 1,793 to 1,855 crosses Vhi = 1,800; with IRONER_RUN inactive 653 to 0 is no
SPEED_LOW, with it active it is. -/
theorem test_speed_comparisons :
    (after .gateEnd { State.reset with
      speed := 1793, gateCount := 255, emptyGate := false,
      params := { LineParams.atReset with vhi := 1800 } }).alarms.current = some .speedHigh ∧
    ([false, true].map fun run =>
      (after .gateEnd { State.reset with
        speed := 653, params := { LineParams.atReset with vlo := 300 },
        inputs := { Inputs.atReset with ironerRun := run } }).alarms.latches.speedLow.latched) =
      [false, true] := by decide +kernel

/-! ### Classes (sections 2.1 and 6.4) -/

/-- Section 2.1: the limits of class 1, and of a class with Lnom 400 and tol 500. -/
theorem test_length_classes :
    ([2939, 2940, 3060, 3061, 4499, 4500].map awaited.lengthCause) =
      [some .short, none, none, some .long, some .long, some .double] ∧
    ([1, 599, 600].map { awaited with lnom := 400, tol := 500 }.lengthCause) =
      [none, none, some .double] := by decide

/-! ### Admission (section 4.8) -/

/-- Tag 301, the queen sheet ahead. -/
def queen301 : Record :=
  { awaited with
    tag := 301, origin := some 0, batch := 412, cls := 2, lnom := 2700, predLe0 := none,
    le0 := some 1204500, nextEye := .e1, deadline := 1214210, clearDeadline := some 1209910 }

theorem test_release_point_of_the_worked_admission :
    ((after (.pedalEdge 2) (line [queen301] s2 1205000)).lane 0).releasePoint = some 1207010 := by
  decide +kernel

/-- S2 ARMED before the gate that ends at 1,207,008. -/
def armedLine : State :=
  { line [queen301] { s2 with state := .armed } 1207008 with
    gateCount := 130,
    lanes := { State.reset.lanes with
      q0 := { lane0 [queen301] with grant := some 2, releasePoint := some 1207010 } } }

theorem test_release_at_the_speed_update :
    (after .gateEnd armedLine).queue 0 = [queen301, awaited] ∧
    (after .gateEnd armedLine).station 2 =
      { s2 with state := .opening, current := some { batch415 with remaining := 11 },
                outstanding := 1, timer := some 350, holdOrigin := 1207008, openOut := true } := by
  decide +kernel

/-! ### The life of tag 302 (section 5.5) -/

/-- The edges of E0: the match and its notice, the trailing edge, and a foreign sheet put ahead of the
awaited piece (section 6.3). -/
theorem test_edges_at_e0 :
    (after (.edgeAccepted 0 0)
      (change 0 true 1209170 (line [awaited] s2Out 1209180))).queue 0 = [entered] ∧
    ((after (.edgeAccepted 0 0)
      (change 0 true 1209170 (line [awaited] s2Out 1209180))).station 2).outstanding = 0 ∧
    (after (.edgeAccepted 0 0)
      (change 0 false 1212195 (line [entered] s2 1212205))).queue 0 = [past .e1 1218880] ∧
    ((after (.edgeAccepted 0 0)
      (change 0 true 1209011 (line [awaited] s2Out 1209021))).queue 0).map Record.tag =
      [303, 302] := by decide +kernel

/-- The edges past E0: the matches, the fold command and the retirement. -/
theorem test_edges_downstream :
    (after (.edgeAccepted 0 1)
      (change 1 true 1218690 (line [past .e1 1218880] s2 1218700))).queue 0 =
      [past .e2 1223430] ∧
    (after (.edgeAccepted 0 2)
      (change 2 true 1223190 (line [past .e2 1223430] s2 1223200))).queue 0 =
      [{ past .e3 1226930 with folded := true }] ∧
    ((after (.edgeAccepted 0 2)
      (change 2 true 1223190 (line [past .e2 1223430] s2 1223200))).lane 0).folder =
      { queue := [⟨302, 1⟩], phase := .strobe, timer := some 40, strobe := true, code := 1 } ∧
    (after (.edgeAccepted 0 3)
      (change 3 true 1226700 (line [{ past .e3 1226930 with folded := true }] s2 1226710))).queue 0 =
      [leaving] ∧
    (after (.edgeAccepted 0 3)
      (change 3 false 1229725 (line [leaving] s2 1229735))).reports.queue =
      [.sheetDone 302 0 (some 2) 415 1 .stacked none] := by decide +kernel

theorem test_missing_e1_is_a_wrap :
    (after (.deadlinePass 302) (line [past .e1 1218880] s2 1218880)).alarms.current =
      some (.wrap 0) := by decide +kernel

theorem test_misfeed_restores_a_piece :
    ((after (.deadlinePass 302) (line [awaited] s2Out 1209322)).station 2).current =
      some { batch415 with remaining := 13 } := by decide +kernel

/-- Section 5.2: tags round the wrap. -/
theorem test_tags_round_the_wrap :
    { line [{ awaited with tag := 65535 }, { awaited with tag := 1 }, { awaited with tag := 2 }]
        s2 0 with tagCounter := 65535 }.newTag = 3 := by decide +kernel

/-! ### Requests -/

def setGeometry (p1 p2 p3 : BitVec 32) : Instr := .geometrySet ⟨0, p1, p2, p3, 150, 200, 250, 250⟩

/-- Positions 100, 300 and 9,000 are clamped to 500, 500 and 9,000, which are not in order. -/
theorem test_geometry_order_is_tested_after_clamping :
    ((after (setGeometry 100 300 9000) State.reset).lane 0).geometry = .unconfigured := by
  decide +kernel

theorem test_geometry_is_set :
    ((after (setGeometry 9500 14000 17500) State.reset).lane 0).geometry = geometry := by
  decide +kernel

/-- R170: address 0 takes no request. -/
theorem test_no_reply_at_address_0 :
    (after .poll { State.reset with link := { State.reset.link with address := 0 } }).link.reply =
      none := by decide +kernel

/-- The frame of POLL for unit 6 by R171 and R186: address 06 with the marker, LEN 00, CODE 01,
CHK FF. -/
theorem test_frame_of_poll :
    frameCharacters 6 0x01 [] =
      [0b11000001100, 0b10000000000, 0b10000000010, 0b10111111110] := by decide

theorem test_width_of_a_class_in_use_is_busy :
    ((after (.classSet ⟨1, 3000, 60, 400, 300, 2, 1, 20⟩)
      (line [] s2 0)).link.reply.map fun r => r.body.take 1) = some [5] := by decide +kernel

/-! ### Alarms (section 10.3) -/

/-- The latches after the first five rows of the example. -/
def fiveRows : State :=
  ((((State.reset.occur .speedLow 1).occur (.misfeed 1) 1).occur (.jam 0) 3).occur (.stray 2) 3).occur
    (.jam 0) 2

theorem test_equal_rank_does_not_displace : fiveRows.alarms.current = some (.jam 0) := by
  decide +kernel

theorem test_occurrences_are_counted : fiveRows.alarms.latches.get (.jam 0) = ⟨true, 2, 2⟩ := by
  decide +kernel

theorem test_masking_the_current_source :
    (after (.alarmSet 4 1 1) fiveRows).alarms.current = some (.stray 2) := by decide +kernel

theorem test_acknowledging_goes_by_default_order :
    (after (.alarmAck 4 0) fiveRows).alarms.current = some (.stray 2) ∧
    (after (.alarmAck 5 2) { fiveRows with
      alarms := { fiveRows.alarms with
        settings := { fiveRows.alarms.settings with jam := ⟨true, true⟩ },
        current := some (.stray 2) } }).alarms.current = some (.misfeed 1) := by decide +kernel

/-! ### The report queue (section 11.5) -/

theorem test_report_fetch_max_8 :
    let s : State := { State.reset with
      reports := ⟨List.replicate 32 (.batchEnd 0 1 1 1 false), true, true⟩ }
    (after (.reportFetch 8) s).reports.queue.length = 24 ∧
      ((after (.reportFetch 8) s).link.reply.map fun r => r.body.length) = some 104 := by
  decide +kernel

/-! ### Stacker (section 8.5) -/

theorem test_flush_discharges :
    let s := line [] s2 0
    ((after (.laneCmdFlush 0) (s.setLane 0 { s.lane 0 with
      stacker := { Stacker.atReset with state := .building ⟨415, 1, 3, 20⟩ } })).lane 0).stacker =
      ⟨.discharging ⟨415, 1, 3, .host⟩ none, .running 20000, true, 0⟩ := by decide +kernel

/-! ### Witnesses: the queue of commands and the line link

Each shows, for the statement it is named after, values that meet the hypotheses of every clause. -/

/-- The line with tag 301 on E0, the eye covered, and a command waiting. -/
def waiting (c : Instr) : State :=
  { armedLine.setEye 0 0 ⟨true, true, none⟩ with pending := [c] }

theorem witness_StepTakesTheFrontCommand : (waiting .gateEnd).pending = .gateEnd :: [] := rfl

/-- The dwell of S2 has run out. -/
def dwellOut : State := line [] { s2 with state := .dwell, timer := some 0 } 0

/-- Timers with one millisecond left. -/
def oneMsLeft : State :=
  { line [] s2 0 with
    scorch := .running 1,
    lanes := { State.reset.lanes with
      q0 := { lane0 [] with
        stacker := ⟨.discharging ⟨415, 1, 3, .host⟩ none, .running 1, true, 0⟩ } } }

/-- Two intervals at their ends: the gate and the hold of ESTOP. -/
def twoDue : State := { State.reset with gateLeft := 0, estop := true, estopHold := some 0 }

theorem witness_IdleStepEndsWhatIsDueOrPassesAMillisecond :
    (dwellOut.pending = [] ∧ dwellOut.dueRows = [.dwellExpiry 2]) ∧
    (twoDue.pending = [] ∧ .gateEnd ∈ twoDue.dueRows ∧ .estopDeactivation ∈ twoDue.dueRows) ∧
    { State.reset with resetPhase := .interval 0 }.dueRows = [.resetEnd] ∧
    oneMsLeft.pending = [] ∧ oneMsLeft.dueRows = [] ∧ oneMsLeft.resetPhase = .running ∧
      (oneMsLeft.lane 0).stacker.timer = .running 1 ∧
      (oneMsLeft.lane 1).stacker.timer.isRunning = false ∧ oneMsLeft.scorch = .running 1 ∧
    ∀ phase ∈ [ResetPhase.interval 20, .held],
      { State.reset with resetPhase := phase }.pending = [] ∧
      { State.reset with resetPhase := phase }.dueRows = [] ∧
      { State.reset with resetPhase := phase }.resetPhase = phase := by
  decide +kernel

theorem witness_RequestsAndFramesAgree :
    requestFrame (.rejectMark 302) = some (0x25, [1, 46]) ∧
    parseRequest 0x25 [1, 46] = .command (.rejectMark 302) := by decide

/-- The unit at address 1 on a line that has rested. -/
def rested : State := { State.reset with link := { State.reset.link with lineRested := true } }

theorem witness_AFrameOnTheLineIsItsRequest :
    rested.resetPhase = .running ∧ rested.link.lineRested = true ∧
    rested.link.receiver = .hunting ∧ rested.link.address ≠ 0 ∧ rested.link.reply = none ∧
    requestFrame (.rejectMark 302) = some (0x25, [1, 46]) ∧
    (List.replicate 240 (0 : Byte)).length ≤ 240 ∧ bodyLength 0x30 = none ∧
    bodyLength 0x25 = some 2 ∧ (List.replicate 240 (0 : Byte)).length ≠ 2 ∧
    List.replicate 240 (0 : Byte) ≠ [] ∧ (0x30 : Byte) ≠ 0x23 ∧ (0x30 : Byte) ≠ 0x2F ∧
    (1 < (2 : Byte).toNat ∧ (0 : Byte).toNat = 0 ∧ 4 < (5 : Byte).toNat) := by
  decide +kernel

/-- A frame being received, at a step. -/
def receiving (step : RxStep) (left : Nat) : State :=
  { rested with link := { rested.link with
    receiver := .receiving ⟨false, step, 1, 2, left, []⟩ } }

theorem witness_TheReceiverTakesCharacters :
    rested.resetPhase = .running ∧ rested.link.lineRested = true ∧
    rested.link.receiver = .hunting ∧
    ((0 : BitVec 11).getLsbD 0 = false ∧ (0 : BitVec 11).getLsbD 10 = false) ∧
    (∀ b : Byte, b ∈ [0, 1, 2, 240, 241] →
      (characterOf true b).getLsbD 0 = false ∧ (characterOf true b).getLsbD 10 = true ∧
      (characterOf true b).getLsbD 9 = true ∧ (characterOf false b).getLsbD 0 = false ∧
      (characterOf false b).getLsbD 10 = true ∧ (characterOf false b).getLsbD 9 = false ∧
      (characterOf false b).extractLsb' 1 8 = b) ∧
    (∀ step left, (receiving step left).link.receiver =
      .receiving ⟨false, step, 1, 2, left, []⟩) ∧
    (1 : Byte) + 2 + ([] : List Byte).foldl (· + ·) 0 + 252 ≠ 0 := by
  refine ⟨?_, ?_, ?_, ?_, ?_, fun _ _ => rfl, ?_⟩ <;> decide +kernel

theorem witness_BreaksGapsAndRestsOfTheLine :
    (rested.resetPhase = .running ∧ rested.link.receiver = .hunting) ∧
    ((receiving .body 1).resetPhase = .running ∧
      (receiving .body 1).link.receiver = .receiving ⟨false, .body, 1, 2, 1, []⟩) ∧
    State.reset.resetPhase = .running ∧ State.reset.link.lineRested = false := by decide +kernel

/-- A reply to POLL. -/
def reply (resets sending : Bool) : Reply := ⟨0x01, [], false, false, false, resets, sending⟩

def replying (r : Reply) : State :=
  { State.reset with link := { State.reset.link with reply := some r } }

theorem witness_RepliesAreSentAndClearTheirFlags :
    ∀ resets sending, (replying (reply resets sending)).resetPhase = .running ∧
      (replying (reply resets sending)).link.reply = some (reply resets sending) ∧
      (reply resets sending).sending = sending ∧ (reply resets sending).resets = resets := by
  decide +kernel

theorem witness_RequestsAreDiscardedWhileAReplyIsPending :
    requestFrame .poll = some (0x01, []) ∧
    ((replying (reply false false)).resetPhase = .running ∧
      (replying (reply false false)).link.address ≠ 0 ∧
      (replying (reply false false)).link.reply ≠ none) ∧
    { State.reset with resetPhase := .interval 20 }.resetPhase ≠ .running ∧
    { State.reset with link := Link.atReset 0 0 }.link.address = 0 := by decide +kernel

theorem witness_TheStatusHeaderShowsTheState :
    State.reset.alarms.current = none ∧ fiveRows.alarms.current = some (.jam 0) := by
  decide +kernel

/-! ### Witnesses: requests -/

theorem witness_ReadingRequestsAnswerAndChangeNothing :
    State.reset.Ready ∧ (3 : Byte).toNat = (3 : LaneNo).val ∧ (3 : Byte).toNat = (3 : StationNo).val ∧
    4 ≤ (4 : Byte).toNat := by decide +kernel

theorem witness_ReportFetchRemovesTheOldestReports :
    State.reset.Ready ∧
    ∀ x : Byte × Nat, x ∈ [((0 : Byte), 1), (1, 1), (8, 8), (9, 8), (255, 8)] →
      x.2 = if x.1.toNat = 0 then 1 else if 8 < x.1.toNat then 8 else x.1.toNat := by
  decide +kernel

theorem witness_ClassSetWritesOneClassWhole :
    State.reset.Ready ∧ (line [] s2 0).Ready ∧
    ((0 : Byte).toNat = 0 ∧ 16 ≤ (16 : Byte).toNat ∧ 4 ≤ (4 : Byte).toNat) ∧
    ((15 : Byte).toNat = (15 : ClassNo).val ∧ (15 : ClassNo) ≠ 0 ∧ (1 : Byte).toNat = 1 ∧
      (3 : Byte).toNat = 3) ∧
    ((1 : Byte).toNat = (1 : ClassNo).val ∧ Width.half ≠ (line [] s2 0).classes[(1 : ClassNo)].width ∧
      batch415.cls = 1 ∧ ((line [] s2 0).station 2).current = some batch415) ∧
    ¬(Width.full ≠ (line [] s2 0).classes[(1 : ClassNo)].width) := by decide +kernel

/-- S2 in RUN mode, in WAITING with the grant of L0, at a travel; its hold ends at 2,000. -/
def holding (travel : Pos) : State :=
  { line [] { s2 with params := { s2.params with mode := .run } } travel with
    lanes := { State.reset.lanes with q0 := { lane0 [] with grant := some 2 } } }

/-- The same state with S1 LOADED beside what it holds. -/
def withLoaded (s : State) : State :=
  s.setStation 1 { Station.atReset with state := .loaded, current := some ⟨420, 1, 5, 5, none⟩ }

/-- The same state with S1 ARMED, holding the grant of L0. -/
def withArmed (s : State) : State :=
  (s.setStation 1
    { Station.atReset with state := .armed, current := some ⟨420, 1, 5, 5, none⟩ }).setLane 0
    { s.lane 0 with grant := some 1 }

/-- The same state in ROTATING mode. -/
def rotating (s : State) : State := { s with params := { s.params with mode := .rotating } }

/-- The same state with the grant of L0 given back. -/
def givenBack (s : State) : State :=
  s.setLane 0 { s.lane 0 with grant := none, releasePoint := none }

/-- A lane that is not OPEN, or has no LOADED station, gives its grant back and stays without one. -/
theorem gaveBack_none {s : State} {l : LaneNo}
    (h : (s.lane l).state ≠ .opened ∨ ∀ su, s.laneOf su = l → (s.station su).state ≠ .loaded) :
    ∃ t, s.GaveBack l t := ⟨_, _, rfl, .inl ⟨h, rfl⟩⟩

/-- L0, OPEN, gives its grant back and then grants S1. -/
theorem gaveBack_some {s t : State}
    (h : (s.lane 0).state = .opened ∧ (givenBack s).Chosen 0 1)
    (ht : exec (.release 0) ((givenBack s).granted 0 1 ((givenBack s).workedPoint 0 1)) = .next t) :
    ∃ t, s.GaveBack 0 t := ⟨_, _, rfl, .inr ⟨1, h.1, h.2, ht⟩⟩

/-- S2 with its batch over and no next one. -/
def ended (s : State) : State :=
  s.setStation 2 { s.station 2 with
    outstanding := 0, current := none, next := none, openOut := false, returnOut := false,
    timer := none, state := .noBatch }

theorem witness_StationSetWritesAStationsParameters :
    State.reset.Ready ∧ 4 ≤ (4 : Byte).toNat ∧ 2 ≤ (2 : Byte).toNat ∧
    ((2 : Byte).toNat = (2 : StationNo).val ∧ (0 : Byte).toNat = 0 ∧ (1 : Byte).toNat = 1) ∧
    (dwellOut.Ready ∧ (dwellOut.station 2).state ≠ .noBatch ∧
      (dwellOut.station 2).state ≠ .waiting) ∧
    ((State.reset.station 2).state = .noBatch ∧
      (State.reset.lane (State.reset.laneOf 2)).grant ≠ some 2) ∧
    ((holding 1999).Ready ∧ ((holding 1999).station 2).state = .waiting ∧
      ((holding 1999).travel - (((holding 1999).station 2).holdOrigin +
        BitVec.ofNat 32 2000)).msb = true) ∧
    ((holding 2000).Ready ∧ ((holding 2000).station 2).state = .waiting ∧
      ((holding 2000).travel - (((holding 2000).station 2).holdOrigin +
        BitVec.ofNat 32 2000)).msb = false ∧ ((holding 2000).lane 0).grant = some 2 ∧
      ((holding 2000).lane 0).state = .opened ∧
      ∀ su, (holding 2000).laneOf su = 0 → ((holding 2000).station su).state ≠ .loaded) ∧
    ∀ s ∈ [withLoaded (holding 2000), rotating (withLoaded (holding 2000))],
      s.Ready ∧ (s.station 2).state = .waiting ∧ (s.lane 0).grant = some 2 ∧
      (s.lane 0).state = .opened ∧
      (givenBack (s.setStation 2 { s.station 2 with params := Station.atReset.params })).Chosen 0 1 := by
  refine ⟨?_, ?_, ?_, ?_, ?_, ?_, ?_, ?_, ?_⟩ <;> decide +kernel

theorem witness_GeometrySetWritesALanesGeometry :
    State.reset.Ready ∧ 4 ≤ (4 : Byte).toNat ∧ (3 : Byte).toNat = (3 : LaneNo).val := by
  decide +kernel

/-- E0 of L0 with a change that began at 5, no lane OPEN, at travel 14 with Fe = 10. -/
def changeHalted : State :=
  change 0 true 5 { line [] s2 14 with
    lanes := { State.reset.lanes with q0 := { lane0 [] with state := .halted } } }

theorem witness_LineSetWritesTheLineParameters :
    State.reset.Ready ∧ (line [] s2 0).Ready ∧ 2 ≤ (2 : Byte).toNat ∧
    ((0 : Byte).toNat = 0 ∧ (1 : Byte).toNat = 1 ∧ (0 : Byte).toNat = false.toNat ∧
      (1 : Byte).toNat = true.toNat) ∧
    { LineParams.atReset with vlo := 301, vhi := 300 }.vhi <
      { LineParams.atReset with vlo := 301, vhi := 300 }.vlo ∧
    (LineParams.atReset.vlo ≤ LineParams.atReset.vhi ∧
      LineParams.atReset.fe ≠ (line [] s2 0).params.fe ∧ ((line [] s2 0).lane 0).state = .opened) ∧
    (LineParams.atReset.scale = State.reset.params.scale ∧
      LineParams.atReset.fe = State.reset.params.fe) ∧
    (∀ l, (State.reset.lane l).state ≠ .opened ∧ (State.reset.lane l).state ≠ .draining) ∧
    (changeHalted.Ready ∧ changeHalted.params.fe = 10 ∧
      (∀ l, (changeHalted.lane l).state ≠ .opened ∧ (changeHalted.lane l).state ≠ .draining) ∧
      (changeHalted.eye 0 0).pending = some 5 ∧
      (∀ l k, l ≠ 0 ∨ k ≠ 0 → (changeHalted.eye l k).pending = none) ∧
      (changeHalted.travel - (5 + BitVec.ofNat 32 9)).msb = false ∧
      (changeHalted.travel - (5 + BitVec.ofNat 32 11)).msb = true) := by
  decide +kernel

/-- P4 with station k on lane k, and the operands that name it. -/
def fourLanes : PlanPair := ⟨.p4, ⟨0, 1, 2, 3⟩⟩
def fourOperands : PlanOperands := ⟨4, 0, 1, 2, 3⟩

/-- P1 with every station on L0, and the operands that name it. -/
def oneLane : PlanPair := ⟨.p1, ⟨0, 0, 0, 0⟩⟩
def oneOperands : PlanOperands := ⟨1, 0, 0, 0, 0⟩

/-- L0 with its stacking unit in a state. -/
def stacking (st : StackState) (timer : StackerTimer) (s : State) : State :=
  s.setLane 0 { s.lane 0 with stacker := ⟨st, timer, false, 0⟩ }

/-- A state in a phase of a change to P4. -/
def changing (phase : PlanPhase) (s : State) : State :=
  { s with
    phase := phase, planNext := some fourLanes,
    lanes := { s.lanes with q0 := { s.lanes.q0 with state := .draining } } }

/-- The batches of a state's slots all have a property. -/
theorem slots_all {s : State} {P : Batch → Prop}
    (hc : ∀ st : StationNo, ∀ b ∈ (s.station st).current, P b)
    (hn : ∀ st : StationNo, ∀ b ∈ (s.station st).next, P b) :
    ∀ (st : StationNo) (b : Batch),
      ((s.station st).current = some b ∨ (s.station st).next = some b) → P b :=
  fun st b h => h.elim (hc st b) (hn st b)

theorem witness_PlanSetIsRefusedOrWithdrawsAChange :
    planOperands fourOperands = some fourLanes ∧ planOperands oneOperands = some oneLane ∧
    planOperands { oneOperands with lane3 := 1 } = none ∧
    (State.reset.Ready ∧ State.reset.phase = .noChange ∧ oneLane = State.reset.planNow) ∧
    (∀ (st : StationNo) (b : Batch), ((State.reset.station st).current = some b ∨
      (State.reset.station st).next = some b) → State.reset.classFits b.cls .p1 = true) ∧
    ((line [] s2 0).Ready ∧ ((line [] s2 0).station 2).current = some batch415 ∧
      (line [] s2 0).classFits batch415.cls .p4 = false) ∧
    ((changing .stack State.reset).Ready ∧ (changing .stack State.reset).phase = .stack) ∧
    (changing .track State.reset).Ready ∧ (changing .track State.reset).phase = .track ∧
      fourLanes ≠ (changing .track State.reset).planNow ∧
      oneLane = (changing .track State.reset).planNow := by
  refine ⟨?_, ?_, ?_, ?_, slots_all (by decide +kernel) (by decide +kernel), ?_, ?_, ?_⟩ <;>
    decide +kernel

/-- S2 ARMED with a batch of a quarter-width class, which fits P4. -/
def armedQuarter : State :=
  { armedLine with classes := armedLine.classes.set 1 { king with width := .quarter } }

theorem witness_PlanSetBeginsAPlanChange :
    (State.reset.Ready ∧ planOperands fourOperands = some fourLanes ∧
      State.reset.phase = .noChange ∧ fourLanes ≠ State.reset.planNow ∧
      (∀ l, State.reset.queue l = [] ∧ (State.reset.lane l).stacker.state = .empty)) ∧
    (∀ (st : StationNo) (b : Batch), ((State.reset.station st).current = some b ∨
      (State.reset.station st).next = some b) → State.reset.classFits b.cls .p4 = true) ∧
    ((line [leaving] Station.atReset 0).Ready ∧
      (line [leaving] Station.atReset 0).phase = .noChange ∧
      fourLanes ≠ (line [leaving] Station.atReset 0).planNow ∧
      ((line [leaving] Station.atReset 0).lane 0).state = .opened ∧
      (line [leaving] Station.atReset 0).queue 0 ≠ []) ∧
    (∀ (st : StationNo) (b : Batch),
      (((line [leaving] Station.atReset 0).station st).current = some b ∨
        ((line [leaving] Station.atReset 0).station st).next = some b) →
      (line [leaving] Station.atReset 0).classFits b.cls .p4 = true) ∧
    (armedQuarter.Ready ∧ armedQuarter.phase = .noChange ∧ fourLanes ≠ armedQuarter.planNow ∧
      (armedQuarter.lane 0).state = .opened ∧ armedQuarter.queue 0 ≠ [] ∧
      (armedQuarter.lane 0).grant = some 2 ∧ (armedQuarter.station 2).state = .armed) ∧
    (∀ (st : StationNo) (b : Batch), ((armedQuarter.station st).current = some b ∨
      (armedQuarter.station st).next = some b) → armedQuarter.classFits b.cls .p4 = true) ∧
    ((stacking (.building ⟨415, 1, 19, 20⟩) .idle (line [] Station.atReset 0)).Ready ∧
      (stacking (.building ⟨415, 1, 19, 20⟩) .idle (line [] Station.atReset 0)).phase = .noChange ∧
      (∀ l, (stacking (.building ⟨415, 1, 19, 20⟩) .idle (line [] Station.atReset 0)).queue l = []) ∧
      ((stacking (.building ⟨415, 1, 19, 20⟩) .idle (line [] Station.atReset 0)).lane 0).state =
        .opened ∧
      ((stacking (.building ⟨415, 1, 19, 20⟩) .idle
        (line [] Station.atReset 0)).lane 0).stacker.state = .building ⟨415, 1, 19, 20⟩) := by
  refine ⟨?_, slots_all (by decide +kernel) (by decide +kernel), ?_,
    slots_all (by decide +kernel) (by decide +kernel), ?_,
    slots_all (by decide +kernel) (by decide +kernel), ?_⟩ <;> decide +kernel

theorem witness_AlarmSetWritesMaskAndLevel :
    State.reset.Ready ∧ (3 : Byte).toNat < 4 ∧ 9 < (10 : Byte).toNat ∧ 1 < (2 : Byte).toNat ∧
    (Kind.jam.code = 4 ∧ 4 ≤ (4 : Byte).toNat) ∧ (Kind.speedHigh.code = 9 ∧ 4 ≤ (9 : Byte).toNat) ∧
    (1 : Byte).toNat ≤ 1 ∧ (0 : Byte).toNat ≤ 1 := by decide +kernel

/-- A property of every source, from the list of them. -/
theorem all_sources {P : Source → Prop} (h : ∀ x ∈ allSources, P x) (x : Source) : P x := by
  apply h
  cases x <;> first | decide | (rename_i i; fin_cases i <;> decide)

theorem witness_TheCurrentAlarmRule :
    (fiveRows.alarms.current = some (.jam 0) ∧ fiveRows.alarms.presentable (.jam 0) = true ∧
      ∀ x, fiveRows.alarms.presentable x = true →
        fiveRows.alarms.rank x ≤ fiveRows.alarms.rank (.jam 0)) ∧
    State.reset.alarms.current = none ∧
    { fiveRows.alarms with current := some (.wrap 0) }.presentable (.wrap 0) = false ∧
    ({ fiveRows.alarms with current := some .speedLow }.presentable (.jam 0) = true ∧
      { fiveRows.alarms with current := some .speedLow }.rank .speedLow <
        { fiveRows.alarms with current := some .speedLow }.rank (.jam 0)) := by
  refine ⟨⟨?_, ?_, all_sources (by decide +kernel)⟩, ?_, ?_, ?_⟩ <;> decide +kernel

theorem witness_AlarmAckClearsALatch :
    fiveRows.Ready ∧ (∀ src : Source, src.kind.code = 3 → src.index ≠ 4) ∧
    ((Source.wrap 3).kind.code = 3 ∧ (Source.wrap 3).index = 3 ∧
      (fiveRows.alarms.latches.get (.wrap 3)).latched = false) ∧
    ((Source.jam 0).kind.code = 4 ∧ (Source.jam 0).index = 0 ∧
      (fiveRows.alarms.latches.get (.jam 0)).latched = true) ∧
    ∀ s ∈ [armedLine.occur (.wrap 0) 1, (armedLine.occur (.wrap 0) 1).occur (.wrap 1) 1],
      s.Ready ∧ (s.alarms.latches.get (.wrap 0)).latched = true := by
  refine ⟨?_, all_sources (by decide +kernel), ?_, ?_, ?_⟩ <;> decide +kernel

/-- A batch as BATCH_LOAD 415 of class 1 with 1 piece fills it. -/
def batchOne : Batch := ⟨415, 1, 1, 1, none⟩

/-- The line with S2 holding batches in both slots. -/
def bothSlots : State := line [] { s2 with next := some batchOne } 0

theorem witness_BatchLoadFillsASlot :
    (4 ≤ (4 : Byte).toNat ∧ (0 : BitVec 16).toNat = 0 ∧ 16 ≤ (16 : Byte).toNat) ∧
    ((2 : Byte).toNat = (2 : StationNo).val ∧ (1 : Byte).toNat = (1 : ClassNo).val ∧
      (1 : ClassNo) ≠ 0 ∧ (415 : BitVec 16).toNat ≠ 0 ∧
      batchOne = { id := (415 : BitVec 16).toNat, cls := 1,
                   pieces := max 1 (min (0 : BitVec 16).toNat 9999),
                   remaining := max 1 (min (0 : BitVec 16).toNat 9999), foldOverride := none }) ∧
    (State.reset.Ready ∧ State.reset.classes[(1 : ClassNo)].valid = false) ∧
    ((line [] s2 0).Ready ∧ (line [] s2 0).classes[(1 : ClassNo)].valid = true ∧
      (line [] s2 0).classFits 1 (line [] s2 0).planNow.plan = true ∧
      (line [] s2 0).planNext = none ∧ ((line [] s2 0).station 1).current = none ∧
      ((line [] s2 0).station 2).current ≠ none ∧ ((line [] s2 0).station 2).next = none) ∧
    ((changing .track (line [] s2 0)).Ready ∧
      (changing .track (line [] s2 0)).planNext = some fourLanes ∧
      (changing .track (line [] s2 0)).classFits 1 fourLanes.plan = false) ∧
    (bothSlots.Ready ∧ (bothSlots.station 2).current ≠ none ∧
      (bothSlots.station 2).next ≠ none) := by decide +kernel

theorem witness_BatchCancelClearsASlot :
    4 ≤ (4 : Byte).toNat ∧ (2 : Byte).toNat = (2 : StationNo).val ∧
    (State.reset.Ready ∧ (State.reset.station 2).next = none ∧
      (State.reset.station 2).state = .noBatch) ∧
    (bothSlots.Ready ∧ (bothSlots.station 2).next = some batchOne ∧
      (bothSlots.station 2).state = .waiting ∧ (bothSlots.station 2).current = some batch415 ∧
      (bothSlots.lane (bothSlots.laneOf 2)).grant ≠ some 2) ∧
    (dwellOut.Ready ∧ (dwellOut.station 2).state = .dwell) ∧
    (armedLine.Ready ∧ (armedLine.station 2).state = .armed ∧
      (armedLine.station 2).current = some batch415 ∧ (armedLine.lane 0).grant = some 2 ∧
      (armedLine.station 2).next = none ∧ (armedLine.station 2).outstanding = 0) ∧
    (∃ v, ((ended armedLine).offer (.batchEnd 2 415 20 8 true)).GaveBack 0 v) ∧
    ∃ v, ((ended (withLoaded armedLine)).offer (.batchEnd 2 415 20 8 true)).GaveBack 0 v := by
  refine ⟨?_, ?_, ?_, ?_, ?_, ?_, gaveBack_none (.inr ?_), gaveBack_some ?_ rfl⟩ <;>
    decide +kernel

/-- L0 HALTED with S2 LOADED. -/
def haltedLine : State :=
  { line [] { s2 with state := .loaded } 0 with
    lanes := { State.reset.lanes with q0 := { lane0 [] with state := .halted } } }

/-- The same state with L0 OPEN. -/
def opened (s : State) : State := s.setLane 0 { s.lane 0 with state := .opened }

theorem witness_ResumeOpensAHaltedLane :
    4 ≤ (4 : Byte).toNat ∧ (0 : Byte).toNat = (0 : LaneNo).val ∧
    ((line [] s2 0).Ready ∧ ((line [] s2 0).lane 0).state = .opened ∧
      ((line [] s2 0).lane 1).state = .closed) ∧
    (fiveRows.Ready ∧ (fiveRows.lane 0).state = .halted ∧
      (fiveRows.alarms.latches.get (.jam 0)).latched = true) ∧
    (haltedLine.Ready ∧ (haltedLine.lane 0).state = .halted ∧
      (∀ src ∈ [Source.wrap 0, .jam 0, .stray 0, .stacker 0, .scorch],
        (haltedLine.alarms.latches.get src).latched = false) ∧ haltedLine.estop = false ∧
      (haltedLine.lane 0).geometry.pos1 ≠ 0 ∧ (haltedLine.lane 0).geometry.pos2 ≠ 0 ∧
      (haltedLine.lane 0).geometry.pos3 ≠ 0) ∧
    ((haltedLine.lane 0).grant = none ∧ haltedLine.params.mode = .fixed ∧
      haltedLine.laneOf 2 = 0 ∧ (haltedLine.station 2).state = .loaded ∧
      ∀ su : StationNo, su < 2 → haltedLine.laneOf su = 0 → (haltedLine.station su).state ≠ .loaded) ∧
    (∀ st, haltedLine.laneOf st = 1 → (haltedLine.station st).state ≠ .loaded) ∧
    ∀ s ∈ [haltedLine, withLoaded haltedLine, rotating haltedLine, rotating (withLoaded haltedLine)],
      s.Ready ∧ (s.lane 0).state = .halted ∧ (s.lane 0).grant = none ∧
      ((opened s).Chosen 0 1 ∨ (opened s).Chosen 0 2) := by
  refine ⟨?_, ?_, ?_, ?_, ?_, ?_, ?_, ?_⟩ <;> decide +kernel

theorem witness_HaltTakesLanesOutOfOpen :
    4 ≤ (4 : Byte).toNat ∧ (0 : Byte).toNat = (0 : LaneNo).val ∧
    (haltedLine.Ready ∧ (haltedLine.lane 0).state = .halted ∧
      (haltedLine.lane 1).state = .closed) ∧
    (armedLine.Ready ∧ armedLine.resetPhase = .running ∧ (armedLine.lane 0).state = .opened ∧
      (armedLine.lane 0).grant = some 2 ∧ (armedLine.station 2).state = .armed) ∧
    ((line [] s2 0).Ready ∧ ((line [] s2 0).lane 0).state = .opened ∧
      ((line [] s2 0).lane 0).grant = none) := by decide +kernel

/-- L0 HALTED with a queue, the drive stopped. -/
def haltedWith (queue : List Record) : State :=
  { line queue s2Out 1209200 with
    lanes := { State.reset.lanes with q0 := { lane0 queue with state := .halted } } }

theorem witness_PurgeEmptiesALane :
    4 ≤ (4 : Byte).toNat ∧ (0 : Byte).toNat = (0 : LaneNo).val ∧
    ((line [] s2 0).Ready ∧ ((line [] s2 0).lane 0).state = .opened) ∧
    ({ haltedWith [] with inputs := ⟨false, true, 1, 0⟩ }.Ready ∧
      { haltedWith [] with inputs := ⟨false, true, 1, 0⟩ }.inputs.ironerRun = true) ∧
    (haltedWith [awaited]).Ready ∧ ((haltedWith [awaited]).lane 0).state = .halted ∧
      (haltedWith [awaited]).inputs.ironerRun = false ∧ (haltedWith [awaited]).phase = .noChange ∧
      (∀ st, ((haltedWith [awaited]).station st).state ≠ .finishing) ∧
      (haltedWith [awaited]).reports.queue.length + ((haltedWith [awaited]).queue 0).length ≤ 32 ∧
      (haltedWith [awaited]).queue 0 ≠ [] ∧
    ∀ phase ∈ [PlanPhase.track, .stack],
      (changing phase (haltedWith [awaited])).Ready ∧
      ((changing phase (haltedWith [awaited])).lane 0).state = .draining ∧
      (changing phase (haltedWith [awaited])).inputs.ironerRun = false ∧
      (changing phase (haltedWith [awaited])).queue 0 ≠ [] ∧
      ∀ st, ((changing phase (haltedWith [awaited])).station st).state ≠ .finishing := by
  refine ⟨?_, ?_, ?_, ?_, ?_, ?_, ?_, ?_, ?_, ?_, ?_, ?_⟩ <;> decide +kernel

/-- R148 and R152: the PURGE of the last draining lane completes the change. -/
theorem test_purge_completes_a_plan_change :
    (after (.laneCmdPurge 0) (changing .track (haltedWith [awaited]))).phase = .noChange ∧
    (after (.laneCmdPurge 0) (changing .track (haltedWith [awaited]))).reports.queue =
      [.sheetLost 302 0 (some 2) 415 1 .purged none, .planDone fourLanes] := by decide +kernel

theorem witness_FlushDischargesABuildingStack :
    4 ≤ (4 : Byte).toNat ∧ (0 : Byte).toNat = (0 : LaneNo).val ∧
    ((line [] s2 0).Ready ∧ ((line [] s2 0).lane 0).stacker.state = .empty) ∧
    (oneMsLeft.Ready ∧
      (oneMsLeft.lane 0).stacker.state = .discharging ⟨415, 1, 3, .host⟩ none) ∧
    ((stacking (.building ⟨415, 1, 19, 20⟩) .idle (line [] s2 0)).Ready ∧
      ((stacking (.building ⟨415, 1, 19, 20⟩) .idle (line [] s2 0)).lane 0).stacker.state =
        .building ⟨415, 1, 19, 20⟩) := by decide +kernel

theorem witness_RejectMarkMarksAnUnfoldedRecord :
    ((line [awaited] s2Out 0).Ready ∧ (∀ r ∈ (line [awaited] s2Out 0).records,
      r.tag ≠ (301 : BitVec 16).toNat)) ∧
    (((line [awaited] s2Out 0).records.map Record.tag).Nodup ∧
      awaited ∈ (line [awaited] s2Out 0).queue 0 ∧ awaited.tag = (302 : BitVec 16).toNat ∧
      awaited.folded = false) ∧
    (line [leaving] s2 0).Ready ∧ ((line [leaving] s2 0).records.map Record.tag).Nodup ∧
      leaving ∈ (line [leaving] s2 0).queue 0 ∧ leaving.tag = (302 : BitVec 16).toNat ∧
      leaving.folded = true := by decide +kernel

/-! ### Witnesses: reset and alarms -/

/-- The reset interval with the ESTOP input at a level. -/
def inReset (estop : Bool) : State :=
  { State.reset with resetPhase := .interval 20, inputs := { Inputs.atReset with estop := estop } }

theorem witness_UnitResetsAndTheResetInterval :
    (State.reset.Ready ∧ State.reset.resetPhase = .running) ∧
    { State.reset with resetPhase := .held }.resetPhase = .held ∧
    ∀ estop, (inReset estop).resetPhase = .interval 20 ∧ (inReset estop).inputs.estop = estop ∧
      ((inReset estop).alarms.latches.get .estop).latched = false := by decide +kernel

theorem witness_NothingIsTakenInAReset : (inReset false).resetPhase ≠ .running := by decide

theorem witness_OccurrencesLatchHaltAndShow :
    ∃ t, t = armedLine.occur (.wrap 0) 1 ∧ (armedLine.lane 0).state = .opened ∧
      (armedLine.station 2).state = .armed ∧
      (fiveRows.alarms.latches.get (.jam 0)).latched = true :=
  ⟨_, rfl, by decide +kernel⟩

/-! ### Witnesses: travel, speed and eyes -/

/-- A record at the last millimetre before its E1 deadline, with an edge due at the same advance. -/
def edgeAtDeadline : State := change 1 true 1218870 (line [past .e1 1218880] s2 1218879)

/-- 96 records past E1, with tags 1 to 96. -/
def fullQueue : List Record :=
  (List.range 96).map fun i => { past .e2 1223430 with tag := i + 1 }

/-- S2 ARMED with its point one advance ahead. -/
def pointAhead : State :=
  { armedLine with
    lanes := { State.reset.lanes with
      q0 := { lane0 [queen301] with grant := some 2, releasePoint := some 1207009 } } }

/-- L1 OPEN with a record whose next eye is E1 and a deadline, beside a state. -/
def besides (s : State) : State :=
  s.setLane 1 { Lane.atReset .opened [] (.fill false) with
    geometry := geometry, queue := [{ past .e1 1207009 with tag := 303, lane := 1 }] }

/-- The same state with an edge of E1 of L1 due at the next advance. -/
def edgeBesides (s : State) : State :=
  s.setLane 1 { Lane.atReset .opened [] (.fill false) with geometry := geometry } |>.setEye 1 1
    ⟨true, false, some 1206999⟩

theorem witness_PulsesMakeTravelAdvances :
    State.reset.resetPhase = .running ∧ State.reset.residual + 1 < State.reset.params.scale ∧
    { State.reset with residual := 3 }.params.scale ≤ { State.reset with residual := 3 }.residual + 1 ∧
    State.reset.countAdvance.advanceTasks = [] ∧
    (change 0 true 1209170 (line [] s2 1209179)).countAdvance.advanceTasks = [.edge 0 0] ∧
    (holding 1999).countAdvance.advanceTasks = [.hold 2] ∧
    pointAhead.countAdvance.advanceTasks = [.releaseTest 0] ∧
    ((line [awaited] s2Out 1209321).PoolSound ∧
      (line [awaited] s2Out 1209321).countAdvance.advanceTasks = [.deadline 0 302]) ∧
    (edgeAtDeadline.PoolSound ∧
      edgeAtDeadline.countAdvance.advanceTasks = [.edge 0 1, .deadline 0 302] ∧
      (after (.edgeAccepted 0 1) edgeAtDeadline.countAdvance).laneWithTag 302 = some 0) ∧
    (∃ t, exec (.edgeAccepted 0 1) edgeAtDeadline.countAdvance = .next t) ∧
    .edge 0 0 ∉ State.reset.countAdvance.advanceTasks ∧
    ((besides pointAhead).PoolSound ∧
      (besides pointAhead).countAdvance.advanceTasks = [.releaseTest 0, .deadline 1 303]) ∧
    (edgeBesides pointAhead).countAdvance.advanceTasks = [.edge 1 1, .releaseTest 0] ∧
    (96 ≤ (withLoaded (line fullQueue s2 0)).records.length ∧
      ((withLoaded (line fullQueue s2 0)).lane 0).state = .opened ∧
      (withLoaded (line fullQueue s2 0)).laneOf 1 = 0 ∧
      ((withLoaded (line fullQueue s2 0)).station 1).state = .loaded) := by
  refine ⟨?_, ?_, ?_, ?_, ?_, ?_, ?_, ?_, ?_, ⟨_, rfl⟩, ?_, ?_, ?_, ?_⟩ <;> decide +kernel

theorem witness_GateEndUpdatesTheSpeed :
    (State.reset.resetPhase = .running ∧ State.reset.gateCount = 0 ∧
      State.reset.emptyGate = true ∧ ∀ l, State.reset.armedStation l = none) ∧
    (armedLine.resetPhase = .running ∧ armedLine.GrantsSound ∧ armedLine.armedStation 0 = some 2 ∧
      (3 * armedLine.speed + 8 * armedLine.gateCount + 2) / 4 = 1010 ∧
      { armedLine with speed := 1010 }.workedPoint 0 2 = some 1207006 ∧
      (armedLine.travel - 1207006).msb = false ∧ armedLine.poolCount < 96 ∧
      ∀ m, m ≠ 0 → armedLine.armedStation m = none) ∧
    ({ armedLine with gateCount := 125 }.workedPoint 0 2 = some 1207010 ∧
      (armedLine.travel - 1207010).msb = true) := by decide +kernel

theorem witness_EyesAreConditioned :
    ((change 0 true 5 State.reset).resetPhase = .running ∧
      false ≠ ((change 0 true 5 State.reset).eye 0 0).raw ∧
      false = ((change 0 true 5 State.reset).eye 0 0).accepted) ∧
    (true ≠ ((line [] s2 0).eye 0 0).raw ∧ true ≠ ((line [] s2 0).eye 0 0).accepted ∧
      (line [] s2 0).params.fe ≠ 0) ∧
    (true ≠ (State.reset.eye 0 0).raw ∧ true ≠ (State.reset.eye 0 0).accepted ∧
      State.reset.params.fe = 0) ∧
    (((change 0 true 5 (line [] s2 15)).eye 0 0).pending = some 5 ∧
      ((change 0 true 5 (line [] s2 15)).travel -
        (5 + BitVec.ofNat 32 (change 0 true 5 (line [] s2 15)).params.fe)).msb = false) ∧
    (State.reset.setEye 1 0 ⟨true, false, some 0⟩).eye 1 0 = ⟨true, false, some 0⟩ ∧
      ((State.reset.setEye 1 0 ⟨true, false, some 0⟩).lane 1).state = .closed ∧
      ((State.reset.setEye 1 0 ⟨true, false, some 0⟩).travel - (0 + BitVec.ofNat 32 0)).msb = false := by
  decide +kernel

/-! ### Witnesses: edges -/

/-- The hypotheses on an edge of L0 at an eye: taken now, in a lane that is not CLOSED, with a sound
pool. -/
def edgeTaken (k : EyeNo) (raw : Bool) (x : Pos) (s : State) : Bool :=
  decide (s.resetPhase = .running ∧ s.PoolSound ∧ (s.lane 0).state ≠ .closed ∧
    (s.eye 0 k).raw = raw ∧ (s.eye 0 k).pending = some x ∧
    (s.travel - (x + BitVec.ofNat 32 s.params.fe)).msb = false)

/-- The head of L0 that a test finds. -/
def finds (eye : NextEye) (r : Record) (s : State) : Bool :=
  decide ((s.queue 0).find? (fun y => decide (y.nextEye = eye)) = some r)

/-- An edge x comes at E0 as its filter ends, with records and S2 as given. -/
def entry (covered : Bool) (x : Pos) (queue : List Record) (st : Station) : State :=
  change 0 covered x (line queue st (x + 10))

/-- S2 in FINISHING with one record outstanding. -/
def finishing : Station :=
  { s2 with state := .finishing, current := some { batch415 with remaining := 0 }, outstanding := 1 }

/-- The same in RUN mode, where it can hold the grant of L0. -/
def finishingRun : Station := { finishing with params := { finishing.params with mode := .run } }

/-- A state with the grant of L0 held by S2. -/
def granted (s : State) : State := s.setLane 0 { s.lane 0 with grant := some 2 }

/-- The match of tag 302 by the edge of `entry` at 1,209,012, before its notice. -/
def matched (s : State) : State :=
  (s.setEye 0 0 ⟨true, true, none⟩).setQueue 0
    [{ awaited with le0 := some 1209012, predLe0 := none, nextEye := .e1, deadline := 1218722,
                    clearDeadline := some 1215022 }]

theorem witness_AnEdgeInTheEntryWindowMatches :
    ([1209012, 1209312] : List Pos).all (fun x => decide (
      edgeTaken 0 true x (entry true x [awaited] s2Out) ∧
      finds .e0 awaited (entry true x [awaited] s2Out) ∧ awaited.predLe0 = some 1209162 ∧
      -(150 : Int) ≤ (x - 1209162).toInt ∧ (x - 1209162).toInt ≤ 150 ∧
      ((entry true x [awaited] s2Out).lane 0).geometry.w0 = 150 ∧
      (entry true x [awaited] s2Out).armedStation 0 = none ∧
      ((entry true x [awaited] s2Out).travel - (x + BitVec.ofNat 32 (9500 + 200 + 10))).msb = true ∧
      ((entry true x [awaited] s2Out).travel - (x + BitVec.ofNat 32 (2 * 3000 + 10))).msb = true)) ∧
    (awaited.origin = some 2 ∧ s2Out.state ≠ .finishing) ∧
    (finishing.state = .finishing ∧ finishing.outstanding = 1 ∧
      finishing.current = some { batch415 with remaining := 0 } ∧
      ((entry true 1209012 [awaited] finishing).lane 0).grant ≠ some 2 ∧
      edgeTaken 0 true 1209012 (entry true 1209012 [awaited] finishing)) ∧
    (∀ s ∈ [granted (entry true 1209012 [awaited] finishingRun),
        withLoaded (granted (entry true 1209012 [awaited] finishingRun))],
      edgeTaken 0 true 1209012 s ∧ finds .e0 awaited s ∧ (s.lane (s.laneOf 2)).grant = some 2 ∧
      s.laneOf 2 = 0 ∧ s.station 2 = finishingRun ∧ finishingRun.next = none) ∧
    (∃ v, ((ended (matched (granted (entry true 1209012 [awaited] finishingRun)))).offer
      (.batchEnd 2 415 20 20 false)).GaveBack 0 v) ∧
    (∃ v, ((ended (matched (withLoaded (granted (entry true 1209012 [awaited] finishingRun))))).offer
      (.batchEnd 2 415 20 20 false)).GaveBack 0 v) ∧
    edgeTaken 0 true 1209012 (entry true 1209012 [{ awaited with origin := none }] s2) ∧
    (edgeTaken 0 true 1209012 (withArmed (entry true 1209012 [awaited] s2Out)) ∧
      (withArmed (entry true 1209012 [awaited] s2Out)).armedStation 0 = some 1 ∧
      ((withArmed (entry true 1209012 [awaited] s2Out)).queue 0).getLast? = some awaited) ∧
    ∃ t, exec (.release 0) (withArmed (entry true 1209012 [awaited] s2Out)) = .next t := by
  refine ⟨?_, ?_, ?_, ?_, gaveBack_none (.inr ?_), gaveBack_some ?_ rfl, ?_, ?_, ⟨_, rfl⟩⟩ <;>
    decide +kernel

/-- R43, R49 and R50: the last match of a FINISHING RUN station ends its batch, its lane's grant goes
to the LOADED station, which becomes ARMED. -/
theorem test_completion_gives_the_grant_back :
    let t := after (.edgeAccepted 0 0)
      (withLoaded (granted (entry true 1209012 [awaited] finishingRun)))
    (t.station 2).state = .noBatch ∧ (t.lane 0).grant = some 1 ∧
      t.reports.queue = [.batchEnd 2 415 20 20 false] := by decide +kernel

theorem witness_AnUnmatchedEdgeAtE0MakesAForeignRecord :
    ([1209011, 1209313] : List Pos).all (fun x => decide (
      edgeTaken 0 true x (entry true x [awaited] s2Out) ∧
      finds .e0 awaited (entry true x [awaited] s2Out) ∧ awaited.predLe0 = some 1209162 ∧
      ((x - 1209162).toInt < -150 ∨ 150 < (x - 1209162).toInt) ∧
      (entry true x [awaited] s2Out).records.length < 96 ∧
      (∀ y ∈ (entry true x [awaited] s2Out).records, y.tag ≠ 303) ∧
      (entry true x [awaited] s2Out).armedStation 0 = none ∧
      ((entry true x [awaited] s2Out).travel - (x + BitVec.ofNat 32 (9500 + 200 + 10))).msb = true ∧
      ((entry true x [awaited] s2Out).travel - (x + BitVec.ofNat 32 (12000 + 10))).msb = true)) ∧
    edgeTaken 0 true 0 (entry true 0 fullQueue s2) ∧
      (∀ y ∈ (entry true 0 fullQueue s2).queue 0, y.nextEye ≠ .e0) ∧
      96 ≤ (entry true 0 fullQueue s2).records.length ∧
    (edgeTaken 0 true 1209011 (withArmed (entry true 1209011 [awaited] s2Out)) ∧
      (withArmed (entry true 1209011 [awaited] s2Out)).armedStation 0 = some 1) ∧
    ∃ t, exec (.release 0) (withArmed (entry true 1209011 [awaited] s2Out)) = .next t := by
  refine ⟨?_, ?_, ?_, ?_, ?_, ⟨_, rfl⟩⟩ <;> decide +kernel

/-- Tag 302 past E3 by a leading edge there, and still on E0. -/
def longAtE3 (le3 : Pos) : Record :=
  { entered with nextEye := .clear, le3 := some le3, deadline := 1212300, clearDeadline := none }

theorem witness_ATrailingEdgeAtE0MeasuresAndClasses :
    (edgeTaken 0 false 1212195 (entry false 1212195 [awaited] s2Out) ∧
      ∀ y ∈ (entry false 1212195 [awaited] s2Out).queue 0, y.le0 = none ∨ y.te0 ≠ none) ∧
    (∀ n ∈ [2939, 2940, 3060, 3061, 4499, 4500],
      edgeTaken 0 false (1209170 + BitVec.ofNat 32 n)
        (entry false (1209170 + BitVec.ofNat 32 n) [entered] s2) ∧
      ((entry false (1209170 + BitVec.ofNat 32 n) [entered] s2).queue 0).find?
        (fun y => y.le0.isSome && y.te0.isNone) = some entered ∧ entered.le0 = some 1209170 ∧
      (entry false (1209170 + BitVec.ofNat 32 n) [entered] s2).armedStation 0 = none ∧
      (entered.nextEye ≠ .clear ∧ entered.le3 = none)) ∧
    (edgeTaken 0 false 1212195 (withArmed (entry false 1212195 [entered] s2)) ∧
      (withArmed (entry false 1212195 [entered] s2)).armedStation 0 = some 1 ∧
      ((withArmed (entry false 1212195 [entered] s2)).queue 0).getLast? = some entered) ∧
    (∃ t, exec (.release 0) (withArmed (entry false 1212195 [entered] s2)) = .next t) ∧
    (∀ y ∈ [longAtE3 1208920, longAtE3 1208921],
      edgeTaken 0 false 1212195 (entry false 1212195 [y] s2) ∧
      ((entry false 1212195 [y] s2).queue 0).find? (fun y => y.le0.isSome && y.te0.isNone) = some y ∧
      y.nextEye = .clear ∧ y.le0 = some 1209170) ∧
    ((1212205 : Pos) - (1208920 + BitVec.ofNat 32 (3025 + 250 + 10))).msb = false ∧
    ((1212205 : Pos) - (1208921 + BitVec.ofNat 32 (3025 + 250 + 10))).msb = true := by
  refine ⟨?_, ?_, ?_, ⟨_, rfl⟩, ?_, ?_, ?_⟩ <;> decide +kernel

/-- An edge x at an eye past E0, taken as its filter ends. -/
def downstream (k : EyeNo) (covered : Bool) (x : Pos) (queue : List Record) : State :=
  change k covered x (line queue s2 (x + 10))

/-- The same state with E2 and E3 close behind E1 and E2, so that the deadline a match sets can lie
behind the travel, and a W2. -/
def close (w2 : Nat) (s : State) : State :=
  s.setLane 0 { s.lane 0 with
    geometry := { pos1 := 9500, pos2 := 9600, pos3 := 9700, w0 := 150, w1 := 2000, w2 := w2,
                  w3 := 5 } }

theorem witness_EdgesDownstreamMatchOrStray :
    (∀ k ∈ [(1 : EyeNo), 2, 3], edgeTaken k false 1218690 (downstream k false 1218690 [past .e1 1218880])) ∧
    (∀ y ∈ (downstream 3 false 1218690 [past .e1 1218880]).queue 0, y.nextEye ≠ .clear) ∧
    (∀ k ∈ [(1 : EyeNo), 2, 3], edgeTaken k true 1218690 (downstream k true 1218690 [awaited])) ∧
    (∀ y ∈ (downstream 1 true 1218690 [awaited]).queue 0, y.nextEye ≠ .e1) ∧
    ([1218470, 1218870] : List Pos).all (fun x => decide (
      edgeTaken 1 true x (downstream 1 true x [past .e1 1218880]) ∧
      finds .e1 (past .e1 1218880) (downstream 1 true x [past .e1 1218880]) ∧
      -(200 : Int) ≤ (x - (1209170 + BitVec.ofNat 32 9500)).toInt ∧
      (x - (1209170 + BitVec.ofNat 32 9500)).toInt ≤ 200 ∧
      (x + 10 - (1209170 + BitVec.ofNat 32 (14000 + 250 + 10))).msb = true)) ∧
    ([1218469, 1218871] : List Pos).all (fun x => decide (
      edgeTaken 1 true x (downstream 1 true x [past .e1 1218880]) ∧
      ((x - (1209170 + BitVec.ofNat 32 9500)).toInt < -200 ∨
        200 < (x - (1209170 + BitVec.ofNat 32 9500)).toInt))) ∧
    ([1226420, 1226920] : List Pos).all (fun x => decide (
      edgeTaken 3 true x (downstream 3 true x [past .e3 1226930]) ∧
      finds .e3 (past .e3 1226930) (downstream 3 true x [past .e3 1226930]) ∧
      -(250 : Int) ≤ (x - (1209170 + BitVec.ofNat 32 17500)).toInt ∧
      (x - (1209170 + BitVec.ofNat 32 17500)).toInt ≤ 250 ∧
      (x + 10 - (x + BitVec.ofNat 32 (3025 + 250 + 10))).msb = true)) ∧
    (edgeTaken 1 true 1220670 (close 5 (downstream 1 true 1220670 [past .e1 1220880])) ∧
      finds .e1 (past .e1 1220880) (close 5 (downstream 1 true 1220670 [past .e1 1220880])) ∧
      ((1220670 : Pos) - (1209170 + BitVec.ofNat 32 9500)).toInt ≤ 2000 ∧
      ((1220680 : Pos) - (1209170 + BitVec.ofNat 32 (9600 + 5 + 10))).msb = false) := by
  decide +kernel

/-- An edge at E2 with a fold interface of L0. -/
def folding (f : Folder) (x : Pos) : State :=
  (downstream 2 true x [past .e2 1223430]).modFolder 0 fun _ => f

/-- A fold interface in its strobe, with one command and with two. -/
def oneCommand : Folder := ⟨[⟨300, 1⟩], .strobe, some 5, true, 1⟩
def twoCommands : Folder := ⟨[⟨300, 1⟩, ⟨301, 1⟩], .strobe, some 5, true, 1⟩

theorem witness_AMatchAtE2MakesAFoldCommand :
    ([1222920, 1223420] : List Pos).all (fun x => decide (
      ∀ f ∈ [Folder.atReset, oneCommand, twoCommands],
      edgeTaken 2 true x (folding f x) ∧ finds .e2 (past .e2 1223430) (folding f x) ∧
      -(250 : Int) ≤ (x - (1209170 + BitVec.ofNat 32 14000)).toInt ∧
      (x - (1209170 + BitVec.ofNat 32 14000)).toInt ≤ 250 ∧
      ((folding f x).lane 0).folder = f ∧
      ((folding f x).travel - (1209170 + BitVec.ofNat 32 (17500 + 250 + 10))).msb = true)) ∧
    (Folder.atReset.phase = .idle ∧ Folder.atReset.queue = []) ∧
    (oneCommand.phase ≠ .idle ∧ oneCommand.queue.length < 2) ∧
    2 ≤ twoCommands.queue.length ∧
    (edgeTaken 2 true 1220770 (close 2000 (folding Folder.atReset 1220770)) ∧
      finds .e2 (past .e2 1223430) (close 2000 (folding Folder.atReset 1220770)) ∧
      ((1220770 : Pos) - (1209170 + BitVec.ofNat 32 9600)).toInt ≤ 2000 ∧
      ((1220780 : Pos) - (1209170 + BitVec.ofNat 32 (9700 + 5 + 10))).msb = false) := by
  decide +kernel

/-- Tag 302 at the stacker, with its stacking unit in a state. -/
def atStacker (st : StackState) (timer : StackerTimer) (r : Record) : State :=
  stacking st timer (downstream 3 false 1229725 [r])

/-- A record of L1, to hold a plan change in its first phase. -/
def behind : Record := { past .e2 1223430 with tag := 303 }

/-- Tag 302 at the stacker with a reject cause, and its stacking unit in a state. -/
def lastShort (st : StackState) : State := atStacker st .idle { leaving with cause := some .short }

/-- A stacking unit has an outcome for every record. -/
theorem stacks_exists (s : State) (z : Stacker) (r : Record) : ∃ o z', s.Stacks z r o z' := by
  unfold State.Stacks
  split <;> exact ⟨_, _, rfl, rfl⟩

theorem witness_ATrailingEdgeAtE3Retires :
    (∀ s z r, ∃ o z', State.Stacks s z r o z') ∧
    (∀ st ∈ [StackState.empty, .building ⟨414, 1, 5, 20⟩, .building ⟨415, 1, 18, 20⟩,
        .building ⟨415, 1, 19, 20⟩, .discharging ⟨414, 1, 5, .batch⟩ none,
        .discharging ⟨414, 1, 5, .batch⟩ (some ⟨415, 1, 20⟩)],
      ∀ c ∈ [none, some RejectCause.short],
        edgeTaken 3 false 1229725 (atStacker st .idle { leaving with cause := c }) ∧
        finds .clear { leaving with cause := c } (atStacker st .idle { leaving with cause := c }) ∧
        (atStacker st .idle { leaving with cause := c }).phase = .noChange ∧
        ((atStacker st .idle { leaving with cause := c }).lane 0).stacker.state = st ∧
        (atStacker st .idle { leaving with cause := c }).armedStation 0 = none) ∧
    1 < ((line [] s2 0).classEntry 1).target ∧
    (edgeTaken 3 false 1229725 (changing .track (downstream 3 false 1229725 [leaving, behind])) ∧
      (changing .track (downstream 3 false 1229725 [leaving, behind])).phase = .track ∧
      ((changing .track (downstream 3 false 1229725 [leaving, behind])).lane 0).state = .draining ∧
      behind ∈ (changing .track (downstream 3 false 1229725 [leaving, behind])).queue 0 ∧
      behind.tag ≠ leaving.tag) ∧
    (edgeTaken 3 false 1229725 (changing .stack (lastShort (.discharging ⟨414, 1, 5, .plan⟩ none))) ∧
      finds .clear { leaving with cause := some .short }
        (changing .stack (lastShort (.discharging ⟨414, 1, 5, .plan⟩ none))) ∧
      (changing .stack (lastShort (.discharging ⟨414, 1, 5, .plan⟩ none))).phase = .stack ∧
      ((changing .stack (lastShort (.discharging ⟨414, 1, 5, .plan⟩ none))).lane 0).state =
        .draining ∧
      ((changing .stack
        (lastShort (.discharging ⟨414, 1, 5, .plan⟩ none))).lane 0).stacker.state.isDischarging =
          true) ∧
    (edgeTaken 3 false 1229725 (withArmed (atStacker .empty .idle leaving)) ∧
      (withArmed (atStacker .empty .idle leaving)).armedStation 0 = some 1) ∧
    ∃ t, exec (.release 0) (withArmed (atStacker .empty .idle leaving)) = .next t := by
  refine ⟨stacks_exists, ?_, ?_, ?_, ?_, ?_, ⟨_, rfl⟩⟩ <;> decide +kernel

/-- Section 9.8: the last good piece brings the count from 18 to 19, one short of the target, and the
unit discharges with reason PLAN. -/
theorem test_last_piece_of_a_plan_change :
    ((after (.edgeAccepted 0 3)
      (changing .track (atStacker (.building ⟨415, 1, 18, 20⟩) .idle leaving))).lane 0).stacker.state =
      .discharging ⟨415, 1, 19, .plan⟩ none ∧
    (after (.edgeAccepted 0 3)
      (changing .track (atStacker (.building ⟨415, 1, 18, 20⟩) .idle leaving))).phase = .stack := by
  decide +kernel

theorem witness_TheLastRetirementEndsATrackPhase :
    (∀ s z r, ∃ o z', State.Stacks s z r o z') ∧
    ∀ s ∈ [changing .track (lastShort .empty), changing .track (lastShort (.building ⟨414, 1, 5, 20⟩)),
        changing .stack (lastShort .empty),
        changing .track (atStacker (.building ⟨415, 1, 18, 20⟩) .idle leaving)],
      edgeTaken 3 false 1229725 s ∧ (s.lane 0).state = .draining ∧
      (finds .clear { leaving with cause := some .short } s ∨
        finds .clear leaving s ∧ leaving.cause = none ∧ s.phase = .track) ∧
      s.planNext = some fourLanes ∧
      (∀ m, (s.lane m).state = .draining → (s.lane m).stacker.state.isDischarging = false ∧
        ∀ y ∈ s.queue m, y.tag = leaving.tag) ∧
      s.reports.queue.length < 31 := by
  refine ⟨stacks_exists, ?_⟩
  decide +kernel

/-! ### Witnesses: deadlines -/

theorem witness_PassedDeadlinesLoseRecordsPastE0 :
    (∀ eye ∈ [NextEye.e1, .e2, .e3, .clear],
      (line [past eye 1218880] s2 1218880).resetPhase = .running ∧
      (line [past eye 1218880] s2 1218880).PoolSound ∧
      past eye 1218880 ∈ (line [past eye 1218880] s2 1218880).queue 0 ∧
      (past eye 1218880).tag = (302 : BitVec 16).toNat ∧
      ((1218880 : Pos) - (past eye 1218880).deadline).msb = false ∧
      (line [past eye 1218880] s2 1218880).phase = .noChange) ∧
    (line [entered] s2 1215180).PoolSound ∧ entered ∈ (line [entered] s2 1215180).queue 0 ∧
      ((1215180 : Pos) - entered.deadline).msb = true ∧ entered.nextEye ≠ .e0 ∧
      entered.clearDeadline = some 1215180 ∧ ((1215180 : Pos) - 1215180).msb = false ∧
    ∀ phase ∈ [PlanPhase.track, .stack],
      (changing phase (line [past .e1 1218880] s2 1218880)).resetPhase = .running ∧
      (changing phase (line [past .e1 1218880] s2 1218880)).PoolSound ∧
      (changing phase (line [past .e1 1218880] s2 1218880)).phase = phase := by
  refine ⟨?_, ?_, ?_, ?_, ?_, ?_, ?_, ?_⟩ <;> decide +kernel

/-- R151 and R152: the last record of the draining lane is lost, and its stack discharges with
reason PLAN or, with every unit EMPTY, the change completes. -/
theorem test_lost_record_moves_a_plan_change :
    let s := changing .track (line [past .e1 1218880] s2 1218880)
    (after (.deadlinePass 302) s).planNow = fourLanes ∧
    ((after (.deadlinePass 302) (stacking (.building ⟨415, 1, 19, 20⟩) .idle s)).lane 0).stacker.state =
      .discharging ⟨415, 1, 19, .plan⟩ none := by decide +kernel

/-- The end of the entry window of tag 302, with S2 and the accepted state of E0 as given, and records
ahead. -/
def windowOver (x : Station) (covered : Bool) (ahead : List Record) : State :=
  (line (ahead ++ [awaited]) x 1209322).setEye 0 0 ⟨covered, covered, none⟩

/-- The record on E0 ahead of tag 302. -/
def onE0 : Record := { entered with tag := 303 }

/-- The end of the entry window with S2 FINISHING in RUN mode and the grant of L0, its hold from an
origin. -/
def windowHolder (holdOrigin : Pos) (b : Batch) : State :=
  granted (windowOver { finishingRun with current := some b, holdOrigin := holdOrigin } false [])

/-- Tag 302 removed and its piece restored. -/
def restored (s : State) (b : Batch) : State :=
  (s.setQueue 0 []).setStation 2 { s.station 2 with
    outstanding := 0, current := some { b with remaining := b.remaining + 1 }, state := .waiting }

/-- Batch 415 with its last piece released, and the same id of a batch that lost none. -/
def allReleased : Batch := { batch415 with remaining := 0 }
def otherBatch : Batch := { allReleased with id := 416 }

theorem witness_AnEntryWindowEndsAsMisfeedOrMerged :
    (∀ x ∈ [s2Out, { s2Out with current := some { batch415 with remaining := 20 } },
        { s2Out with current := some { batch415 with id := 416 } }, finishing,
        { finishing with outstanding := 2 }],
      ∀ covered, ∀ ahead ∈ [[], [onE0]],
        (windowOver x covered ahead).resetPhase = .running ∧ (windowOver x covered ahead).PoolSound ∧
        awaited ∈ (windowOver x covered ahead).queue 0 ∧
        (windowOver x covered ahead).phase = .noChange ∧
        (windowOver x covered ahead).armedStation 0 = none ∧
        (windowOver x covered ahead).station 2 = x ∧
        ((windowOver x covered ahead).eye 0 0).accepted = covered ∧
        ((windowOver x covered ahead).lane 0).grant ≠ some 2) ∧
    awaited.tag = (302 : BitVec 16).toNat ∧ ((1209322 : Pos) - awaited.deadline).msb = false ∧
    awaited.nextEye = .e0 ∧ awaited.origin = some 2 ∧
    (batch415.id = awaited.batch ∧ batch415.remaining < batch415.pieces ∧
      s2Out.params.mode = .single ∧ s2Out.state ≠ .finishing ∧ 0 < batch415.pieces) ∧
    (onE0.le0.isSome && onE0.te0.isNone) = true ∧
    (windowOver finishing true []).station 2 = finishing ∧ finishing.outstanding = 1 ∧
    (∀ s ∈ [windowHolder 0 allReleased, withLoaded (windowHolder 0 allReleased),
        windowHolder 1208000 allReleased, windowHolder 0 otherBatch],
      s.resetPhase = .running ∧ s.PoolSound ∧ awaited ∈ s.queue 0 ∧
      (s.lane (s.laneOf 2)).grant = some 2 ∧ s.laneOf 2 = 0 ∧ (s.station 2).state = .finishing ∧
      (s.station 2).params.mode = .run ∧ (s.station 2).outstanding = 1) ∧
    (((1209322 : Pos) - (0 + BitVec.ofNat 32 finishingRun.params.hold)).msb = false ∧
      ((1209322 : Pos) - (1208000 + BitVec.ofNat 32 finishingRun.params.hold)).msb = true) ∧
    (∃ v, (restored (windowHolder 0 allReleased) allReleased).GaveBack 0 v) ∧
    (∃ v, (restored (withLoaded (windowHolder 0 allReleased)) allReleased).GaveBack 0 v) ∧
    (∃ v, ((ended ((windowHolder 0 otherBatch).setQueue 0 [])).offer
      (.batchEnd 2 416 20 20 false)).GaveBack 0 v) ∧
    (changing .track (windowOver s2Out false [])).phase = .track ∧
    (withArmed (windowOver s2Out false [])).armedStation 0 = some 1 ∧
    ∃ t, exec (.release 0) (withArmed (windowOver s2Out false [])) = .next t := by
  refine ⟨?_, ?_, ?_, ?_, ?_, ?_, ?_, ?_, ?_, ?_, ?_, gaveBack_none (.inr ?_),
    gaveBack_some ?_ rfl, gaveBack_none (.inr ?_), ?_, ?_, ⟨_, rfl⟩⟩ <;> decide +kernel

/-! ### Witnesses: stations and arbiters -/

theorem witness_ARunHoldEndsByGivingTheGrantBack :
    ((holding 1999).resetPhase = .running ∧ (holding 1999).laneOf 2 = 0 ∧
      ((holding 1999).travel - (((holding 1999).station 2).holdOrigin +
        BitVec.ofNat 32 ((holding 1999).station 2).params.hold)).msb = true) ∧
    (holding 2000).resetPhase = .running ∧ (holding 2000).laneOf 2 = 0 ∧
      ((holding 2000).station 2).state = .waiting ∧
      ((holding 2000).station 2).params.mode = .run ∧ ((holding 2000).lane 0).grant = some 2 ∧
      ((holding 2000).travel - (((holding 2000).station 2).holdOrigin +
        BitVec.ofNat 32 ((holding 2000).station 2).params.hold)).msb = false ∧
      (∀ su, (holding 2000).laneOf su = 0 → ((holding 2000).station su).state ≠ .loaded) ∧
    ((holding 2000).lane 0).state = .opened ∧ (withLoaded (holding 2000)).Chosen 0 1 ∧
    (rotating (withLoaded (holding 2000))).Chosen 0 1 := by
  refine ⟨?_, ?_, ?_, ?_, ?_, ?_, ?_, ?_, ?_, ?_, ?_⟩ <;> decide +kernel

/-- S2 ARMED with its point just reached, in a feed mode and with a queue. -/
def pointReached (m : FeedMode) (queue : List Record) (p : Option Pos) : State :=
  { line queue { s2 with state := .armed, params := { s2.params with mode := m } } 1207009 with
    lanes := { State.reset.lanes with
      q0 := { lane0 queue with grant := some 2, releasePoint := p } } }

theorem witness_AReleaseMakesARecord :
    ((State.reset.lane 0).state ≠ .opened ∧
      ((pointReached .single [queen301] (some 1207010)).travel - 1207010).msb = true ∧
      96 ≤ (pointReached .single fullQueue none).records.length) ∧
    (∀ m ∈ [FeedMode.single, .run], ([none, some 1207009] : List (Option Pos)).all (fun p => decide (
      (pointReached m [queen301] p).resetPhase = .running ∧
      ((pointReached m [queen301] p).lane 0).state = .opened ∧
      ((pointReached m [queen301] p).lane 0).grant = some 2 ∧
      ((pointReached m [queen301] p).station 2).state = .armed ∧
      ((pointReached m [queen301] p).station 2).current = some batch415 ∧
      (pointReached m [queen301] p).records.length < 96 ∧
      (pointReached m [queen301] p).PoolSound ∧
      ((pointReached m [queen301] p).lane 0).releasePoint = p ∧
      (∀ y ∈ (pointReached m [queen301] p).records, y.tag ≠ 302) ∧
      ∀ su, su ≠ 2 → (pointReached m [queen301] p).laneOf su = 0 →
        ((pointReached m [queen301] p).station su).state ≠ .loaded))) ∧
    ((1207009 : Pos) - 1207009).msb = false ∧
    ∀ s ∈ [withLoaded (pointReached .single [queen301] none),
        rotating (withLoaded (pointReached .single [queen301] none))],
      s.resetPhase = .running ∧ s.PoolSound ∧ (s.lane 0).grant = some 2 ∧
      (s.station 2).state = .armed ∧ (s.releaseOf 0 2 batch415).Chosen 0 1 := by decide +kernel

/-- S2 WAITING with the grant and a queue. -/
def holdsWith (queue : List Record) (grant : Option StationNo) (travel : Pos) : State :=
  { line queue s2 travel with
    lanes := { State.reset.lanes with q0 := { lane0 queue with grant := grant } } }

theorem witness_APedalEdgeLoadsOrArmsAStation :
    (dwellOut.resetPhase = .running ∧ dwellOut.laneOf 2 = 0 ∧
      (dwellOut.station 2).state ≠ .waiting) ∧
    { line [] s2 0 with estop := true }.estop = true ∧
    (((holdsWith [] (some 1) 0).lane 0).grant ≠ some 2 ∧
      ((holdsWith [] (some 1) 0).lane 0).grant ≠ none ∧ (holdsWith [] (some 1) 0).estop = false ∧
      ((holdsWith [] (some 1) 0).station 2).state = .waiting) ∧
    (∀ g ∈ [none, some (2 : StationNo)], ∀ queue ∈ [[], [queen301]],
      ([1207009, 1207010] : List Pos).all (fun travel => decide (
        (holdsWith queue g travel).resetPhase = .running ∧ (holdsWith queue g travel).laneOf 2 = 0 ∧
        ((holdsWith queue g travel).station 2).state = .waiting ∧
        (holdsWith queue g travel).estop = false ∧
        ((holdsWith queue g travel).lane 0).state = .opened ∧
        ((holdsWith queue g travel).lane 0).grant = g ∧
        (holdsWith queue g travel).params.mode = .fixed ∧
        (∀ su, (holdsWith queue g travel).laneOf su = 0 →
          ((holdsWith queue g travel).station su).state ≠ .loaded) ∧
        ((holdsWith queue g travel).station 2).current = some batch415 ∧
        (holdsWith queue g travel).records.length < 96))) ∧
    (∀ s ∈ [withLoaded (holdsWith [] none 0), rotating (withLoaded (holdsWith [] none 0))],
      s.resetPhase = .running ∧ (s.lane 0).state = .opened ∧ (s.lane 0).grant = none ∧
      (s.station 2).state = .waiting ∧
      (s.setStation 2 { s.station 2 with state := .loaded }).Chosen 0 1) ∧
    ((1207009 : Pos) - (1204500 + BitVec.ofNat 32 (2700 + 60) + BitVec.ofNat 32 1900 -
      BitVec.ofNat 32 (1800 + 350))).msb = true ∧
    ((1207010 : Pos) - (1204500 + BitVec.ofNat 32 (2700 + 60) + BitVec.ofNat 32 1900 -
      BitVec.ofNat 32 (1800 + 350))).msb = false := by decide +kernel

/-- S2 in a state of its clamp cycle, with pieces left and records outstanding. -/
def cycling (st : StationState) (remaining outstanding : Nat) (m : FeedMode) : Station :=
  { s2 with state := st, current := some { batch415 with remaining := remaining },
            outstanding := outstanding, timer := some 0, holdOrigin := 0,
            params := { s2.params with mode := m } }

/-- The same with the grant, at a travel. -/
def cyclingHolder (travel : Pos) : State :=
  { line [] (cycling .returning 1 0 .run) travel with
    lanes := { State.reset.lanes with q0 := { lane0 [] with grant := some 2 } } }

theorem witness_TheClampCycleRunsOn :
    (∀ st, (line [] (cycling st 1 0 .single) 0).resetPhase = .running ∧
      ((line [] (cycling st 1 0 .single) 0).station 2).state = st) ∧
    ((cycling .returning 1 0 .single).params.mode = .single ∧ (cyclingHolder 1999).laneOf 2 = 0 ∧
      (cyclingHolder 1999).resetPhase = .running ∧
      ((cyclingHolder 1999).travel - (0 + BitVec.ofNat 32 2000)).msb = true) ∧
    (((cyclingHolder 2000).station 2).params.mode = .run ∧ ((cyclingHolder 2000).lane 0).grant = some 2 ∧
      ((cyclingHolder 2000).travel - (0 + BitVec.ofNat 32 2000)).msb = false) ∧
    (∀ out ∈ [0, 1], (line [] (cycling .returning 0 out .single) 0).station 2 =
      cycling .returning 0 out .single ∧
      ((line [] (cycling .returning 0 out .single) 0).lane 0).grant ≠ some 2) ∧
    ((granted (line [] (cycling .returning 0 0 .run) 0)).station 2 = cycling .returning 0 0 .run ∧
      (cycling .returning 0 0 .run).next = none ∧
      ((granted (line [] (cycling .returning 0 0 .run) 0)).lane 0).grant = some 2) ∧
    (∃ g, ((ended (granted (line [] (cycling .returning 0 0 .run) 0))).offer
      (.batchEnd 2 415 20 20 false)).GaveBack 0 g) ∧
    ∃ g, ((ended (withLoaded (granted (line [] (cycling .returning 0 0 .run) 0)))).offer
      (.batchEnd 2 415 20 20 false)).GaveBack 0 g := by
  refine ⟨fun st => ⟨rfl, rfl⟩, ?_, ?_, ?_, ?_, gaveBack_none (.inr ?_), gaveBack_some ?_ rfl⟩ <;>
    decide +kernel

/-! ### Witnesses: delivery and protection -/

theorem witness_FoldStrobesAndGapsEnd :
    (folding twoCommands 1223190).resetPhase = .running ∧ twoCommands.phase = .strobe ∧
    ∀ q ∈ [[], [FoldCommand.mk 301 1]],
      ((folding ⟨q, .gap, some 0, false, 0⟩ 1223190).lane 0).folder =
        ⟨q, .gap, some 0, false, 0⟩ := by decide +kernel

/-- L0 discharging, in a plan phase. -/
def dischargingIn (phase : PlanPhase) (pocket : Option PocketPiece) : State :=
  changing phase (stacking (.discharging ⟨414, 1, 5, .batch⟩ pocket) (.running 0) (line [] s2 0))

/-- The same with L1 DRAINING and discharging too. -/
def twoDischarging : State :=
  (dischargingIn .stack none).setLane 1 { Lane.atReset .draining [] (.fill false) with
    stacker := ⟨.discharging ⟨416, 1, 5, .plan⟩ none, .running 0, true, 0⟩ }

theorem witness_DischargesEndOrTimeOut :
    ((line [] s2 0).resetPhase = .running ∧ ((line [] s2 0).lane 0).stacker.state = .empty) ∧
    (∀ pocket ∈ [none, some ⟨415, 1, 1⟩, some ⟨415, 1, 2⟩], ∀ phase ∈ [PlanPhase.noChange, .stack],
      (dischargingIn phase pocket).resetPhase = .running ∧
      ((dischargingIn phase pocket).lane 0).stacker.state =
        .discharging ⟨414, 1, 5, .batch⟩ pocket ∧ (dischargingIn phase pocket).phase = phase ∧
      ((dischargingIn phase pocket).lane 0).state = .draining ∧
      (dischargingIn phase pocket).planNext = some fourLanes ∧
      ((dischargingIn phase pocket).lane 0).stacker.timer = .running 0) ∧
    (∀ m, ((dischargingIn .stack none).lane m).state = .draining →
      (dischargingIn .stack none).queue m = [] ∧ (m ≠ 0 →
        ((dischargingIn .stack none).lane m).stacker.state.isDischarging = false)) ∧
    (dischargingIn .stack none).reports.queue.length < 31 ∧
    ∀ s ∈ [(dischargingIn .stack none).setQueue 0 [leaving], twoDischarging],
      s.resetPhase = .running ∧ (s.lane 0).stacker.state = .discharging ⟨414, 1, 5, .batch⟩ none ∧
      s.phase = .stack ∧ (s.queueLeft ∨ ∃ m : LaneNo, m ≠ 0 ∧ (s.lane m).state = .draining ∧
        (s.lane m).stacker.state.isDischarging = true) := by
  refine ⟨?_, ?_, ?_, ?_, ?_⟩ <;> decide +kernel

theorem witness_TheScorchGuardEvaluatesAndExpires :
    (past .e2 1223430 ∈ { line [past .e2 1223430] s2 0 with speed := 99 }.records ∧
      (past .e2 1223430).le0 ≠ none ∧ (past .e2 1223430).nextEye = .e2 ∧
      { line [past .e2 1223430] s2 0 with speed := 99 }.speed < (line [] s2 0).params.vs) ∧
    (line [] s2 0).params.vs ≤ { line [past .e2 1223430] s2 0 with speed := 100 }.speed ∧
    (∀ r ∈ (line [awaited, leaving] s2 0).records,
      r.le0 = none ∨ (r.nextEye ≠ .e1 ∧ r.nextEye ≠ .e2)) ∧
    oneMsLeft.resetPhase = .running ∧ oneMsLeft.scorch = .running 1 := by decide +kernel

/-- The accepted state of ESTOP active. -/
def stopped (hold : Option Nat) : State := { State.reset with estop := true, estopHold := hold }

/-- The same with the input still active. -/
def stoppedNow : State := { stopped none with inputs := { Inputs.atReset with estop := true } }

/-- The line with a station in its clamp cycle, a fold command and a discharge. -/
def busyLine (x : Station) : State :=
  stacking (.discharging ⟨414, 1, 5, .batch⟩ none) (.running 1)
    ((line [leaving] x 1226710).modFolder 0 fun _ => ⟨[⟨302, 1⟩], .strobe, some 5, true, 1⟩)

theorem witness_TheEmergencyStopIsTakenAndReleased :
    ((stopped none).resetPhase = .running ∧ (stopped none).estop = true) ∧
    (∀ x ∈ [cycling .opening 1 0 .single, cycling .dwell 0 1 .single, cycling .returning 0 0 .single,
        s2],
      (busyLine x).resetPhase = .running ∧ (busyLine x).estop = false ∧ (busyLine x).GrantsSound ∧
      (busyLine x).PoolSound ∧ ((busyLine x).lane 0).state = .opened ∧
      ((busyLine x).lane 0).stacker.state.isDischarging = true ∧
      ((busyLine x).lane 1).stacker.state.isDischarging = false) ∧
    (armedLine.GrantsSound ∧ armedLine.PoolSound ∧ armedLine.estop = false ∧
      (armedLine.station 2).state.inCycle = false) ∧
    (∀ st b, ((busyLine s2).station st).state.inCycle = true →
      ((busyLine s2).station st).current = some b →
      0 < b.remaining ∨ 0 < ((busyLine s2).station st).outstanding) ∧
    (((busyLine (cycling .returning 0 0 .single)).station 2).state.inCycle = true ∧
      ((busyLine (cycling .returning 0 0 .single)).station 2).current =
        some { batch415 with remaining := 0 } ∧
      ((busyLine (cycling .returning 0 0 .single)).station 2).outstanding = 0) ∧
    ((stopped (some 0)).resetPhase = .running ∧ (stopped (some 0)).estopHold ≠ none) ∧
    (stoppedNow.resetPhase = .running ∧ stoppedNow.estop = true ∧
      stoppedNow.inputs.estop = true ∧ stoppedNow.estopHold = none) := by
  refine ⟨?_, ?_, ?_, ?_, ?_, ?_, ?_⟩
  · decide +kernel
  · decide +kernel
  · decide +kernel
  · intro st b h
    exact absurd h (by revert st; decide +kernel)
  · decide +kernel
  · decide +kernel
  · decide +kernel

/-- R43 and R53: the batch that an activation completes is reported. -/
theorem test_estop_completes_a_batch :
    (after .estopActivation (busyLine (cycling .returning 0 0 .single))).reports.queue =
      [.batchEnd 2 415 20 20 false] := by decide +kernel

theorem witness_RowsWithoutTheirConditionChangeNothing :
    State.reset.resetPhase = .running ∧ (State.reset.station 0).state = .noBatch ∧
    (State.reset.lane 0).folder.phase = .idle ∧
    (State.reset.lane 0).stacker.timer.isRunning = false ∧ State.reset.scorch = .idle ∧
    State.reset.estopHold = none ∧ State.reset.link.reply = none ∧
    (State.reset.eye 0 0).pending = none ∧
    ((change 0 true 5 (line [] s2 14)).eye 0 0).pending = some 5 ∧
    ((change 0 true 5 (line [] s2 14)).travel - (5 + BitVec.ofNat 32 10)).msb = true ∧
    (∀ r ∈ (line [awaited] s2Out 1209321).records, r.tag = (302 : BitVec 16).toNat →
      ((line [awaited] s2Out 1209321).travel - r.deadline).msb = true ∧ r.clearDeadline = none) ∧
    (State.reset.inputs.estop = false ∧ (stopped (some 50)).inputs.estop = false) ∧
    (stoppedNow.resetPhase = .running ∧ stoppedNow.inputs.estop = true ∧ stoppedNow.estop = true ∧
      stoppedNow.estopHold = none) := by
  decide +kernel

/-! ### Witnesses: invariants -/

theorem witness_EveryStepKeepsLinesAlarmsAndReports :
    (waiting .gateEnd).LinesAgree ∧ (waiting .gateEnd).AlarmsSound ∧
    (waiting .gateEnd).ReportsSound ∧ ∃ t, step (waiting .gateEnd) = .next t := by
  refine ⟨?_, ?_, ?_, ⟨_, rfl⟩⟩ <;> decide +kernel

theorem witness_EveryStepKeepsPlansGrantsAndStations :
    (waiting .gateEnd).PlanSound ∧ (waiting .gateEnd).GrantsSound ∧
    (waiting .gateEnd).StationsSound ∧ (waiting .gateEnd).StopSound ∧
    (waiting .gateEnd).ResetSound ∧ (waiting .gateEnd).FitSound ∧ (waiting .gateEnd).OrdersSound ∧
    (waiting .gateEnd).ClosedSound ∧ (waiting .gateEnd).EstopSound ∧
    ∃ t, step (waiting .gateEnd) = .next t := by
  refine ⟨?_, ?_, ?_, ?_, ?_, ?_, ?_, ?_, ?_, ⟨_, rfl⟩⟩ <;> decide +kernel

theorem witness_EveryStepKeepsFoldersStackersAndReset :
    (waiting .gateEnd).FoldersSound ∧ (waiting .gateEnd).StackersSound ∧
    (waiting .gateEnd).ResetSound ∧ (waiting .gateEnd).ClassesSound ∧
    (waiting .gateEnd).PilesSound ∧ ∃ t, step (waiting .gateEnd) = .next t := by
  refine ⟨?_, ?_, ?_, ?_, ?_, ⟨_, rfl⟩⟩ <;> decide +kernel

theorem witness_EveryStepKeepsThePoolAndItsCounts :
    (waiting .gateEnd).RangesSound ∧ (waiting .gateEnd).PoolSound ∧
    (waiting .gateEnd).OutstandingSound ∧ (waiting .gateEnd).GuardSound ∧
    (waiting .gateEnd).PlanSound ∧ (waiting .gateEnd).ClosedSound ∧ (waiting .gateEnd).ResetSound ∧
    (waiting .gateEnd).EntrySound ∧ ∃ t, step (waiting .gateEnd) = .next t := by
  refine ⟨?_, ?_, ?_, ?_, ?_, ?_, ?_, ?_, ⟨_, rfl⟩⟩ <;> decide +kernel

theorem witness_EveryStepKeepsDeadlinesAhead :
    (waiting .travelAdvance).RangesSound ∧ (waiting .travelAdvance).PoolSound ∧
    (waiting .travelAdvance).DeadlinesAhead ∧ ∃ t, step (waiting .travelAdvance) = .next t := by
  refine ⟨?_, ?_, ?_, ⟨_, rfl⟩⟩ <;> decide +kernel


end Sys2Proof.Tests
end

section
/-!
PROOFS. The relation `State.Keeps s t` for statement O56: what a change from `s` to `t` keeps of the
agreement of lanes, slots, order lists, grants, stations and the ESTOP hold. It is reflexive and
transitive, so that the meaning of a row is settled from those of its parts.
-/

namespace Sys2Proof.Machine

/-! ### The invariants in the form the proofs use -/

/-- A slot of a station names a class. -/
def Station.Names (x : Station) (c : ClassNo) : Prop :=
  (∃ b ∈ x.current, b.cls = c) ∨ ∃ b ∈ x.next, b.cls = c

/-- A class fits the plan in force and the plan to come. -/
def State.Fits (s : State) (c : ClassNo) : Prop :=
  s.classFits c s.planNow.plan = true ∧ ∀ pair ∈ s.planNext, s.classFits c pair.plan = true

theorem State.fitSound_iff (s : State) :
    s.FitSound ↔ ∀ st c, (s.station st).Names c → s.Fits c := by
  constructor
  · rintro h st c (⟨b, hb, rfl⟩ | ⟨b, hb, rfl⟩)
    · exact (h st).1 b hb
    · exact (h st).2 b hb
  · exact fun h st => ⟨fun b hb => h st b.cls (.inl ⟨b, hb, rfl⟩),
      fun b hb => h st b.cls (.inr ⟨b, hb, rfl⟩)⟩

theorem State.grantsSound_iff (s : State) :
    s.GrantsSound ↔
      (∀ l st, (s.lane l).grant = some st → (s.lane l).state = .opened ∧ s.laneOf st = l) ∧
      (∀ st, (s.station st).state = .armed → (s.lane (s.laneOf st)).grant = some st) ∧
      ∀ l, (s.lane l).releasePoint.isSome = true → ∃ st, (s.lane l).state = .opened ∧
        (s.lane l).grant = some st ∧ (s.station st).state = .armed := by
  simp [State.GrantsSound, State.holdsGrant, Option.isSome_iff_exists, State.armedStation_eq_some]

/-- A lane with no record and no piece in its stacking unit. -/
def Lane.Rests (ln : Lane) : Prop := ln.queue = [] ∧ ln.stacker.state = .empty

/-- A stacking unit that a plan change has nothing left to ask of. -/
def StackState.Asked (x : StackState) : Prop := x = .empty ∨ x.isDischarging = true

theorem State.closedSound_iff (s : State) :
    s.ClosedSound ↔ ∀ l, ((s.lane l).state = .closed → (s.lane l).Rests) ∧
      (s.phase = .stack → (s.lane l).state = .draining → (s.lane l).stacker.state.Asked) := Iff.rfl

/-- Grants and stations agree. -/
abbrev State.FeedSound (s : State) : Prop := s.GrantsSound ∧ s.StationsSound

/-- The ESTOP hold as R18 has it, with no hold kept in a reset. -/
abbrev State.HoldSound (s : State) : Prop :=
  s.EstopSound ∧ (s.resetPhase ≠ .running → s.estopHold = none)

theorem State.holdSound_of_reset {s : State} (h : s.ResetSound) (g : s.EstopSound) :
    s.HoldSound := by
  refine ⟨g, fun hr => ?_⟩
  rw [h hr]
  rfl

/-! ### The relation -/

/-- What a change keeps of plans, slots, order lists, lanes, grants and stations. -/
structure State.KeepsPlant (s t : State) : Prop where
  fit : s.FitSound → t.FitSound
  orders : s.OrdersSound → t.OrdersSound
  plan : s.PlanSound → t.PlanSound
  closed : s.PlanSound → s.ClosedSound → t.ClosedSound
  feed : s.PlanSound → s.FeedSound → t.FeedSound

/-- And of ESTOP and its hold. -/
structure State.Keeps (s t : State) : Prop extends State.KeepsPlant s t where
  stop : s.PlanSound → s.FeedSound → s.StopSound → t.StopSound
  hold : s.HoldSound → t.HoldSound

theorem State.KeepsPlant.trans {s t u : State} (h : s.KeepsPlant t) (g : t.KeepsPlant u) :
    s.KeepsPlant u where
  fit := g.fit ∘ h.fit
  orders := g.orders ∘ h.orders
  plan := g.plan ∘ h.plan
  closed hp hc := g.closed (h.plan hp) (h.closed hp hc)
  feed hp hf := g.feed (h.plan hp) (h.feed hp hf)

theorem State.Keeps.refl (s : State) : s.Keeps s :=
  ⟨⟨id, id, id, fun _ => id, fun _ => id⟩, fun _ _ => id, id⟩

theorem State.Keeps.trans {s t u : State} (h : s.Keeps t) (g : t.Keeps u) : s.Keeps u where
  toKeepsPlant := h.toKeepsPlant.trans g.toKeepsPlant
  stop hp hf hs := g.stop (h.plan hp) (h.feed hp hf) (h.stop hp hf hs)
  hold := g.hold ∘ h.hold

/-- What each task keeps, the tasks taken in order keep. -/
theorem State.keeps_forEach {τ : Type} {run : τ → State → State} (h : ∀ t (s : State), s.Keeps (run t s))
    (tasks : List τ) (s : State) : s.Keeps (forEach run tasks s) :=
  forEach_keeps (P := s.Keeps) (fun t u hu => hu.trans (h t u)) tasks s (.refl s)

/-! ### Changes of what no invariant here reads -/

/-- What of a lane the invariants read, besides queue and stacking unit. -/
structure LaneBearing where
  state : LaneState
  grant : Option StationNo
  releasePoint : Option Pos
  order : List StationNo

def Lane.bearing (ln : Lane) : LaneBearing := ⟨ln.state, ln.grant, ln.releasePoint, ln.order⟩

/-- What of the state the invariants read, besides queues and stacking units. -/
structure Bearing where
  planNow : PlanPair
  planNext : Option PlanPair
  phase : PlanPhase
  stations : Quad Station
  lanes : Quad LaneBearing
  classes : Vector ClassEntry 16
  estop : Bool
  estopHold : Option Nat
  estopInput : Bool
  resetPhase : ResetPhase

def State.bearing (s : State) : Bearing :=
  ⟨s.planNow, s.planNext, s.phase, s.stations, s.lanes.map Lane.bearing, s.classes, s.estop,
    s.estopHold, s.inputs.estop, s.resetPhase⟩

theorem State.bearing_lane {s t : State} (h : t.bearing = s.bearing) (l : LaneNo) :
    (t.lane l).bearing = (s.lane l).bearing := by
  have := congrArg (fun x => x.lanes.get l) h
  simpa [State.bearing, State.lane] using this

theorem State.state_of_bearing {s t : State} (h : t.bearing = s.bearing) (l : LaneNo) :
    (t.lane l).state = (s.lane l).state :=
  congrArg LaneBearing.state (State.bearing_lane h l)

/-- A lane's queue and stacking unit change so that a CLOSED lane stays at rest and a DRAINING lane
in phase STACK has nothing BUILDING. -/
def Lane.StaysQuiet (phase : PlanPhase) (ln ln' : Lane) : Prop :=
  (ln.state = .closed → ln.Rests → ln'.Rests) ∧
    (phase = .stack → ln.state = .draining → ln.stacker.state.Asked → ln'.stacker.state.Asked)

/-- A change of queues and stacking units alone, of which only CLOSED lanes and phase STACK speak. -/
theorem State.keeps_of_closedSound {s t : State} (h : t.bearing = s.bearing)
    (hclosed : s.PlanSound → s.ClosedSound → t.ClosedSound) : s.Keeps t := by
  have hl := State.bearing_lane h
  simp only [Lane.bearing, LaneBearing.mk.injEq] at hl
  simp only [State.bearing, Bearing.mk.injEq] at h
  obtain ⟨hnow, hnext, hphase, hst, -, hcl, he, hh, hi, hr⟩ := h
  have hstation : ∀ st, t.station st = s.station st := fun st => by simp only [State.station, hst]
  have hof : ∀ st, t.laneOf st = s.laneOf st := fun st => by simp only [State.laneOf, hnow]
  refine ⟨⟨?_, ?_, ?_, hclosed, ?_⟩, ?_, ?_⟩
  · simp only [State.fitSound_iff, State.Fits, State.classFits, State.classEntry, hstation, hnow,
      hnext, hcl]
    exact id
  · simp only [State.OrdersSound, hl, hof]
    exact id
  · simp only [State.PlanSound, hnow, hnext, hphase, hl, hof]
    exact id
  · simp only [State.FeedSound, State.grantsSound_iff, State.StationsSound, hl, hof, hstation]
    exact fun _ => id
  · simp only [State.StopSound, he, hl, hstation]
    exact fun _ _ => id
  · simp only [State.HoldSound, State.EstopSound, he, hh, hi, hr]
    exact id

/-- A change of queues and stacking units alone, looked at lane by lane. -/
theorem State.keeps_of_bearing {s t : State} (h : t.bearing = s.bearing)
    (hq : s.PlanSound → ∀ l, Lane.StaysQuiet s.phase (s.lane l) (t.lane l)) : s.Keeps t := by
  refine State.keeps_of_closedSound h fun hp hc l => ?_
  have hphase : t.phase = s.phase := congrArg Bearing.phase h
  rw [State.state_of_bearing h, hphase]
  exact ⟨fun h => (hq hp l).1 h ((hc l).1 h), fun h g => (hq hp l).2 h g ((hc l).2 h g)⟩

/-- A change outside lanes that leaves every bearing field. -/
theorem State.keeps_of_lanes {s t : State} (h : t.bearing = s.bearing) (hl : t.lanes = s.lanes) :
    s.Keeps t := by
  refine State.keeps_of_bearing h fun _ l => ?_
  rw [State.lane, State.lane, hl]
  exact ⟨fun _ => id, fun _ _ => id⟩

/-- A change of one lane in what is not its state, grant, release point or order list. -/
theorem State.keeps_modLane (s : State) (l : LaneNo) (f : Lane → Lane)
    (hb : (f (s.lane l)).bearing = (s.lane l).bearing)
    (hq : s.PlanSound → Lane.StaysQuiet s.phase (s.lane l) (f (s.lane l))) :
    s.Keeps (s.modLane l f) := by
  refine State.keeps_of_bearing ?_ fun hp m => ?_
  · simp only [State.bearing, State.modLane, State.setLane, Quad.map_set_same _ _ _ _ hb]
  · rw [State.modLane_eq, State.lane_setLane]
    split
    · next h => subst h; exact hq hp
    · exact ⟨fun _ => id, fun _ _ => id⟩

end Sys2Proof.Machine
end

section
/-!
PROOFS. What `State.Keeps` asks of one station, one lane and one grant: the changes every row of the
part is made of.
-/

namespace Sys2Proof.Machine

/-! ### One station -/

/-- A station can take a value, whatever becomes of its grant: its slots name no new class, it stays
sound, and under ESTOP it does not come into its clamp cycle. -/
structure State.Takes (s : State) (st : StationNo) (y : Station) : Prop where
  names : ∀ c, y.Names c → (s.station st).Names c
  sound : (s.station st).Sound → y.Sound
  cycle : s.GrantsSound → s.StopSound → s.estop = true → y.state.inCycle = true →
    (s.station st).state.inCycle = true

theorem State.Takes.refl (s : State) (st : StationNo) : s.Takes st (s.station st) :=
  ⟨fun _ => id, id, fun _ _ _ => id⟩

theorem State.fitSound_setStation {s : State} {st : StationNo} {y : Station}
    (h : s.Takes st y) (hf : s.FitSound) : (s.setStation st y).FitSound := by
  rw [State.fitSound_iff] at hf ⊢
  intro su c hc
  rw [State.station_setStation] at hc
  split at hc
  · exact hf st c (h.names c hc)
  · exact hf su c hc

theorem State.stationsSound_setStation {s : State} {st : StationNo} {y : Station}
    (h : (s.station st).Sound → y.Sound) (hs : s.StationsSound) : (s.setStation st y).StationsSound := by
  intro su
  rw [State.station_setStation]
  split
  · exact h (hs st)
  · exact hs su

theorem State.stopSound_setStation {s : State} {st : StationNo} {y : Station}
    (h : s.StopSound → s.estop = true → y.state.inCycle = true →
      (s.station st).state.inCycle = true) (hs : s.StopSound) :
    (s.setStation st y).StopSound := by
  refine fun he => ⟨(hs he).1, fun su => ?_⟩
  rw [State.station_setStation]
  split
  · exact Bool.eq_false_iff.mpr fun hc => by simpa [(hs he).2 st] using h hs he hc
  · exact (hs he).2 su

/-- A station gets a value that is ARMED exactly where the old one is, and whose slots fit. -/
theorem State.keeps_setStation_of_fit {s : State} {st : StationNo} {y : Station}
    (hfit : s.FitSound → (s.setStation st y).FitSound) (hsound : (s.station st).Sound → y.Sound)
    (hcycle : s.GrantsSound → s.StopSound → s.estop = true → y.state.inCycle = true →
      (s.station st).state.inCycle = true)
    (ha : s.FeedSound → (y.state = .armed ↔ (s.station st).state = .armed)) :
    s.Keeps (s.setStation st y) := by
  refine ⟨⟨hfit, id, id, fun _ => id, ?_⟩,
    fun _ hf => State.stopSound_setStation (hcycle hf.1), id⟩
  rintro - ⟨hg, hs⟩
  refine ⟨?_, State.stationsSound_setStation hsound hs⟩
  have harmed : ∀ su, ((s.setStation st y).station su).state = .armed ↔
      (s.station su).state = .armed := by
    intro su
    rw [State.station_setStation]
    split
    · next e => rw [e]; exact ha ⟨hg, hs⟩
    · exact Iff.rfl
  simp only [State.grantsSound_iff, harmed] at hg ⊢
  exact hg

/-- A station gets a value that is ARMED exactly where the old one is. -/
theorem State.keeps_setStation {s : State} {st : StationNo} {y : Station} (h : s.Takes st y)
    (ha : s.FeedSound → (y.state = .armed ↔ (s.station st).state = .armed)) :
    s.Keeps (s.setStation st y) :=
  State.keeps_setStation_of_fit (State.fitSound_setStation h) h.sound h.cycle ha

theorem State.keeps_modStation {s : State} {st : StationNo} {f : Station → Station}
    (h : s.Takes st (f (s.station st)))
    (ha : s.FeedSound → ((f (s.station st)).state = .armed ↔ (s.station st).state = .armed)) :
    s.Keeps (s.modStation st f) := State.keeps_setStation h ha

theorem State.holdsGrant_iff {s : State} {st : StationNo} :
    s.holdsGrant st = true ↔ (s.lane (s.laneOf st)).grant = some st := decide_eq_true_iff

theorem State.not_armed_of_holdsGrant {s : State} {st : StationNo} (h : s.holdsGrant st = false)
    (hg : s.GrantsSound) : (s.station st).state ≠ .armed := fun ha => by
  simpa [h] using hg.2.1 st ha

/-- A station without the grant gets a value that is not ARMED. -/
theorem State.keeps_setStation_ungranted {s : State} {st : StationNo} {y : Station}
    (h : s.Takes st y) (ha : y.state ≠ .armed) (hn : s.holdsGrant st = false) :
    s.Keeps (s.setStation st y) :=
  State.keeps_setStation h fun hf =>
    ⟨fun e => absurd e ha, fun e => absurd e (State.not_armed_of_holdsGrant hn hf.1)⟩

/-- The station in WAITING that holds the grant becomes ARMED (R51). -/
theorem State.keeps_armHolder {s : State} {st : StationNo} (hw : (s.station st).state = .waiting)
    (hh : s.holdsGrant st = true) :
    s.Keeps (s.setStation st { s.station st with state := .armed }) := by
  have ht : s.Takes st { s.station st with state := .armed } :=
    ⟨fun _ => id, fun h => by simpa [Station.Sound, StationState.inCycle, hw] using h,
      fun _ _ _ h => by cases h⟩
  refine ⟨⟨State.fitSound_setStation ht, id, id, fun _ => id, ?_⟩,
    fun _ hf => State.stopSound_setStation (ht.cycle hf.1), id⟩
  rintro - ⟨hg, hs⟩
  refine ⟨?_, State.stationsSound_setStation ht.sound hs⟩
  rw [State.grantsSound_iff] at hg ⊢
  obtain ⟨hgrant, harmed, hpoint⟩ := hg
  refine ⟨hgrant, fun su hsu => ?_, fun m hm => ?_⟩
  · by_cases e : su = st
    · rw [e]; exact State.holdsGrant_iff.mp hh
    · rw [State.station_setStation_ne s e] at hsu
      exact harmed su hsu
  · obtain ⟨su, ho, hsu, hsa⟩ := hpoint m hm
    refine ⟨su, ho, hsu, ?_⟩
    rw [State.station_setStation]
    split
    · rfl
    · exact hsa

/-! ### One grant -/

/-- A lane with its release point dropped and the grant set. -/
def State.setGrant (s : State) (l : LaneNo) (g : Option StationNo) : State :=
  s.modLane l fun ln => { ln with grant := g, releasePoint := none }

theorem State.lane_setGrant (s : State) (l m : LaneNo) (g : Option StationNo) :
    (s.setGrant l g).lane m =
      if m = l then { s.lane l with grant := g, releasePoint := none } else s.lane m :=
  State.lane_setLane _ _ _ _

theorem State.lane_setGrant_frame (s : State) (l m : LaneNo) (g : Option StationNo) :
    ((s.setGrant l g).lane m).state = (s.lane m).state ∧
      ((s.setGrant l g).lane m).order = (s.lane m).order ∧
      ((s.setGrant l g).lane m).queue = (s.lane m).queue ∧
      ((s.setGrant l g).lane m).stacker = (s.lane m).stacker := by
  rw [State.lane_setGrant]
  split
  · next e => rw [e]; exact ⟨rfl, rfl, rfl, rfl⟩
  · exact ⟨rfl, rfl, rfl, rfl⟩

theorem State.setGrant_keeps_lanes (s : State) (l : LaneNo) (g : Option StationNo) :
    (s.OrdersSound → (s.setGrant l g).OrdersSound) ∧ (s.PlanSound → (s.setGrant l g).PlanSound) ∧
      (s.ClosedSound → (s.setGrant l g).ClosedSound) ∧
      (s.StopSound → (s.setGrant l g).StopSound) := by
  refine ⟨?_, ?_, ?_, ?_⟩
  · simp only [State.OrdersSound, State.lane_setGrant_frame]
    exact id
  · simp only [State.PlanSound, State.lane_setGrant_frame]
    exact id
  · simp only [State.closedSound_iff, Lane.Rests, State.lane_setGrant_frame]
    exact id
  · simp only [State.StopSound, State.lane_setGrant_frame]
    exact id

/-- The holder of a grant gets a value that is not ARMED, and the release point is dropped, with the
grant given back or kept. -/
theorem State.keeps_dropGrant {s : State} {l : LaneNo} {st : StationNo} {y : Station}
    {g : Option StationNo} (hl : (s.lane l).grant = some st) (h : s.Takes st y)
    (ha : y.state ≠ .armed) (hn : g = none ∨ g = some st) :
    s.Keeps ((s.setStation st y).setGrant l g) := by
  obtain ⟨horders, hplan, hclosed, hstop⟩ := (s.setStation st y).setGrant_keeps_lanes l g
  refine ⟨⟨State.fitSound_setStation h, horders, hplan, fun _ => hclosed, ?_⟩,
    fun _ hf hs => hstop (State.stopSound_setStation (h.cycle hf.1) hs), id⟩
  rintro - ⟨hg, hs⟩
  refine ⟨?_, State.stationsSound_setStation h.sound hs⟩
  rw [State.grantsSound_iff] at hg ⊢
  obtain ⟨hgrant, harmed, hpoint⟩ := hg
  have hother : ∀ su, (s.lane l).grant ≠ some su →
      ((s.setStation st y).setGrant l g).station su = s.station su := fun su hsu =>
    State.station_setStation_ne s (fun e => hsu (by rw [hl, e])) y
  simp only [State.lane_setGrant, State.lane_setStation]
  refine ⟨fun m su => ?_, fun su hsu => ?_, fun m => ?_⟩
  · split
    · next e =>
      rw [e]
      rintro (hgs : g = some su)
      refine hgrant l su ?_
      rcases hn with rfl | rfl
      · cases hgs
      · rw [hl, hgs]
    · exact hgrant m su
  · have hne : su ≠ st := by
      rintro rfl
      change ((s.setStation su y).station su).state = _ at hsu
      rw [State.station_setStation_self] at hsu
      exact ha hsu
    rw [hother su (by rw [hl]; simpa using Ne.symm hne)] at hsu
    have hsu' := harmed su hsu
    rw [if_neg]
    · exact hsu'
    · intro (e : s.laneOf su = l)
      rw [e, hl] at hsu'
      exact hne (Option.some.inj hsu').symm
  · split
    · simp
    · next hm =>
      intro hp
      obtain ⟨su, ho, hsu, hsa⟩ := hpoint m hp
      refine ⟨su, ho, hsu, ?_⟩
      rw [hother su]
      · exact hsa
      · intro e
        exact hm ((hgrant m su hsu).2.symm.trans (hgrant l su e).2)

theorem State.releasePoint_none_of_free {s : State} {l : LaneNo} (hl : (s.lane l).grant = none)
    (hg : s.GrantsSound) : (s.lane l).releasePoint = none := by
  by_contra hp
  obtain ⟨st, -, hst, -⟩ := ((State.grantsSound_iff s).mp hg).2.2 l
    (Option.isSome_iff_ne_none.mpr hp)
  rw [hl] at hst
  cases hst

/-- A lane whose grant is free drops its release point. -/
theorem State.keeps_ungrant_free {s : State} {l : LaneNo} (hl : (s.lane l).grant = none) :
    s.Keeps (s.setGrant l none) := by
  obtain ⟨horders, hplan, hclosed, hstop⟩ := s.setGrant_keeps_lanes l none
  refine ⟨⟨id, horders, hplan, fun _ => hclosed, ?_⟩, fun _ _ => hstop, id⟩
  rintro - ⟨hg, hs⟩
  refine ⟨?_, hs⟩
  have hln : ({ s.lane l with grant := none, releasePoint := none } : Lane) = s.lane l := by
    rw [← hl, ← State.releasePoint_none_of_free hl hg]
  have heq : s.setGrant l none = s := by
    rw [State.setGrant, State.modLane_eq, hln, State.setLane_lane]
  rw [heq]
  exact hg

/-- A decision gives the grant: the LOADED station chosen becomes ARMED (R61). -/
theorem State.keeps_grantTo {s : State} {l : LaneNo} {st : StationNo} (h : s.decided l = some st) :
    s.Keeps (s.grantTo l st) := by
  obtain ⟨hof, hload, hopen, hfree⟩ := State.decided_loaded h
  have ht : s.Takes st { s.station st with state := .armed } :=
    ⟨fun _ => id, fun h => by simpa [Station.Sound, StationState.inCycle, hload] using h,
      fun _ _ _ h => by cases h⟩
  have heq : s.grantTo l st = (s.setStation st { s.station st with state := .armed }).setLane l
      { s.lane l with grant := some st } := rfl
  have hlane : ∀ m, ((s.grantTo l st).lane m) =
      if m = l then { s.lane l with grant := some st } else s.lane m := fun m => by
    rw [heq, State.lane_setLane]
    rfl
  have hframe : ∀ m, ((s.grantTo l st).lane m).state = (s.lane m).state ∧
      ((s.grantTo l st).lane m).order = (s.lane m).order ∧
      ((s.grantTo l st).lane m).queue = (s.lane m).queue ∧
      ((s.grantTo l st).lane m).stacker = (s.lane m).stacker ∧
      ((s.grantTo l st).lane m).releasePoint = (s.lane m).releasePoint := by
    intro m
    rw [hlane]
    split
    · next e => rw [e]; exact ⟨rfl, rfl, rfl, rfl, rfl⟩
    · exact ⟨rfl, rfl, rfl, rfl, rfl⟩
  have hstation : ∀ su, (s.grantTo l st).station su =
      if su = st then { s.station st with state := .armed } else s.station su := fun su => by
    rw [heq, State.station_setLane, State.station_setStation]
  refine ⟨⟨State.fitSound_setStation ht, ?_, ?_, ?_, ?_⟩, ?_, id⟩
  · simp only [State.OrdersSound, hframe]
    exact id
  · simp only [State.PlanSound, hframe]
    exact id
  · simp only [State.closedSound_iff, Lane.Rests, hframe]
    exact fun _ => id
  · rintro - ⟨hg, hs⟩
    have hs' := State.stationsSound_setStation ht.sound hs
    refine ⟨?_, hs'⟩
    rw [State.grantsSound_iff] at hg ⊢
    obtain ⟨hgrant, harmed, hpoint⟩ := hg
    simp only [hframe, hstation]
    refine ⟨fun m su => ?_, fun su => ?_, fun m hm => ?_⟩
    · rw [hlane]
      split
      · next e => rintro ⟨⟩; rw [e]; exact ⟨hopen, hof⟩
      · exact hgrant m su
    · rw [hlane]
      change _ → Lane.grant (if s.laneOf su = l then _ else s.lane (s.laneOf su)) = _
      split
      · next e => rw [e, if_pos hof]; exact fun _ => rfl
      · intro hsu
        have := harmed su hsu
        split
        · next e => rw [e, hfree] at this; cases this
        · exact this
    · rw [hlane]
      split
      · next e => exact ⟨st, e ▸ hopen, rfl, by simp⟩
      · obtain ⟨su, ho, hsu, hsa⟩ := hpoint m hm
        refine ⟨su, ho, hsu, ?_⟩
        split
        · rfl
        · exact hsa
  · intro _ hf hs
    have := State.stopSound_setStation (ht.cycle hf.1) hs
    simp only [State.StopSound, hframe]
    exact this

end Sys2Proof.Machine
end

section
/-!
PROOFS. What the arbiters (chapter 4) and the station sequencers (chapter 3) keep.
-/

namespace Sys2Proof.Machine

theorem State.modLane_modLane (s : State) (l : LaneNo) (f g : Lane → Lane) :
    (s.modLane l f).modLane l g = s.modLane l fun ln => g (f ln) := by
  simp [State.modLane_eq]

theorem State.modStation_modStation (s : State) (st : StationNo) (f g : Station → Station) :
    (s.modStation st f).modStation st g = s.modStation st fun x => g (f x) := by
  simp [State.modStation_eq]

/-! ### Queues and order lists -/

/-- A queue changes: in a lane that may be CLOSED an empty one stays empty. -/
theorem State.keeps_setQueue {s : State} {l : LaneNo} {q : List Record}
    (h : s.PlanSound → (s.lane l).state = .closed → s.queue l = [] → q = []) :
    s.Keeps (s.setQueue l q) :=
  s.keeps_modLane l _ rfl fun hp => ⟨fun hc hr => ⟨h hp hc hr.1, hr.2⟩, fun _ _ => id⟩

theorem State.keeps_modRecord (s : State) (l : LaneNo) (tag : Nat) (f : Record → Record) :
    s.Keeps (s.modRecord l tag f) :=
  State.keeps_setQueue fun _ _ h => by rw [h]; rfl

theorem State.keeps_dropRecord (s : State) (l : LaneNo) (tag : Nat) :
    s.Keeps (s.dropRecord l tag) :=
  State.keeps_setQueue fun _ _ h => by rw [h]; rfl

theorem State.keeps_countTag (s : State) (r : Record) : s.Keeps (s.countTag r) :=
  State.keeps_of_lanes rfl rfl

theorem State.keeps_draw (s : State) (n : Nat) : s.Keeps (s.draw n).2 := by
  rcases s.draw_two n with h | h <;> rw [h]
  · exact .refl s
  · exact State.keeps_of_lanes rfl rfl

/-- The lanes that stations are mapped to are lanes of the plan in force, and not CLOSED. -/
theorem State.PlanSound.laneOf_not_closed {s : State} (h : s.PlanSound) (st : StationNo) :
    (s.lane (s.laneOf st)).state ≠ .closed := by
  obtain ⟨-, hmap, -, hlanes⟩ := h
  have hl := hlanes (s.laneOf st)
  rw [if_neg (by simp [hmap st])] at hl
  split at hl
  · rcases hl with hl | hl <;> simp [hl]
  · simp [hl]

/-- An order list is put in another order. -/
theorem State.keeps_setOrder {s : State} {l : LaneNo} {o : List StationNo}
    (h : o.Perm (s.lane l).order) : s.Keeps (s.modLane l fun ln => { ln with order := o }) := by
  have hlane : ∀ m, ((s.modLane l fun ln => { ln with order := o }).lane m) =
      if m = l then { s.lane l with order := o } else s.lane m := fun m =>
    State.lane_setLane _ _ _ _
  have hframe : ∀ m, ((s.modLane l fun ln => { ln with order := o }).lane m).order.Perm
        (s.lane m).order ∧
      ((s.modLane l fun ln => { ln with order := o }).lane m).state = (s.lane m).state ∧
      ((s.modLane l fun ln => { ln with order := o }).lane m).grant = (s.lane m).grant ∧
      ((s.modLane l fun ln => { ln with order := o }).lane m).releasePoint =
        (s.lane m).releasePoint ∧
      ((s.modLane l fun ln => { ln with order := o }).lane m).queue = (s.lane m).queue ∧
      ((s.modLane l fun ln => { ln with order := o }).lane m).stacker = (s.lane m).stacker := by
    intro m
    rw [hlane]
    split
    · next e => rw [e]; exact ⟨h, rfl, rfl, rfl, rfl, rfl⟩
    · exact ⟨.refl _, rfl, rfl, rfl, rfl, rfl⟩
  refine ⟨⟨id, ?_, ?_, ?_, ?_⟩, ?_, id⟩
  · intro ho m
    obtain ⟨hn, hm⟩ := ho m
    exact ⟨(hframe m).1.nodup_iff.mpr hn, fun st => ((hframe m).1.mem_iff).trans (hm st)⟩
  · simp only [State.PlanSound, hframe]
    exact id
  · simp only [State.closedSound_iff, Lane.Rests, hframe]
    exact fun _ => id
  · rintro - ⟨hg, hs⟩
    refine ⟨?_, hs⟩
    simp only [State.grantsSound_iff, hframe] at hg ⊢
    exact hg
  · simp only [State.StopSound, hframe]
    exact fun _ _ => id

theorem moveToEnd_perm (st : StationNo) (order : List StationNo) :
    (moveToEnd st order).Perm order := by
  unfold moveToEnd
  split
  · next h => exact List.perm_append_comm.trans (List.perm_cons_erase h).symm
  · exact .refl _

/-! ### The release -/

/-- A station is ARMED with the grant of a lane that is OPEN or its own. -/
structure State.Feeds (s : State) (l : LaneNo) (st : StationNo) : Prop where
  grant : (s.lane l).grant = some st
  armed : (s.station st).state = .armed
  place : (s.lane l).state = .opened ∨ s.laneOf st = l

theorem State.Feeds.of_armedStation {s : State} {l : LaneNo} {st : StationNo}
    (h : s.armedStation l = some st) : s.Feeds l st := by
  obtain ⟨ho, hg, ha⟩ := State.armedStation_eq_some.mp h
  exact ⟨hg, ha, .inl ho⟩

theorem State.Feeds.not_closed {s : State} {l : LaneNo} {st : StationNo} (h : s.Feeds l st)
    (hp : s.PlanSound) : (s.lane l).state ≠ .closed := by
  rcases h.place with ho | rfl
  · simp [ho]
  · exact hp.laneOf_not_closed st

theorem State.keeps_workPoint {s : State} {l : LaneNo} {st : StationNo} (h : s.Feeds l st) :
    s.Keeps (s.workPoint l st) ∧ (s.workPoint l st).Feeds l st := by
  have hlane : ∀ m, ((s.workPoint l st).lane m) =
      if m = l then { s.lane l with releasePoint := s.workedPoint l st } else s.lane m := fun m =>
    State.lane_setLane _ _ _ _
  have hframe : ∀ m, ((s.workPoint l st).lane m).order = (s.lane m).order ∧
      ((s.workPoint l st).lane m).state = (s.lane m).state ∧
      ((s.workPoint l st).lane m).grant = (s.lane m).grant ∧
      ((s.workPoint l st).lane m).queue = (s.lane m).queue ∧
      ((s.workPoint l st).lane m).stacker = (s.lane m).stacker := by
    intro m
    rw [hlane]
    split
    · next e => rw [e]; exact ⟨rfl, rfl, rfl, rfl, rfl⟩
    · exact ⟨rfl, rfl, rfl, rfl, rfl⟩
  refine ⟨⟨⟨id, ?_, ?_, ?_, ?_⟩, ?_, id⟩, ?_, h.armed, ?_⟩
  · simp only [State.OrdersSound, hframe]
    exact id
  · simp only [State.PlanSound, hframe]
    exact id
  · simp only [State.closedSound_iff, Lane.Rests, hframe]
    exact fun _ => id
  · rintro - ⟨hg, hs⟩
    refine ⟨?_, hs⟩
    simp only [State.grantsSound_iff, hframe] at hg ⊢
    obtain ⟨hgrant, harmed, hpoint⟩ := hg
    refine ⟨hgrant, harmed, fun m hm => ?_⟩
    rw [hlane] at hm
    split at hm
    · next e => rw [e]; exact ⟨st, (hgrant l st h.grant).1, h.grant, h.armed⟩
    · exact hpoint m hm
  · simp only [State.StopSound, hframe]
    exact fun _ _ => id
  · rw [(hframe l).2.2.1]; exact h.grant
  · rw [(hframe l).2.1]; exact h.place

theorem State.takes_release {s : State} {l : LaneNo} {st : StationNo} {b : Batch}
    (h : s.Feeds l st) (hb : (s.station st).current = some b) :
    s.Takes st ((s.station st).release b s.travel) where
  names c := by simp [Station.Names, Station.release, hb]
  sound hx := by
    have ha := h.armed
    simp_all [Station.Sound, Station.release, StationState.inCycle, Batch.Sound]
    omega
  cycle hg hs he := by
    have ho := (((State.grantsSound_iff s).mp hg).1 l st h.grant).1
    exact absurd ho ((hs he).1 l)

theorem State.keeps_joinTail {s : State} {l : LaneNo} {r : Record}
    (h : s.PlanSound → (s.lane l).state ≠ .closed) : s.Keeps (s.joinTail l r) :=
  (State.keeps_setQueue fun hp hc => absurd hc (h hp)).trans (State.keeps_countTag _ r)

/-- A release is its record joining, the station's and the lane's part, and the order list (R74). -/
theorem State.releaseOf_eq (s : State) (l : LaneNo) (st : StationNo) (b : Batch) :
    s.releaseOf l st b =
      (((s.joinTail l (s.releasedRecord l st b (s.predictedEntry st))).setStation st
        ((s.station st).release b s.travel)).setGrant l (match (s.station st).params.mode with
          | .single => none
          | .run => (s.lane l).grant)).modLane l fun ln =>
        { ln with order := match s.params.mode with
            | .rotating => moveToEnd st ln.order
            | .fixed => ln.order } := by
  rw [State.setGrant, State.modLane_modLane]
  have hl : (((s.joinTail l (s.releasedRecord l st b (s.predictedEntry st))).setStation st
      ((s.station st).release b s.travel)).lane l).grant = (s.lane l).grant := by
    rw [State.lane_setStation]
    change ((s.setLane l _).lane l).grant = _
    rw [State.lane_setLane_self]
  unfold State.releaseOf Lane.afterRelease
  rewrite [State.modLane_eq, State.modLane_eq, hl]
  rfl

theorem State.lane_joinTail (s : State) (l m : LaneNo) (r : Record) : (s.joinTail l r).lane m =
    if m = l then { s.lane l with queue := s.queue l ++ [r] } else s.lane m :=
  State.lane_setLane _ _ _ _

theorem State.Feeds.joinTail {s : State} {l : LaneNo} {st : StationNo} (h : s.Feeds l st)
    (r : Record) : (s.joinTail l r).Feeds l st where
  grant := by rw [State.lane_joinTail, if_pos rfl]; exact h.grant
  armed := h.armed
  place := by rw [State.lane_joinTail, if_pos rfl]; exact h.place

theorem State.keeps_releaseOf {s : State} {l : LaneNo} {st : StationNo} {b : Batch}
    (h : s.Feeds l st) (hb : (s.station st).current = some b) : s.Keeps (s.releaseOf l st b) := by
  rw [State.releaseOf_eq]
  have h' := h.joinTail (s.releasedRecord l st b (s.predictedEntry st))
  refine ((State.keeps_joinTail h.not_closed).trans (State.keeps_dropGrant h'.grant
    (State.takes_release h' hb) (by simp [Station.release]) ?_)).trans (State.keeps_setOrder ?_)
  · split
    · exact .inl rfl
    · exact .inr h.grant
  · split
    · exact moveToEnd_perm _ _
    · exact .refl _

theorem State.keeps_releaseIfMet {s : State} {l : LaneNo} {st : StationNo} (h : s.Feeds l st) :
    s.Keeps (s.releaseIfMet l st) := by
  unfold State.releaseIfMet State.releaseStep
  split
  · split
    · next b hb => exact State.keeps_releaseOf h hb
    · exact .refl s
  · exact .refl s

theorem State.keeps_workAndTest {s : State} {l : LaneNo} {st : StationNo} (h : s.Feeds l st) :
    s.Keeps (s.workAndTest l st) :=
  (State.keeps_workPoint h).1.trans (State.keeps_releaseIfMet (State.keeps_workPoint h).2)

/-! ### The decision -/

theorem State.Feeds.of_decided {s : State} {l : LaneNo} {st : StationNo}
    (h : s.decided l = some st) : (s.grantTo l st).Feeds l st where
  grant := by
    change ((s.setLane l _).lane l).grant = _
    rw [State.lane_setLane_self]
  armed := by
    change (State.station (State.setStation _ st _) st).state = _
    rw [State.station_setStation_self]
  place := .inr (State.decided_loaded h).1

theorem State.keeps_decideUpTo (s : State) (l : LaneNo) (n : Nat) : s.Keeps (s.decideUpTo l n) := by
  induction n generalizing s with
  | zero => exact .refl s
  | succ n ih =>
    unfold State.decideUpTo
    split
    · exact .refl s
    · next st h =>
      exact ((State.keeps_grantTo h).trans
        (State.keeps_workAndTest (State.Feeds.of_decided h))).trans (ih _)

theorem State.keeps_decideGrant (s : State) (l : LaneNo) : s.Keeps (s.decideGrant l) :=
  s.keeps_decideUpTo l 4

theorem State.keeps_work (s : State) (l : LaneNo) : s.Keeps (s.work l) := by
  unfold State.work
  split
  · next st h =>
    exact (State.keeps_workAndTest (.of_armedStation h)).trans (State.keeps_decideGrant _ _)
  · exact .refl s

theorem State.keeps_workIf (s : State) (l : LaneNo) (y : Bool) : s.Keeps (s.workIf l y) := by
  cases y
  · exact .refl s
  · exact s.keeps_work l

theorem State.keeps_testRelease (s : State) (l : LaneNo) : s.Keeps (s.testRelease l) := by
  unfold State.testRelease
  split
  · next st h =>
    exact (State.keeps_releaseIfMet (.of_armedStation h)).trans (State.keeps_decideGrant _ _)
  · exact .refl s

/-- A station gets a value that is not ARMED, and the grant it may hold goes back to its arbiter. -/
theorem State.keeps_setStation_giveBack {s : State} {st : StationNo} {y : Station}
    (h : s.Takes st y) (ha : y.state ≠ .armed) : s.Keeps ((s.setStation st y).giveBack st) := by
  unfold State.giveBack
  split
  · next hh =>
    exact (State.keeps_dropGrant (s := s) (State.holdsGrant_iff.mp hh) h ha (.inl rfl)).trans
      (State.keeps_decideGrant _ _)
  · next hh => exact State.keeps_setStation_ungranted h ha (Bool.eq_false_iff.mpr hh)

theorem State.keeps_giveBack {s : State} {st : StationNo} (ha : (s.station st).state ≠ .armed) :
    s.Keeps (s.giveBack st) := by
  have h := State.keeps_setStation_giveBack (State.Takes.refl s st) ha
  rwa [State.setStation_station] at h

/-! ### Station sequencers -/

theorem State.keeps_testHold (s : State) (st : StationNo) : s.Keeps (s.testHold st) := by
  unfold State.testHold
  split
  · next h =>
    refine State.keeps_giveBack fun ha => ?_
    simp [State.runHoldOver, ha] at h
  · exact .refl s

/-- A station that is not ARMED enters WAITING (R50). -/
theorem State.keeps_enterWaiting {s : State} {st : StationNo} {f : Station → Station}
    (h : s.Takes st { f (s.station st) with state := .waiting })
    (ha : (s.station st).state ≠ .armed) : s.Keeps ((s.modStation st f).enterWaiting st) := by
  unfold State.enterWaiting
  rw [State.modStation_modStation]
  exact (State.keeps_setStation h fun _ => ⟨by simp, fun e => absurd e ha⟩).trans
    (State.keeps_testHold _ st)

theorem State.keeps_refreshAttn (s : State) : s.Keeps s.refreshAttn := State.keeps_of_lanes rfl rfl

/-- The report queue and its flags with a report offered (R181). -/
def Reports.offered (x : Reports) (r : Report) : Reports :=
  if x.queue.length < Config.reportSlots then { x with queue := x.queue ++ [r] }
  else { x with lost := true, lostSince := true }

/-- An offer changes the report queue with its flags, and ATTN, and nothing else. -/
theorem State.offer_eq (s : State) (r : Report) : s.offer r =
    { s with reports := s.reports.offered r,
             attn := s.alarms.current.isSome ||
               (s.params.attention && !(s.reports.offered r).queue.isEmpty) } := by
  unfold State.offer Reports.offered
  split <;> rfl

theorem State.offer_setStation (s : State) (r : Report) (st : StationNo) (x : Station) :
    (s.setStation st x).offer r = (s.offer r).setStation st x := by
  rw [State.offer_eq, State.offer_eq]
  rfl

theorem State.keeps_offer (s : State) (r : Report) : s.Keeps (s.offer r) := by
  rw [State.offer_eq]
  exact State.keeps_of_lanes rfl rfl

theorem State.Takes.offer {s : State} {st : StationNo} {y : Station} (h : s.Takes st y)
    (r : Report) : (s.offer r).Takes st y := by
  rw [State.offer_eq]
  exact ⟨h.names, h.sound, h.cycle⟩

/-- A batch that completes is a report offered, its station moved on and its grant given back. -/
theorem State.completeBatch_eq {s : State} {st : StationNo} {b : Batch} (c : Bool)
    (h : (s.station st).current = some b) : s.completeBatch st c =
      ((s.offer (.batchEnd st b.id b.pieces (b.pieces - b.remaining) c)).setStation st
        (s.station st).promote).giveBack st := by
  unfold State.completeBatch
  simp only [h, State.offer_eq]
  rfl

/-- A station moved on by `f` completes its batch (R43). -/
theorem State.keeps_completeBatch {s : State} {st : StationNo} {f : Station → Station}
    {c : Bool} {b : Batch} (h : s.Takes st (f (s.station st)).promote)
    (hb : (f (s.station st)).current = some b) :
    s.Keeps ((s.modStation st f).completeBatch st c) := by
  have hf : (s.modStation st f).station st = f (s.station st) :=
    State.station_setStation_self _ _ _
  rw [State.completeBatch_eq (b := b) c (by rw [hf]; exact hb), hf]
  rw [State.modStation_eq, State.offer_setStation, State.setStation_setStation]
  refine (s.keeps_offer _).trans (State.keeps_setStation_giveBack (h.offer _) ?_)
  unfold Station.promote
  split <;> simp

/-- The value a station in its clamp cycle takes at the end of it, or at an ESTOP activation: the
clamps at rest, and on by the counts (R40, R53). -/
def Station.endCycle (x : Station) : Station :=
  match x.current with
  | none => { x.atRest with state := .noBatch }
  | some b =>
    if b.remaining > 0 then { x.atRest with state := .waiting }
    else if x.outstanding > 0 then { x.atRest with state := .finishing }
    else x.atRest.promote

theorem Station.sound_endCycle {x : Station} (hx : x.Sound) (hc : x.state.inCycle = true) :
    x.endCycle.Sound := by
  obtain ⟨-, -, -, hcur, hnext, hb, hbn, -, -⟩ := hx
  have hsome : x.state ≠ .noBatch := by
    rintro h
    simp [h, StationState.inCycle] at hc
  unfold Station.endCycle
  rcases h : x.current with _ | b
  · simp [h, hsome] at hcur
  · have hbs := hb b h
    have hbn' : ∀ b ∈ x.next, b.Sound := fun b hb => (hbn b hb).1
    dsimp only
    split
    · next hr =>
      refine ⟨rfl, rfl, rfl, by simp [Station.atRest, h], fun _ => by simp [Station.atRest, h],
        hb, hbn, fun b' hb' _ => ?_, fun _ _ h => by cases h⟩
      obtain rfl : b = b' := Option.some.inj (h.symm.trans hb')
      exact hr
    · next hr =>
      split
      · next ho =>
        refine ⟨rfl, rfl, rfl, by simp [Station.atRest, h], fun _ => by simp [Station.atRest, h],
          hb, hbn, fun _ _ h => by simp at h, fun b' hb' _ => ⟨?_, ho⟩⟩
        obtain rfl : b = b' := Option.some.inj (h.symm.trans hb')
        omega
      · rcases hn : x.next with _ | n
        · simp [Station.Sound, Station.atRest, Station.promote, StationState.inCycle, hn]
        · obtain ⟨hns, hnr⟩ := hbn n hn
          have : 1 ≤ n.remaining := hnr ▸ hns.2.2.1
          simpa [Station.Sound, Station.atRest, Station.promote, StationState.inCycle, hn, this]
            using hns

theorem Station.names_endCycle (x : Station) (c : ClassNo) (h : x.endCycle.Names c) :
    x.Names c := by
  unfold Station.endCycle at h
  split at h
  · exact h
  · split at h
    · exact h
    · split at h
      · exact h
      · rcases h with h | h
        · exact .inr h
        · simp [Station.promote] at h

theorem Station.not_inCycle_endCycle (x : Station) : x.endCycle.state.inCycle = false := by
  unfold Station.endCycle Station.promote
  (repeat' split) <;> rfl

end Sys2Proof.Machine
end

section
/-!
PROOFS. What the meanings of the station rows keep: the ends of the clamp cycle, notices, the pedal
and the stop of a station.
-/

namespace Sys2Proof.Machine

/-! ### The clamp cycle (R38 to R40) -/

theorem State.not_armed_of_inCycle {s : State} {st : StationNo}
    (h : (s.station st).state.inCycle = true) : (s.station st).state ≠ .armed := by
  intro ha
  simp [ha, StationState.inCycle] at h

theorem State.takes_endCycle {s : State} {st : StationNo}
    (h : (s.station st).state.inCycle = true) : s.Takes st (s.station st).endCycle where
  names := Station.names_endCycle _
  sound hx := Station.sound_endCycle hx h
  cycle _ _ _ _ := h

theorem State.keeps_endCycle {s : State} {st : StationNo}
    (h : (s.station st).state.inCycle = true) :
    s.Keeps ((s.modStation st Station.atRest).afterClampCycle st) := by
  have ht := State.takes_endCycle h
  have ha := State.not_armed_of_inCycle h
  have hrest : (s.modStation st Station.atRest).station st = (s.station st).atRest :=
    State.station_setStation_self _ _ _
  have hcur : (s.station st).atRest.current = (s.station st).current := rfl
  have hout : (s.station st).atRest.outstanding = (s.station st).outstanding := rfl
  unfold State.afterClampCycle
  rw [hrest, hcur, hout]
  split
  · next hc =>
    rw [State.modStation_modStation]
    refine State.keeps_modStation ?_ fun _ => ⟨by simp, fun e => absurd e ha⟩
    simpa only [Station.endCycle, hc] using ht
  · next b hc =>
    split
    · next hr =>
      refine State.keeps_enterWaiting ?_ ha
      simpa only [Station.endCycle, hc, hr, if_true] using ht
    · next hr =>
      split
      · next ho =>
        rw [State.modStation_modStation]
        refine State.keeps_modStation ?_ fun _ => ⟨by simp, fun e => absurd e ha⟩
        simpa only [Station.endCycle, hc, hr, ho, if_true, if_false] using ht
      · next ho =>
        refine State.keeps_completeBatch ?_ hc
        simpa only [Station.endCycle, hc, hr, ho, if_false] using ht

/-- A station goes from one state of its clamp cycle to another, with its slots as they are. -/
theorem Station.Sound.cycleOn {x y : Station} (hx : x.Sound) (hxc : x.state.inCycle = true)
    (hyc : y.state.inCycle = true) (hcur : y.current = x.current) (hnext : y.next = x.next)
    (hout : y.openOut = decide (y.state = .opening) ∧ y.returnOut = decide (y.state = .returning) ∧
      y.timer.isSome = true) : y.Sound := by
  obtain ⟨-, -, -, hn, hslots, hb, hbn, -, -⟩ := hx
  obtain ⟨ho, hr, ht⟩ := hout
  have hidle : ∀ {z : StationState}, z.inCycle = true →
      z ≠ .noBatch ∧ ¬(z = .waiting ∨ z = .loaded ∨ z = .armed) ∧ z ≠ .finishing := by
    intro z hz
    cases z <;> simp_all [StationState.inCycle]
  refine ⟨ho, hr, by rw [ht, hyc], ?_, ?_, ?_, ?_, fun _ _ h => ?_, fun _ _ h => ?_⟩
  · rw [hcur, hn]
    simp [(hidle hxc).1, (hidle hyc).1]
  · rwa [hcur, hnext]
  · rwa [hcur]
  · rwa [hnext]
  · exact absurd h (hidle hyc).2.1
  · exact absurd h (hidle hyc).2.2

theorem State.keeps_openTimeOver (s : State) (st : StationNo) : s.Keeps (s.openTimeOver st) := by
  unfold State.openTimeOver
  split
  · next h =>
    have hc : (s.station st).state.inCycle = true := by rw [h]; rfl
    exact State.keeps_modStation ⟨fun _ => id,
      fun hx => hx.cycleOn hc rfl rfl rfl ⟨rfl, by obtain ⟨-, hr, -⟩ := hx; simpa [h] using hr, rfl⟩,
      fun _ _ _ _ => hc⟩ fun _ => by simp [h]
  · exact .refl s

theorem State.keeps_dwellOver (s : State) (st : StationNo) : s.Keeps (s.dwellOver st) := by
  unfold State.dwellOver
  split
  · next h =>
    have hc : (s.station st).state.inCycle = true := by rw [h]; rfl
    exact State.keeps_modStation ⟨fun _ => id,
      fun hx => hx.cycleOn hc rfl rfl rfl ⟨by obtain ⟨ho, -⟩ := hx; simpa [h] using ho, rfl, rfl⟩,
      fun _ _ _ _ => hc⟩ fun _ => by simp [h]
  · exact .refl s

theorem State.keeps_returnTimeOver (s : State) (st : StationNo) :
    s.Keeps (s.returnTimeOver st) := by
  unfold State.returnTimeOver
  split
  · next h => exact State.keeps_endCycle (by rw [h]; rfl)
  · exact .refl s

theorem Station.Sound.atRest {x : Station} (hx : x.Sound) (hc : x.state.inCycle = false) :
    x.atRest.Sound := by
  obtain ⟨h1, h2, h3, h⟩ := hx
  refine ⟨?_, ?_, ?_, h⟩
  · exact (decide_eq_false fun h : x.state = .opening => by simp [h, StationState.inCycle] at hc).symm
  · exact (decide_eq_false fun h : x.state = .returning => by
      simp [h, StationState.inCycle] at hc).symm
  · exact hc.symm

theorem State.keeps_stopStation (s : State) (st : StationNo) : s.Keeps (s.stopStation st) := by
  unfold State.stopStation
  split
  · next h => exact State.keeps_endCycle h
  · next h =>
    exact State.keeps_modStation ⟨fun _ => id, fun hx => hx.atRest (Bool.eq_false_iff.mpr h),
      fun _ _ _ => id⟩ fun _ => Iff.rfl

/-! ### Notices (R47 to R49) -/

theorem Station.names_notice (x : Station) (batch : Nat) (d : Departure) (c : ClassNo)
    (h : (x.notice batch d).Names c) : x.Names c := by
  rcases h with ⟨b, hb, hc⟩ | h
  · unfold Station.notice at hb
    dsimp only at hb
    split at hb
    · obtain ⟨b', hb', rfl⟩ := Option.map_eq_some_iff.mp hb
      exact .inl ⟨b', hb', hc⟩
    · exact .inl ⟨b, hb, hc⟩
  · exact .inr h

/-- The batch a notice leaves in CURRENT: the one there, or that with a piece restored. -/
theorem Station.notice_current {x : Station} {batch : Nat} {d : Departure} {b : Batch}
    (h : (x.notice batch d).current = some b) :
    (x.restores batch d = false ∧ x.current = some b) ∨
      (x.restores batch d = true ∧ ∃ c, x.current = some c ∧ c.remaining < c.pieces ∧
        b = { c with remaining := c.remaining + 1 }) := by
  unfold Station.notice at h
  dsimp only at h
  split at h
  · next hr =>
    obtain ⟨c, hc, rfl⟩ := Option.map_eq_some_iff.mp h
    refine .inr ⟨hr, c, hc, ?_, rfl⟩
    simp only [Station.restores, hc, Bool.and_eq_true, decide_eq_true_eq] at hr
    exact hr.2.2
  · next hr => exact .inl ⟨Bool.eq_false_iff.mpr hr, h⟩

theorem Station.notice_current_isNone (x : Station) (batch : Nat) (d : Departure) :
    (x.notice batch d).current.isNone = x.current.isNone := by
  unfold Station.notice
  dsimp only
  split
  · cases x.current <;> rfl
  · rfl

theorem Station.batch_sound_notice {x : Station} (hx : x.Sound) (batch : Nat) (d : Departure) :
    ∀ b ∈ (x.notice batch d).current, b.Sound := by
  intro b hb
  obtain ⟨-, -, -, -, -, hcur, -⟩ := hx
  rcases Station.notice_current hb with ⟨-, h⟩ | ⟨-, c, hc, hlt, rfl⟩
  · exact hcur b h
  · obtain ⟨h1, -, h3, h4⟩ := hcur c hc
    exact ⟨h1, hlt, h3, h4⟩

theorem Station.notice_remaining_pos {x : Station} {batch : Nat} {d : Departure} {b : Batch}
    (h : ∀ b ∈ x.current, 1 ≤ b.remaining) (hb : (x.notice batch d).current = some b) :
    1 ≤ b.remaining := by
  rcases Station.notice_current hb with ⟨-, h'⟩ | ⟨-, c, -, -, rfl⟩
  · exact h b h'
  · simp

/-- A notice keeps a station sound, but for one in FINISHING that it moves on. -/
theorem Station.Sound.notice {x : Station} (hx : x.Sound) {batch : Nat} {d : Departure}
    (h : x.state = .finishing → x.restores batch d = false ∧ 2 ≤ x.outstanding) :
    (x.notice batch d).Sound := by
  have hbs := Station.batch_sound_notice hx batch d
  have hnone := Station.notice_current_isNone x batch d
  obtain ⟨hopen, hret, htim, hcur, hnext, -, hbn, hpos, hfin⟩ := hx
  refine ⟨hopen, hret, htim, hnone.trans hcur, fun h => ?_, hbs, hbn, fun b hb hs => ?_,
    fun b hb hs => ?_⟩
  · have := hnext h
    rwa [← Option.not_isNone, ← hnone, Option.not_isNone] at this
  · exact Station.notice_remaining_pos (fun c hc => hpos c hc hs) hb
  · obtain ⟨hr, ho⟩ := h hs
    rcases Station.notice_current hb with ⟨-, hc⟩ | ⟨hr', -⟩
    · exact ⟨(hfin b hc hs).1, Nat.le_sub_one_of_lt ho⟩
    · rw [hr] at hr'; cases hr'

/-- A station in FINISHING to which a piece is restored feeds on (R49). -/
theorem Station.Sound.notice_waiting {x : Station} (hx : x.Sound) {batch : Nat} {d : Departure}
    (hs : x.state = .finishing) (hr : x.restores batch d = true) :
    { x.notice batch d with state := .waiting }.Sound := by
  have hbs := Station.batch_sound_notice hx batch d
  have hnone := Station.notice_current_isNone x batch d
  obtain ⟨hopen, hret, htim, hcur, hnext, -, hbn, -, -⟩ := hx
  rw [hs] at hopen hret htim hcur
  refine ⟨hopen, hret, htim, hnone.trans hcur, fun h => ?_, hbs, hbn, fun b hb _ => ?_,
    fun _ _ h => by cases h⟩
  · have := hnext h
    rwa [← Option.not_isNone, ← hnone, Option.not_isNone] at this
  · rcases Station.notice_current hb with ⟨hr', -⟩ | ⟨-, c, -, -, rfl⟩
    · rw [hr] at hr'; cases hr'
    · simp

/-- A station at rest completes its batch: NEXT moves up (R43). -/
theorem Station.Sound.promote {x : Station} (hn : ∀ b ∈ x.next, b.Sound ∧ b.remaining = b.pieces)
    (ho : x.openOut = false) (hr : x.returnOut = false) (ht : x.timer = none) :
    x.promote.Sound := by
  rcases h : x.next with _ | n
  · simp [Station.Sound, Station.promote, StationState.inCycle, h, ho, hr, ht]
  · obtain ⟨hns, hnr⟩ := hn n h
    have : 1 ≤ n.remaining := hnr ▸ hns.2.2.1
    simpa [Station.Sound, Station.promote, StationState.inCycle, h, ho, hr, ht, this] using hns

theorem Station.names_promote (x : Station) (c : ClassNo) (h : x.promote.Names c) : x.Names c := by
  rcases h with h | h
  · exact .inr h
  · simp [Station.promote] at h

theorem Station.not_inCycle_promote (x : Station) : x.promote.state.inCycle = false := by
  unfold Station.promote
  dsimp only
  split <;> rfl

/-- A station that is not in its clamp cycle has its clamps at rest. -/
theorem Station.Sound.clamps_rest {x : Station} (hx : x.Sound) (hc : x.state.inCycle = false) :
    x.openOut = false ∧ x.returnOut = false ∧ x.timer = none := by
  obtain ⟨h1, h2, h3, -⟩ := hx
  rw [hc] at h3
  refine ⟨?_, ?_, Option.isSome_eq_false_iff.mp h3 |> Option.isNone_iff_eq_none.mp⟩
  · rw [h1, decide_eq_false_iff_not]
    intro h
    simp [h, StationState.inCycle] at hc
  · rw [h2, decide_eq_false_iff_not]
    intro h
    simp [h, StationState.inCycle] at hc

theorem State.takes_promote {s : State} {st : StationNo} {y : Station}
    (hn : ∀ c, y.Names c → (s.station st).Names c) (hc : (s.station st).state.inCycle = false)
    (hy : y.next = (s.station st).next ∧ y.openOut = (s.station st).openOut ∧
      y.returnOut = (s.station st).returnOut ∧ y.timer = (s.station st).timer) :
    s.Takes st y.promote where
  names c h := hn c (Station.names_promote y c h)
  sound hx := by
    obtain ⟨h1, h2, h3, h4⟩ := hy
    obtain ⟨ho, hr, ht⟩ := hx.clamps_rest hc
    obtain ⟨-, -, -, -, -, -, hbn, -⟩ := hx
    exact Station.Sound.promote (h1 ▸ hbn) (h2 ▸ ho) (h3 ▸ hr) (h4 ▸ ht)
  cycle _ _ _ h := by rw [Station.not_inCycle_promote] at h; cases h

theorem State.keeps_notice (s : State) (st : StationNo) (batch : Nat) (d : Departure) :
    s.Keeps (s.notice st batch d) := by
  have hnames := Station.names_notice (s.station st) batch d
  have hplain : ((s.station st).state = .finishing →
      (s.station st).restores batch d = false ∧ 2 ≤ (s.station st).outstanding) →
      s.Keeps (s.modStation st fun x => x.notice batch d) := fun h =>
    State.keeps_modStation ⟨hnames, fun hx => hx.notice h, fun _ _ _ => id⟩ fun _ => Iff.rfl
  unfold State.notice
  split
  · next hs =>
    split
    · next hr =>
      exact State.keeps_enterWaiting
        ⟨hnames, fun hx => hx.notice_waiting hs hr, fun _ _ _ h => by cases h⟩ (by simp [hs])
    · next hr =>
      split
      · next ho =>
        have ht := State.takes_promote (y := (s.station st).notice batch d) hnames
          (by rw [hs]; rfl) ⟨rfl, rfl, rfl, rfl⟩
        rcases hc : ((s.station st).notice batch d).current with _ | b
        · have hstay : (s.modStation st fun x => x.notice batch d).completeBatch st false =
              s.modStation st fun x => x.notice batch d := by
            unfold State.completeBatch
            rw [State.modStation_eq, State.station_setStation_self, hc]
          rw [hstay]
          refine State.keeps_modStation ⟨hnames, fun hx => ?_, fun _ _ _ => id⟩ fun _ => Iff.rfl
          obtain ⟨-, -, -, hcur, -⟩ := hx
          rw [← Station.notice_current_isNone _ batch d, hc, hs] at hcur
          cases hcur
        · exact State.keeps_completeBatch ht hc
      · exact hplain fun _ => ⟨Bool.eq_false_iff.mpr hr, by omega⟩
  · next hs => exact hplain fun h => absurd h hs

end Sys2Proof.Machine
end

section
/-!
PROOFS. Lanes leaving OPEN (R144), all lanes changed at once, and what alarm occurrences keep (R146).
-/

namespace Sys2Proof.Machine

/-! ### The rest of the station rows -/

theorem State.keeps_noticeOf (s : State) (r : Record) (d : Departure) : s.Keeps (s.noticeOf r d) := by
  unfold State.noticeOf
  split
  · exact s.keeps_notice _ _ _
  · exact .refl s

theorem Station.Sound.load_pedal {x : Station} (hx : x.Sound) (h : x.state = .waiting) :
    { x with state := .loaded }.Sound := by
  simpa [Station.Sound, StationState.inCycle, h] using hx

theorem State.keeps_pedal (s : State) (st : StationNo) : s.Keeps (s.pedal st) := by
  unfold State.pedal
  split
  · next h =>
    obtain ⟨-, hw⟩ := h
    split
    · next hh =>
      unfold State.armHolder
      rw [State.modStation_modStation]
      have hf : (s.setStation st { s.station st with state := .armed }).Feeds (s.laneOf st) st :=
        ⟨State.holdsGrant_iff.mp hh, by rw [State.station_setStation_self], .inr rfl⟩
      exact ((State.keeps_armHolder hw hh).trans (State.keeps_workAndTest hf)).trans
        (State.keeps_decideGrant _ _)
    · exact (State.keeps_modStation ⟨fun _ => id, fun hx => hx.load_pedal hw, fun _ _ _ h => by cases h⟩
        fun _ => by simp [hw]).trans (State.keeps_decideGrant _ _)
  · exact .refl s

/-! ### Four lanes changed alike -/

theorem forEach_allFour (run : Fin 4 → State → State) (s : State) :
    forEach run allFour s = run 3 (run 2 (run 1 (run 0 s))) := rfl

theorem State.lane_modLane (s : State) (l m : LaneNo) (f : Lane → Lane) :
    (s.modLane l f).lane m = if m = l then f (s.lane m) else s.lane m := by
  rw [State.modLane_eq, State.lane_setLane]
  split
  · next e => rw [e]
  · rfl

/-- Every lane changed by a function of its number. -/
theorem State.forEach_modLane (s : State) (f : LaneNo → Lane → Lane) :
    forEach (fun l s => s.modLane l (f l)) allFour s =
      { s with lanes := ⟨f 0 (s.lane 0), f 1 (s.lane 1), f 2 (s.lane 2), f 3 (s.lane 3)⟩ } := rfl

/-- A state with its lanes replaced by their images. -/
def State.mapLanes (s : State) (f : Lane → Lane) : State := { s with lanes := s.lanes.map f }

theorem State.lane_mapLanes (s : State) (f : Lane → Lane) (l : LaneNo) :
    (s.mapLanes f).lane l = f (s.lane l) := Quad.get_map _ _ _

theorem State.station_mapLanes (s : State) (f : Lane → Lane) (st : StationNo) :
    (s.mapLanes f).station st = s.station st := rfl

theorem State.kept_mapLanes (s : State) (f : Lane → Lane) : (s.mapLanes f).kept = s.kept := rfl

theorem State.modLane_comm (s : State) {l m : LaneNo} (h : l ≠ m) (f g : Lane → Lane) :
    (s.modLane l f).modLane m g = (s.modLane m g).modLane l f := by
  have hset : ∀ (q : Quad Lane) (x y : Lane), (q.set l x).set m y = (q.set m y).set l x := by
    intro q x y
    apply Quad.ext_get
    intro i
    simp only [Quad.get_set]
    by_cases hi : i = m
    · rw [if_pos hi, if_neg (fun e => h (e.symm.trans hi)), if_pos hi]
    · simp [hi]
  simp only [State.modLane_eq, State.lane_setLane, if_neg h, if_neg h.symm]
  simp only [State.setLane, hset]

/-! ### A lane leaving OPEN -/

/-- The grant's holder disarmed, as a lane leaves OPEN (R52). -/
def State.disarmHolder (s : State) (l : LaneNo) : State :=
  match (s.lane l).grant with
  | some st => s.modStation st Station.disarm
  | none => s

theorem State.leaveOpen_eq {s : State} {l : LaneNo} (h : (s.lane l).state = .opened)
    (after : LaneState) : s.leaveOpen l after =
      ((s.disarmHolder l).setGrant l none).modLane l fun ln => { ln with state := after } := by
  rw [State.setGrant, State.modLane_modLane]
  unfold State.leaveOpen
  rw [if_pos h]
  rfl

theorem State.lane_disarmHolder (s : State) (l m : LaneNo) : (s.disarmHolder l).lane m = s.lane m := by
  unfold State.disarmHolder
  split <;> rfl

theorem State.lane_leaveOpen (s : State) (l m : LaneNo) (after : LaneState) :
    (s.leaveOpen l after).lane m =
      if m = l ∧ (s.lane m).state = .opened then
        { s.lane m with state := after, grant := none, releasePoint := none }
      else s.lane m := by
  by_cases h : (s.lane l).state = .opened
  · rw [State.leaveOpen_eq h, State.lane_modLane, State.setGrant, State.lane_modLane,
      State.lane_disarmHolder]
    by_cases e : m = l
    · rw [if_pos e, if_pos e, if_pos ⟨e, e ▸ h⟩]
    · rw [if_neg e, if_neg e, if_neg fun h => e h.1]
  · rw [State.leaveOpen_of_shut h, if_neg]
    rintro ⟨rfl, ho⟩
    exact h ho

theorem Station.disarm_sound {x : Station} (hx : x.Sound) : x.disarm.Sound := by
  unfold Station.disarm
  split
  · next h => simpa [Station.Sound, StationState.inCycle, h] using hx
  · exact hx

theorem State.takes_disarm (s : State) (st : StationNo) : s.Takes st (s.station st).disarm where
  names c := by
    unfold Station.disarm
    split <;> exact id
  sound := Station.disarm_sound
  cycle _ _ _ := by
    unfold Station.disarm
    split
    · exact fun h => by cases h
    · exact id

theorem Station.disarm_not_armed (x : Station) : x.disarm.state ≠ .armed := by
  unfold Station.disarm
  split
  · simp
  · next h => exact h

theorem State.keeps_disarmHolder (s : State) (l : LaneNo) :
    s.Keeps ((s.disarmHolder l).setGrant l none) := by
  unfold State.disarmHolder
  split
  · next st h =>
    exact State.keeps_dropGrant h (s.takes_disarm st) (Station.disarm_not_armed _) (.inl rfl)
  · next h => exact State.keeps_ungrant_free h

/-- A lane that is OPEN or HALTED is a lane of the plan in force, and no plan change is on. -/
theorem State.PlanSound.working {s : State} (h : s.PlanSound) {l : LaneNo}
    (ho : (s.lane l).state = .opened ∨ (s.lane l).state = .halted) :
    s.planNow.plan.hasLane l = true ∧ s.phase = .noChange := by
  obtain ⟨-, -, -, hl⟩ := h
  have := hl l
  split at this
  · rcases ho with h | h <;> rw [h] at this <;> cases this
  · next hn =>
    refine ⟨by simpa using hn, ?_⟩
    by_contra hp
    rw [if_neg hp] at this
    rcases ho with h | h <;> rw [h] at this <;> cases this

/-- A lane without a grant goes between OPEN and HALTED; with ESTOP active it does not become OPEN. -/
theorem State.keeps_laneState {s : State} {l : LaneNo} {a : LaneState}
    (ho : (s.lane l).state = .opened ∨ (s.lane l).state = .halted)
    (ha : a = .halted ∨ (a = .opened ∧ s.estop = false))
    (hg : (s.lane l).state = .opened → (s.lane l).grant = none) :
    s.Keeps (s.modLane l fun ln => { ln with state := a }) := by
  have hlane := State.lane_modLane s l (f := fun ln => { ln with state := a })
  have hframe : ∀ m, ((s.modLane l fun ln => { ln with state := a }).lane m).order =
        (s.lane m).order ∧
      ((s.modLane l fun ln => { ln with state := a }).lane m).grant = (s.lane m).grant ∧
      ((s.modLane l fun ln => { ln with state := a }).lane m).releasePoint =
        (s.lane m).releasePoint ∧
      ((s.modLane l fun ln => { ln with state := a }).lane m).queue = (s.lane m).queue ∧
      ((s.modLane l fun ln => { ln with state := a }).lane m).stacker = (s.lane m).stacker := by
    intro m
    rw [hlane]
    split <;> exact ⟨rfl, rfl, rfl, rfl, rfl⟩
  have ha' : a ≠ .closed ∧ a ≠ .draining := by rcases ha with rfl | ⟨rfl, -⟩ <;> simp
  refine ⟨⟨id, ?_, ?_, ?_, ?_⟩, ?_, id⟩
  · simp only [State.OrdersSound, hframe]
    exact id
  · rintro ⟨h1, h2, h3, h4⟩
    refine ⟨h1, h2, h3, fun m => ?_⟩
    change if s.planNow.plan.hasLane m = false then _ else if s.phase = .noChange then _ else _
    rw [hlane]
    by_cases e : m = l
    · obtain ⟨hn, hp⟩ := State.PlanSound.working ⟨h1, h2, h3, h4⟩ ho
      rw [if_pos e, e, if_neg (by simp [hn]), if_pos hp]
      rcases ha with rfl | ⟨rfl, -⟩ <;> simp
    · rw [if_neg e]; exact h4 m
  · intro _ hc
    rw [State.closedSound_iff] at hc ⊢
    intro m
    have hm := hc m
    simp only [Lane.Rests, hframe]
    rw [hlane]
    split
    · exact ⟨fun h => absurd h ha'.1, fun _ h => absurd h ha'.2⟩
    · exact hm
  · rintro - ⟨hgs, hs⟩
    refine ⟨?_, hs⟩
    rw [State.grantsSound_iff] at hgs ⊢
    obtain ⟨hgrant, harmed, hpoint⟩ := hgs
    have hfree : (s.lane l).grant = none := by
      by_contra hn
      obtain ⟨st, hst⟩ := Option.ne_none_iff_exists'.mp hn
      rw [hg (hgrant l st hst).1] at hst
      cases hst
    simp only [hframe]
    refine ⟨fun m st hst => ?_, harmed, fun m hm => ?_⟩
    · have := hgrant m st hst
      rw [hlane, if_neg (by rintro rfl; rw [hfree] at hst; cases hst)]
      exact this
    · obtain ⟨st, ho, hst, hsa⟩ := hpoint m hm
      refine ⟨st, ?_, hst, hsa⟩
      rw [hlane, if_neg (by rintro rfl; rw [hfree] at hst; cases hst)]
      exact ho
  · intro _ _ hs he
    refine ⟨fun m => ?_, (hs he).2⟩
    rw [hlane]
    split
    · rcases ha with rfl | ⟨-, h⟩
      · simp
      · rw [show s.estop = true from he] at h; cases h
    · exact (hs he).1 m

theorem State.keeps_haltLane (s : State) (l : LaneNo) : s.Keeps (s.haltLane l) := by
  unfold State.haltLane
  by_cases h : (s.lane l).state = .opened
  · rw [State.leaveOpen_eq h]
    refine (s.keeps_disarmHolder l).trans (State.keeps_laneState ?_ (.inl rfl) fun _ => ?_)
    · rw [(State.lane_setGrant_frame _ l l none).1, State.lane_disarmHolder]
      exact .inl h
    · rw [State.lane_setGrant, if_pos rfl]
  · rw [State.leaveOpen_of_shut h]
    exact .refl s

theorem State.keeps_haltEvery (s : State) : s.Keeps s.haltEvery :=
  State.keeps_forEach (fun l t => t.keeps_haltLane l) _ s

theorem State.lane_haltEvery (s : State) (m : LaneNo) : s.haltEvery.lane m =
    if (s.lane m).state = .opened then
      { s.lane m with state := .halted, grant := none, releasePoint := none }
    else s.lane m := by
  unfold State.haltEvery State.haltLane
  rw [forEach_allFour]
  simp only [State.lane_leaveOpen]
  fin_cases m <;> simp

theorem State.haltEvery_not_opened (s : State) (m : LaneNo) :
    (s.haltEvery.lane m).state ≠ .opened := by
  rw [State.lane_haltEvery]
  split
  · simp
  · next h => exact h

/-! ### An alarm occurrence -/

theorem State.keeps_haltFor (s : State) (src : Source) : s.Keeps (s.haltFor src) := by
  cases src
  case estop => exact s.keeps_haltEvery
  case scorch => exact s.keeps_haltEvery
  case wrap l => exact s.keeps_haltLane l
  case jam l => exact s.keeps_haltLane l
  case stray l => exact s.keeps_haltLane l
  case stacker l => exact s.keeps_haltLane l
  case misfeed => exact .refl s
  case speedLow => exact .refl s
  case speedHigh => exact .refl s

theorem State.keeps_applyAlarmRule (s : State) : s.Keeps s.applyAlarmRule :=
  State.keeps_of_lanes rfl rfl

theorem State.haltFor_estop (s : State) : s.haltFor .estop = s.haltEvery := rfl

theorem State.lane_applyAlarmRule (s : State) (l : LaneNo) :
    s.applyAlarmRule.lane l = s.lane l := rfl

theorem State.station_applyAlarmRule (s : State) (st : StationNo) :
    s.applyAlarmRule.station st = s.station st := rfl

/-- The latch and the line outputs at an occurrence (R156, R157, R161). -/
def State.latched (s : State) (src : Source) (cause : Nat) : State :=
  ({ s with
    alarms := { s.alarms with
      latches := s.alarms.latches.set src ((s.alarms.latches.get src).occur cause) } } : State).assertLines
    src

theorem State.occur_eq (s : State) (src : Source) (cause : Nat) :
    s.occur src cause = ((s.latched src cause).haltFor src).applyAlarmRule := rfl

/-- The latch and the line outputs are all an occurrence changes before it halts lanes. -/
theorem State.latched_eq (s : State) (src : Source) (cause : Nat) : s.latched src cause =
    { s with alarms := (s.latched src cause).alarms, lineHold := (s.latched src cause).lineHold,
             rollLift := (s.latched src cause).rollLift } := by
  unfold State.latched State.assertLines
  split <;> rfl

theorem State.lane_latched (s : State) (src : Source) (cause : Nat) (l : LaneNo) :
    (s.latched src cause).lane l = s.lane l := by
  rw [State.latched_eq]
  rfl

theorem State.station_latched (s : State) (src : Source) (cause : Nat) (st : StationNo) :
    (s.latched src cause).station st = s.station st := by
  rw [State.latched_eq]
  rfl

theorem State.keeps_latched (s : State) (src : Source) (cause : Nat) :
    s.Keeps (s.latched src cause) := by
  rw [State.latched_eq]
  exact State.keeps_of_lanes rfl rfl

theorem State.keeps_occur (s : State) (src : Source) (cause : Nat) :
    s.Keeps (s.occur src cause) :=
  ((s.keeps_latched src cause).trans (State.keeps_haltFor _ src)).trans
    (State.keeps_applyAlarmRule _)

end Sys2Proof.Machine
end

section
/-!
PROOFS. What the delivery path keeps: fold interfaces, stacking units and the phases of a plan change.
-/

namespace Sys2Proof.Machine

/-! ### Scorch guard and fold interfaces -/

theorem State.keeps_evalGuard (s : State) : s.Keeps s.evalGuard := State.keeps_of_lanes rfl rfl

theorem State.keeps_modFolder (s : State) (l : LaneNo) (f : Folder → Folder) :
    s.Keeps (s.modFolder l f) :=
  s.keeps_modLane l _ rfl fun _ => ⟨fun _ => id, fun _ _ => id⟩

theorem State.keeps_foldArrival (s : State) (l : LaneNo) (c : FoldCommand) :
    s.Keeps (s.foldArrival l c) := by
  unfold State.foldArrival
  split
  · exact s.keeps_modFolder l _
  · exact (s.keeps_modRecord l _ _).trans (State.keeps_occur _ _ _)

theorem State.keeps_emptyFolder (s : State) (l : LaneNo) : s.Keeps (s.emptyFolder l) :=
  s.keeps_modFolder l _

theorem State.keeps_abortFolder (s : State) (l : LaneNo) : s.Keeps (s.abortFolder l) :=
  (State.keeps_forEach (fun (_ : FoldCommand) t => State.keeps_modRecord t l _ _) _ s).trans
    (State.keeps_emptyFolder _ l)

/-! ### Stacking units -/

theorem State.keeps_modStacker {s : State} {l : LaneNo} {f : Stacker → Stacker}
    (hc : s.PlanSound → (s.lane l).state = .closed → (s.lane l).stacker.state = .empty →
      (f (s.lane l).stacker).state = .empty)
    (hd : s.phase = .stack → (s.lane l).state = .draining → (s.lane l).stacker.state.Asked →
      (f (s.lane l).stacker).state.Asked) : s.Keeps (s.modStacker l f) :=
  s.keeps_modLane l _ rfl fun hp => ⟨fun h hr => ⟨hr.1, hc hp h hr.2⟩, hd⟩

theorem State.keeps_modStacker_same (s : State) (l : LaneNo) {f : Stacker → Stacker}
    (h : ∀ x, (f x).state = x.state) : s.Keeps (s.modStacker l f) :=
  State.keeps_modStacker (fun _ _ he => (h _).trans he) fun _ _ ha => by rwa [h]

theorem StackState.Asked.of_building {p : Pile} (h : (StackState.building p).Asked) : False := by
  rcases h with h | h <;> cases h

theorem State.keeps_beginDischarge (s : State) (l : LaneNo) (r : StackReason)
    (p : Option PocketPiece) : s.Keeps (s.beginDischarge l r p) := by
  unfold State.beginDischarge
  split
  · next q hq =>
    exact State.keeps_modStacker (fun _ _ he => by rw [hq] at he; cases he)
      fun _ _ _ => .inr rfl
  · exact .refl s

/-- A stack put in BUILDING at once discharges where a discharge is asked for (R131, R133). -/
theorem State.beginDischarge_building (s : State) (l : LaneNo) (p : Pile) (r : StackReason)
    (q : Option PocketPiece) :
    (s.modStacker l fun x => { x with state := .building p }).beginDischarge l r q =
      s.modStacker l fun x => { x with state := .building p }.dischargePile p r q s.estop s.params.ts := by
  unfold State.beginDischarge
  rw [show ((s.modStacker l fun x => { x with state := .building p }).lane l).stacker.state =
    .building p by rw [State.modStacker, State.lane_modLane, if_pos rfl]]
  exact State.modLane_modLane _ _ _ _

theorem State.keeps_putPile {s : State} {l : LaneNo} {p : Pile}
    (hc : s.PlanSound → (s.lane l).state = .closed → (s.lane l).stacker.state ≠ .empty)
    (hd : p.count < p.target → s.phase = .stack → (s.lane l).state = .draining →
      ¬ (s.lane l).stacker.state.Asked) : s.Keeps (s.putPile l p) := by
  unfold State.putPile
  split
  · rw [State.beginDischarge_building]
    exact State.keeps_modStacker (fun hp h he => absurd he (hc hp h)) fun _ _ _ => .inr rfl
  · next h =>
    exact State.keeps_modStacker (fun hp h he => absurd he (hc hp h))
      fun hp hl ha => absurd ha (hd (by omega) hp hl)

theorem State.keeps_startPile {s : State} {l : LaneNo} (piece : PocketPiece)
    (hc : s.PlanSound → (s.lane l).state = .closed → (s.lane l).stacker.state ≠ .empty) :
    s.Keeps (s.startPile l piece) := by
  unfold State.startPile
  split
  · next h =>
    unfold State.putPile
    rw [if_neg (by simpa using h.1), State.beginDischarge_building]
    exact State.keeps_modStacker (fun hp h he => absurd he (hc hp h)) fun _ _ _ => .inr rfl
  · next h =>
    refine State.keeps_putPile hc fun hlt hp hl => absurd ⟨hlt, ?_⟩ h
    simp [State.planCloses, hp, hl]

theorem State.keeps_stackGood {s : State} {l : LaneNo} (batch : Nat) (cls : ClassNo)
    (h : (s.lane l).state ≠ .closed) : s.Keeps (s.stackGood l batch cls).2 := by
  unfold State.stackGood
  split
  · exact State.keeps_startPile _ fun _ hc => absurd hc h
  · next p hp =>
    split
    · exact State.keeps_putPile (fun _ hc => absurd hc h) fun _ _ _ ha => by
        rw [hp] at ha; exact ha.of_building
    · exact s.keeps_beginDischarge l _ _
  · next out _ =>
    exact State.keeps_modStacker (f := fun x => { x with
      state := .discharging out (some ⟨batch, cls, (s.classEntry cls).target⟩) })
      (fun _ hc => absurd hc h) fun _ _ _ => .inr rfl
  · exact s.keeps_occur _ _

theorem State.keeps_receivePiece {s : State} {l : LaneNo} (r : Record)
    (h : (s.lane l).state ≠ .closed) : s.Keeps (s.receivePiece l r).2 := by
  unfold State.receivePiece
  split
  · exact s.keeps_modStacker_same l fun _ => rfl
  · exact State.keeps_stackGood _ _ h

theorem Stacker.suspend_state (x : Stacker) : x.suspend.state = x.state := by
  unfold Stacker.suspend
  split <;> rfl

theorem Stacker.resume_state (x : Stacker) : x.resume.state = x.state := by
  unfold Stacker.resume
  split <;> rfl

theorem State.keeps_stackerTimedOut (s : State) (l : LaneNo) : s.Keeps (s.stackerTimedOut l) := by
  unfold State.stackerTimedOut
  split
  · exact (s.keeps_modStacker_same l (f := fun x => { x with timer := .expired })
      fun _ => rfl).trans (State.keeps_occur _ _ _)
  · exact .refl s

/-! ### Phase TRACK ends (R138, R151) -/

/-- A lane asked to discharge for a plan change. -/
def Lane.askedBy (estop : Bool) (ts : Nat) (ln : Lane) : Lane :=
  match ln.state, ln.stacker.state with
  | .draining, .building p => { ln with stacker := ln.stacker.dischargePile p .plan none estop ts }
  | _, _ => ln

theorem Lane.askedBy_building {ln : Lane} {p : Pile} (h : ln.state = .draining)
    (hp : ln.stacker.state = .building p) (e : Bool) (n : Nat) : ln.askedBy e n =
      { ln with stacker := ln.stacker.dischargePile p .plan none e n } := by
  unfold Lane.askedBy
  split
  · next q _ hq =>
    obtain rfl : p = q := by rw [hp] at hq; injection hq
    rfl
  · next hn => exact absurd hp (hn p h)

theorem Lane.askedBy_other {ln : Lane}
    (h : ln.state = .draining → ∀ p, ln.stacker.state ≠ .building p) (e : Bool) (n : Nat) :
    ln.askedBy e n = ln := by
  unfold Lane.askedBy
  split
  · next p hd hp => exact absurd hp (h hd p)
  · rfl

theorem State.askDischarge_eq (s : State) (l : LaneNo) :
    s.askDischarge l = s.modLane l (Lane.askedBy s.estop s.params.ts) := by
  unfold State.askDischarge
  split
  · next h =>
    unfold State.beginDischarge
    split
    · next p hp => rw [State.modLane_eq, Lane.askedBy_building h hp]; rfl
    · next hp => rw [State.modLane_eq, Lane.askedBy_other fun _ => hp, State.setLane_lane]
  · next h => rw [State.modLane_eq, Lane.askedBy_other fun hd => absurd hd h, State.setLane_lane]

theorem Lane.askedBy_frame (e : Bool) (n : Nat) (ln : Lane) :
    (ln.askedBy e n).state = ln.state ∧ (ln.askedBy e n).grant = ln.grant ∧
      (ln.askedBy e n).releasePoint = ln.releasePoint ∧ (ln.askedBy e n).order = ln.order ∧
      (ln.askedBy e n).queue = ln.queue := by
  unfold Lane.askedBy
  split <;> exact ⟨rfl, rfl, rfl, rfl, rfl⟩

theorem Lane.askedBy_asked {ln : Lane} (h : ln.state = .draining) (e : Bool) (n : Nat) :
    (ln.askedBy e n).stacker.state.Asked := by
  rcases hx : ln.stacker.state with _ | p | ⟨o, q⟩
  · rw [Lane.askedBy_other fun _ p hp => by rw [hx] at hp; cases hp]
    exact .inl hx
  · rw [Lane.askedBy_building h hx]
    exact .inr rfl
  · rw [Lane.askedBy_other fun _ p hp => by rw [hx] at hp; cases hp]
    exact .inr (by rw [hx]; rfl)

theorem State.trackTest_eq {s : State} (h : s.phase = .track ∧ s.drained = true) :
    s.trackTest =
      ({ s with phase := .stack } : State).mapLanes (Lane.askedBy s.estop s.params.ts) := by
  unfold State.trackTest
  rw [if_pos h, forEach_allFour]
  simp only [State.askDischarge_eq]
  rfl

theorem State.keeps_trackTest (s : State) : s.Keeps s.trackTest := by
  by_cases h : s.phase = .track ∧ s.drained = true
  · rw [State.trackTest_eq h]
    have hlane := State.lane_mapLanes { s with phase := .stack }
      (Lane.askedBy s.estop s.params.ts)
    refine ⟨⟨id, ?_, ?_, ?_, ?_⟩, ?_, id⟩
    · simp only [State.OrdersSound, hlane, Lane.askedBy_frame]
      exact id
    · simp only [State.PlanSound, hlane, Lane.askedBy_frame, h.1]
      exact id
    · intro _ hc
      rw [State.closedSound_iff] at hc ⊢
      intro l
      rw [hlane, (Lane.askedBy_frame _ _ _).1]
      refine ⟨fun hl => ?_, fun _ hl => Lane.askedBy_asked hl _ _⟩
      rw [Lane.askedBy_other fun hd => by rw [hl] at hd; cases hd]
      exact (hc l).1 hl
    · rintro - ⟨hg, hs⟩
      refine ⟨?_, hs⟩
      simp only [State.grantsSound_iff, hlane, Lane.askedBy_frame] at hg ⊢
      exact hg
    · simp only [State.StopSound, hlane, Lane.askedBy_frame]
      exact fun _ _ => id
  · rw [State.trackTest, if_neg h]
    exact .refl s

/-! ### Phase STACK ends (R152) -/

/-- With no lane OPEN, agreement of the grants is that no grant is held. -/
theorem State.grantsSound_of_shut {s : State} (ho : ∀ l, (s.lane l).state ≠ .opened) :
    s.GrantsSound ↔ (∀ l, (s.lane l).grant = none ∧ (s.lane l).releasePoint = none) ∧
      ∀ st, (s.station st).state ≠ .armed := by
  rw [State.grantsSound_iff]
  constructor
  · rintro ⟨hgrant, harmed, hpoint⟩
    have hfree : ∀ l, (s.lane l).grant = none := fun l =>
      Option.eq_none_iff_forall_ne_some.mpr fun st hst => ho l (hgrant l st hst).1
    refine ⟨fun l => ⟨hfree l, ?_⟩, fun st hst => by simpa [hfree] using harmed st hst⟩
    by_contra hp
    obtain ⟨st, hl, -⟩ := hpoint l (Option.isSome_iff_ne_none.mpr hp)
    exact ho l hl
  · rintro ⟨hfree, harmed⟩
    refine ⟨fun l st hst => ?_, fun st hst => absurd hst (harmed st), fun l hl => ?_⟩
    · rw [(hfree l).1] at hst
      cases hst
    · rw [(hfree l).2] at hl
      cases hl

theorem State.PlanSound.shut {s : State} (h : s.PlanSound) (hp : s.phase ≠ .noChange) (l : LaneNo) :
    (s.lane l).state ≠ .opened := fun ho => hp (h.working (.inl ho)).2

/-- The lanes as a completed change sets them (R59, R152). -/
def Lane.under (pair : PlanPair) (l : LaneNo) (ln : Lane) : Lane :=
  { ln with state := stateUnder pair.plan l, order := orderFor pair.map l }

theorem State.resetOrders_eq (s : State) :
    s.resetOrders = { s with lanes :=
      ⟨{ s.lane 0 with order := orderFor s.planNow.map 0 },
        { s.lane 1 with order := orderFor s.planNow.map 1 },
        { s.lane 2 with order := orderFor s.planNow.map 2 },
        { s.lane 3 with order := orderFor s.planNow.map 3 }⟩ } := by
  unfold State.resetOrders
  rw [forEach_allFour]
  rfl

theorem State.openPlan_eq (s : State) (plan : PlanCode) :
    s.openPlan plan = { s with lanes :=
      ⟨{ s.lane 0 with state := stateUnder plan 0 }, { s.lane 1 with state := stateUnder plan 1 },
        { s.lane 2 with state := stateUnder plan 2 },
        { s.lane 3 with state := stateUnder plan 3 }⟩ } :=
  s.forEach_modLane fun l ln => { ln with state := stateUnder plan l }

theorem State.completeChange_eq (s : State) (pair : PlanPair) :
    s.completeChange pair = ({ s with
      planNow := pair, planNext := none, phase := .noChange,
      lanes := ⟨(s.lane 0).under pair 0, (s.lane 1).under pair 1, (s.lane 2).under pair 2,
        (s.lane 3).under pair 3⟩ } : State).offer (.planDone pair) := by
  unfold State.completeChange
  rw [State.openPlan_eq, State.resetOrders_eq]
  rfl

/-- Every order list as the map in force has it, in station-number order (R59). -/
theorem State.lane_resetOrders (s : State) (l : LaneNo) :
    s.resetOrders.lane l = { s.lane l with order := orderFor s.planNow.map l } := by
  rw [State.resetOrders_eq]
  fin_cases l <;> rfl

theorem orderFor_sound (map : Quad LaneNo) (l : LaneNo) :
    (orderFor map l).Nodup ∧ ∀ st, st ∈ orderFor map l ↔ map.get st = l :=
  ⟨List.Nodup.filter _ (by decide), fun st => by simp [orderFor]⟩

theorem stateUnder_cases (plan : PlanCode) (l : LaneNo) :
    if plan.hasLane l = false then stateUnder plan l = .closed else stateUnder plan l = .halted := by
  unfold stateUnder
  cases plan.hasLane l <;> simp

theorem State.keeps_completeChange {s : State} {pair : PlanPair} (hpair : s.planNext = some pair)
    (h : s.phase = .stack) (hd : s.drained = true) (hg : s.stacksGone = true) :
    s.Keeps (s.completeChange pair) := by
  rw [State.completeChange_eq]
  refine State.Keeps.trans ?_ (State.keeps_offer _ _)
  generalize ht : ({ s with
      planNow := pair, planNext := none, phase := .noChange,
      lanes := ⟨(s.lane 0).under pair 0, (s.lane 1).under pair 1, (s.lane 2).under pair 2,
        (s.lane 3).under pair 3⟩ } : State) = t
  have hlane : ∀ l, t.lane l = (s.lane l).under pair l := by
    rintro l
    rw [← ht]
    fin_cases l <;> rfl
  have hshut : ∀ l, (t.lane l).state ≠ .opened := by
    intro l
    rw [hlane]
    simp only [Lane.under, stateUnder]
    split <;> simp
  have hstation : ∀ st, t.station st = s.station st := fun st => by rw [← ht]; rfl
  have hnow : t.planNow = pair := by rw [← ht]
  have hnext : t.planNext = none := by rw [← ht]
  have hphase : t.phase = .noChange := by rw [← ht]
  have hne : s.phase ≠ .noChange := by rw [h]; simp
  have hof : ∀ st, t.laneOf st = pair.map.get st := fun st => by rw [State.laneOf, hnow]
  refine ⟨⟨?_, ?_, ?_, ?_, ?_⟩, ?_, ?_⟩
  · simp only [State.fitSound_iff, hstation]
    intro hf st c hc
    rw [State.Fits, hnow, hnext]
    have hfit := (hf st c hc).2 pair hpair
    rw [← ht]
    exact ⟨hfit, fun _ h => by cases h⟩
  · intro _ l
    rw [hlane]
    simp only [hof]
    exact orderFor_sound pair.map l
  · rintro ⟨-, -, hmap, -⟩
    refine ⟨by simp [hnext, hphase], fun st => by rw [hnow, hof]; exact hmap pair hpair st,
      by simp [hnext], fun l => ?_⟩
    have := stateUnder_cases pair.plan l
    rw [hnow, hlane, hphase, if_pos rfl]
    split
    · next hl => rw [if_pos hl] at this; exact this
    · next hl => rw [if_neg hl] at this; exact .inr this
  · intro hp hc
    rw [State.closedSound_iff] at hc ⊢
    intro l
    refine ⟨fun _ => ?_, fun hs => by rw [hphase] at hs; cases hs⟩
    rw [hlane]
    change (s.lane l).Rests
    obtain ⟨hclosed, hasked⟩ := hc l
    obtain ⟨-, -, -, hlanes⟩ := hp
    have hl := hlanes l
    split at hl
    · exact hclosed hl
    · have h1 := List.all_eq_true.mp hd l (mem_allFour l)
      have h2 := List.all_eq_true.mp hg l (mem_allFour l)
      simp only [hl, decide_true, Bool.not_true, Bool.false_or] at h1 h2
      refine ⟨List.isEmpty_iff.mp h1, (hasked h hl).resolve_right fun hx => ?_⟩
      rw [hx] at h2
      cases h2
  · rintro hp ⟨hgs, hs⟩
    refine ⟨?_, fun st => by rw [hstation]; exact hs st⟩
    rw [State.grantsSound_of_shut (hp.shut hne)] at hgs
    rw [State.grantsSound_of_shut hshut]
    simp only [hlane, hstation]
    exact hgs
  · intro _ _ hs he
    exact ⟨hshut, fun st => by rw [hstation]; exact (hs (by rw [← he, ← ht])).2 st⟩
  · rw [← ht]
    exact id

theorem State.keeps_stackTest (s : State) : s.Keeps s.stackTest := by
  unfold State.stackTest
  split
  · next pair hpair =>
    split
    · next h =>
      obtain ⟨hp, hd, hg⟩ := h
      exact State.keeps_completeChange hpair hp hd hg
    · exact .refl s
  · exact .refl s

theorem State.keeps_planTest (s : State) : s.Keeps s.planTest :=
  s.keeps_trackTest.trans (State.keeps_stackTest _)

/-! ### CLEAR_l (R134) -/

theorem State.bearing_modStacker (s : State) (l : LaneNo) (f : Stacker → Stacker) :
    (s.modStacker l f).bearing = s.bearing := by
  simp only [State.bearing, State.modStacker, State.modLane, State.setLane]
  rw [Quad.map_set_same _ _ _ _ (by rfl)]

theorem State.bearing_beginDischarge (s : State) (l : LaneNo) (r : StackReason)
    (q : Option PocketPiece) : (s.beginDischarge l r q).bearing = s.bearing := by
  unfold State.beginDischarge
  split
  · exact s.bearing_modStacker l _
  · rfl

theorem State.bearing_startPile (s : State) (l : LaneNo) (piece : PocketPiece) :
    (s.startPile l piece).bearing = s.bearing := by
  unfold State.startPile State.putPile
  (repeat' split) <;> simp only [State.bearing_beginDischarge, State.bearing_modStacker]

theorem State.bearing_offer (s : State) (r : Report) : (s.offer r).bearing = s.bearing := by
  rw [State.offer_eq]
  rfl

theorem State.keeps_clearStack (s : State) (l : LaneNo) : s.Keeps (s.clearStack l) := by
  unfold State.clearStack
  split
  · next out pocket hst =>
    refine State.Keeps.trans ?_ (State.keeps_stackTest _)
    have hne : (s.lane l).stacker.state ≠ .empty := by rw [hst]; simp
    by_cases hc : (s.lane l).state = .closed
    · refine State.keeps_of_closedSound ?_ fun _ hcs => absurd ((hcs l).1 hc).2 hne
      split
      · rw [State.bearing_startPile, State.bearing_offer, State.bearing_modStacker]
      · rw [State.bearing_offer, State.bearing_modStacker]
    · have hempty : s.Keeps ((s.modStacker l fun x =>
          { x with state := .empty, timer := .idle, discharge := false }).offer
          (.stackDone l out.batch out.cls out.count out.reason)) :=
        (State.keeps_modStacker (fun _ _ he => absurd he hne) fun _ _ _ => .inl rfl).trans
          (State.keeps_offer _ _)
      split
      · next piece =>
        refine hempty.trans (State.keeps_startPile piece fun _ h => absurd ?_ hc)
        rw [← h]
        exact (State.state_of_bearing (by rw [State.bearing_offer, State.bearing_modStacker]) l).symm
      · exact hempty
  · exact .refl s

end Sys2Proof.Machine
end

section
/-!
PROOFS. What the sheet tracker, the eyes, a travel advance and the speed monitor keep.
-/

namespace Sys2Proof.Machine

/-! ### Losses -/

theorem State.keeps_markMerged (s : State) (l : LaneNo) (c : LostCause) :
    s.Keeps (s.markMerged l c) := by
  unfold State.markMerged
  split
  · exact s.keeps_modRecord l _ _
  · exact .refl s

theorem State.keeps_lossOccurrence (s : State) (l : LaneNo) (r : Record) (c : LostCause) :
    s.Keeps (s.lossOccurrence l r c) := by
  unfold State.lossOccurrence
  cases c
  case merged => exact .refl s
  case purged => exact .refl s
  case misfeed =>
    dsimp only
    split
    · exact s.keeps_occur _ _
    · exact .refl s
  all_goals exact s.keeps_occur _ _

theorem State.keeps_loseRecord (s : State) (l : LaneNo) (r : Record) (c : LostCause) :
    s.Keeps (s.loseRecord l r c) :=
  ((((((s.keeps_dropRecord l r.tag).trans (State.keeps_markMerged _ l c)).trans
    (State.keeps_noticeOf _ r _)).trans (State.keeps_offer _ _)).trans
      (State.keeps_lossOccurrence _ l r c)).trans (State.keeps_work _ l)).trans
        (State.keeps_evalGuard _)

theorem State.keeps_expireFor (s : State) (l : LaneNo) (tag : Nat)
    (due : Record → Option LostCause) : s.Keeps (s.expireFor l tag due) := by
  unfold State.expireFor
  split
  · exact .refl s
  · split
    · exact .refl s
    · exact (s.keeps_loseRecord l _ _).trans (State.keeps_planTest _)

theorem State.keeps_expireIfDue (s : State) (l : LaneNo) (tag : Nat) :
    s.Keeps (s.expireIfDue l tag) := s.keeps_expireFor l tag _

theorem State.keeps_expireIfSetPast (s : State) (l : LaneNo) (tag : Nat) :
    s.Keeps (s.expireIfSetPast l tag) := s.keeps_expireFor l tag _

/-! ### Edges, in a lane that is not CLOSED (R15) -/

theorem State.keeps_matchEntry (s : State) (l : LaneNo) (r : Record) (x : Pos) :
    s.Keeps (s.matchEntry l r x) :=
  ((((s.keeps_modRecord l _ _).trans (State.keeps_noticeOf _ _ _)).trans
    (State.keeps_workIf _ l _)).trans (State.keeps_evalGuard _)).trans
      (State.keeps_expireIfDue _ l _)

theorem State.keeps_foreignSheet {s : State} {l : LaneNo} (h : (s.lane l).state ≠ .closed)
    (x : Pos) : s.Keeps (s.foreignSheet l x) := by
  unfold State.foreignSheet
  split
  · have hjoin : s.Keeps (s.joinForeign l (s.foreignRecord l x)) :=
      (State.keeps_setQueue fun _ hc => absurd hc h).trans (State.keeps_countTag _ _)
    exact ((hjoin.trans (State.keeps_work _ l)).trans (State.keeps_evalGuard _)).trans
      (State.keeps_expireIfDue _ l _)
  · exact s.keeps_occur _ _

theorem State.keeps_entryLeading {s : State} {l : LaneNo} (h : (s.lane l).state ≠ .closed)
    (x : Pos) : s.Keeps (s.entryLeading l x) := by
  unfold State.entryLeading
  split
  · split
    · exact s.keeps_matchEntry l _ x
    · exact State.keeps_foreignSheet h x
  · exact State.keeps_foreignSheet h x

theorem State.keeps_entryTrailing (s : State) (l : LaneNo) (x : Pos) :
    s.Keeps (s.entryTrailing l x) := by
  unfold State.entryTrailing
  split
  · exact .refl s
  · have hwork := fun r : Record => (s.keeps_modRecord l r.tag (s.trailingTaken l x)).trans
      (State.keeps_workIf _ l (s.isYoungest l r))
    split
    · exact (hwork _).trans (State.keeps_expireIfSetPast _ l _)
    · exact hwork _

theorem State.keeps_eyeLeading {s : State} (l : LaneNo) (k : EyeNo) (eye : NextEye) (x : Pos)
    {hit : Record → State} (h : ∀ r, s.Keeps (hit r)) : s.Keeps (s.eyeLeading l k eye x hit) := by
  unfold State.eyeLeading
  split
  · split
    · exact h _
    · exact s.keeps_occur _ _
  · exact s.keeps_occur _ _

theorem State.keeps_matchE1 (s : State) (l : LaneNo) (r : Record) : s.Keeps (s.matchE1 l r) :=
  (s.keeps_modRecord l _ _).trans (State.keeps_expireIfSetPast _ l _)

theorem State.keeps_matchE2 (s : State) (l : LaneNo) (r : Record) : s.Keeps (s.matchE2 l r) :=
  (((s.keeps_modRecord l _ _).trans (State.keeps_foldArrival _ l _)).trans
    (State.keeps_evalGuard _)).trans (State.keeps_expireIfSetPast _ l _)

theorem State.keeps_matchE3 (s : State) (l : LaneNo) (r : Record) (x : Pos) :
    s.Keeps (s.matchE3 l r x) :=
  (s.keeps_modRecord l _ _).trans (State.keeps_expireIfSetPast _ l _)

theorem State.keeps_retire {s : State} {l : LaneNo} (h : (s.lane l).state ≠ .closed) (r : Record) :
    s.Keeps (s.retire l r) := by
  have hopen : ((s.dropRecord l r.tag).lane l).state ≠ .closed := by
    rw [State.dropRecord, State.setQueue, State.lane_modLane, if_pos rfl]
    exact h
  unfold State.retire
  exact (((((s.keeps_dropRecord l r.tag).trans (State.keeps_receivePiece r hopen)).trans
    (State.keeps_offer _ _)).trans (State.keeps_work _ l)).trans (State.keeps_evalGuard _)).trans
      (State.keeps_planTest _)

theorem State.keeps_stackTrailing {s : State} {l : LaneNo} (h : (s.lane l).state ≠ .closed) :
    s.Keeps (s.stackTrailing l) := by
  unfold State.stackTrailing
  split
  · exact State.keeps_retire h _
  · exact .refl s

theorem State.keeps_takeEdge {s : State} {l : LaneNo} (h : (s.lane l).state ≠ .closed) (k : EyeNo)
    (leading : Bool) (x : Pos) : s.Keeps (s.takeEdge l k leading x) := by
  unfold State.takeEdge
  split
  · exact State.keeps_entryLeading h x
  · exact s.keeps_entryTrailing l x
  · exact State.keeps_eyeLeading l 1 .e1 x fun r => s.keeps_matchE1 l r
  · exact State.keeps_eyeLeading l 2 .e2 x fun r => s.keeps_matchE2 l r
  · exact State.keeps_eyeLeading l 3 .e3 x fun r => s.keeps_matchE3 l r x
  · exact State.keeps_stackTrailing h
  · exact .refl s

theorem State.keeps_purgeLane (s : State) (l : LaneNo) : s.Keeps (s.purgeLane l) :=
  ((State.keeps_forEach (fun r t => t.keeps_loseRecord l r .purged) _ s).trans
    (State.keeps_emptyFolder _ l)).trans (State.keeps_planTest _)

/-! ### Eyes -/

theorem State.keeps_setEye (s : State) (l : LaneNo) (k : EyeNo) (e : Eye) :
    s.Keeps (s.setEye l k e) :=
  s.keeps_modLane l _ rfl fun _ => ⟨fun _ => id, fun _ _ => id⟩

theorem State.keeps_deliver (s : State) (l : LaneNo) (k : EyeNo) (leading : Bool) (x : Pos) :
    s.Keeps (s.deliver l k leading x) := by
  unfold State.deliver
  split
  · exact .refl s
  · next h => exact State.keeps_takeEdge h k leading x

theorem State.keeps_acceptIfDue (s : State) (l : LaneNo) (k : EyeNo) :
    s.Keeps (s.acceptIfDue l k) := by
  unfold State.acceptIfDue
  split
  · split
    · exact (s.keeps_setEye l k _).trans (State.keeps_deliver _ l k _ _)
    · exact .refl s
  · exact .refl s

theorem State.keeps_rawChange (s : State) (l : LaneNo) (k : EyeNo) (covered : Bool) :
    s.Keeps (s.rawChange l k covered) := by
  unfold State.rawChange
  split
  · exact s.keeps_setEye l k _
  · split
    · exact (s.keeps_setEye l k _).trans (State.keeps_deliver _ l k _ _)
    · exact s.keeps_setEye l k _

/-! ### A travel advance and a speed update -/

theorem State.keeps_inFreeOrder {τ : Type} [DecidableEq τ] {run : τ → State → State}
    (h : ∀ t (s : State), s.Keeps (run t s)) (tasks : List τ) (s : State) :
    s.Keeps (inFreeOrder run tasks s) :=
  inFreeOrder_keeps (P := s.Keeps) (fun u n hu => hu.trans (u.keeps_draw n))
    (fun t u hu => hu.trans (h t u)) tasks s (.refl s)

theorem State.keeps_runTask (t : AdvanceTask) (s : State) : s.Keeps (s.runTask t) := by
  cases t
  case edge l k => exact s.keeps_acceptIfDue l k
  case hold st => exact s.keeps_testHold st
  case releaseTest l => exact s.keeps_testRelease l
  case deadline l tag => exact s.keeps_expireIfDue l tag

theorem State.keeps_advance (s : State) : s.Keeps s.advance :=
  State.Keeps.trans (t := s.countAdvance) (State.keeps_of_lanes rfl rfl)
    (runFreely_keeps (P := s.countAdvance.Keeps) (fun u n hu => hu.trans (u.keeps_draw n))
      (fun t u hu => hu.trans (u.keeps_runTask t)) _ _ _ (.refl _))

theorem State.keeps_pulse (s : State) : s.Keeps s.pulse := by
  unfold State.pulse
  split
  · exact State.keeps_of_lanes rfl rfl
  · exact s.keeps_advance

theorem State.keeps_workAll (s : State) : s.Keeps s.workAll :=
  (State.keeps_forEach (fun l t => t.keeps_work l) _ s).trans
    (State.keeps_inFreeOrder (fun l t => t.keeps_work l) _ _)

theorem State.keeps_compareSpeed (s : State) (before : Nat) : s.Keeps (s.compareSpeed before) := by
  unfold State.compareSpeed
  split
  · exact s.keeps_occur _ _
  · split
    · exact s.keeps_occur _ _
    · exact .refl s

theorem State.keeps_gateOver (s : State) : s.Keeps s.gateOver :=
  (((State.keeps_of_lanes (s := s) (t := s.closeGate) rfl rfl).trans
    (State.keeps_compareSpeed _ s.speed)).trans
    (State.keeps_evalGuard _)).trans (State.keeps_workAll _)

theorem State.keeps_scorchOver (s : State) : s.Keeps s.scorchOver := by
  unfold State.scorchOver
  split
  · exact State.Keeps.trans (t := { s with scorch := .expired }) (State.keeps_of_lanes rfl rfl)
      (State.keeps_occur _ _ _)
  · exact .refl s

end Sys2Proof.Machine
end

section
/-!
PROOFS. The emergency stop of the stations (R53), state by state: with no grant held, each station
takes its stopped value, and those whose batch completes report in a free order.
-/

namespace Sys2Proof.Machine

/-! ### Tasks taken until none is left -/

section
variable {τ : Type} {run : τ → State → State}

/-- An order of tasks with a property of the tasks still to take. -/
theorem forEach_ends {P : List τ → State → Prop}
    (hr : ∀ t ts s, P (t :: ts) s → P ts (run t s)) (tasks : List τ) (s : State) (h : P tasks s) :
    P [] (forEach run tasks s) := by
  induction tasks generalizing s with
  | nil => exact h
  | cons t rest ih => exact ih _ (hr t rest s h)

/-- The same for a free order: every task is taken once. -/
theorem inFreeOrder_ends [DecidableEq τ] {P : List τ → State → Prop}
    (hd : ∀ ts (s : State) n, P ts s → P ts (s.draw n).2)
    (hr : ∀ t ts s, t ∈ ts → P ts s → P (ts.erase t) (run t s)) (tasks : List τ) (s : State)
    (h : P tasks s) : P [] (inFreeOrder run tasks s) := by
  unfold inFreeOrder
  generalize hn : tasks.length = n
  induction n generalizing tasks s with
  | zero =>
    rw [List.length_eq_zero_iff.mp hn] at h
    exact h
  | succ n ih =>
    have hdraw : (s.draw (id tasks).length).1 < tasks.length := by
      unfold State.draw
      split
      · simp [hn]
      · exact Nat.mod_lt _ (by simp [hn])
    have hs := hd tasks s (id tasks).length h
    unfold runFreely
    generalize s.draw (id tasks).length = x at hdraw hs
    obtain ⟨i, s'⟩ := x
    have hget : (id tasks)[i]? = some tasks[i] := List.getElem?_eq_getElem hdraw
    dsimp only at hs ⊢
    rw [hget]
    have hmem : tasks[i] ∈ tasks := List.getElem_mem hdraw
    exact ih _ _ (hr _ _ _ hmem hs) (by rw [List.length_erase_of_mem hmem, hn]; rfl)

/-- The same for tasks that all differ, by the tasks still left. -/
theorem inFreeOrder_each [DecidableEq τ] {P : (τ → Prop) → State → Prop}
    (hd : ∀ left (s : State) n, P left s → P left (s.draw n).2)
    (hr : ∀ t left s, left t → P left s → P (fun x => left x ∧ x ≠ t) (run t s)) (tasks : List τ)
    (s : State) (hn : tasks.Nodup) (h : P (· ∈ tasks) s) :
    P (fun _ => False) (inFreeOrder run tasks s) := by
  have hends := inFreeOrder_ends (run := run) (P := fun ts s => ts.Nodup ∧ P (· ∈ ts) s)
    (fun ts s n ⟨hn, h⟩ => ⟨hn, hd _ s n h⟩)
    (fun t ts s ht ⟨hn, h⟩ => by
      refine ⟨hn.erase t, ?_⟩
      have hleft : (· ∈ ts.erase t) = fun x => x ∈ ts ∧ x ≠ t := by
        funext x
        exact propext (by rw [hn.mem_erase_iff, and_comm])
      rw [hleft]
      exact hr t _ s ht h) tasks s ⟨hn, h⟩
  have hnone : (· ∈ ([] : List τ)) = fun _ => False := by
    funext x
    exact propext (by simp)
  rw [← hnone]
  exact hends.2

/-- Tasks of which some are taken in order and then the others in a free order: each is taken once. -/
theorem inTurns_each [DecidableEq τ] {P : (τ → Prop) → State → Prop} (last : τ → Bool)
    (hd : ∀ left (s : State) n, P left s → P left (s.draw n).2)
    (hr : ∀ t left s, left t → P left s → P (fun x => left x ∧ x ≠ t) (run t s)) (tasks : List τ)
    (s : State) (hn : tasks.Nodup) (h : P (· ∈ tasks) s) :
    P (fun _ => False) (inFreeOrder run (tasks.filter last)
      (forEach run (tasks.filter fun t => !last t) s)) := by
  have hfirst := forEach_ends (run := run)
    (P := fun ts s => ts.Nodup ∧ (∀ t ∈ ts, last t = false) ∧
      P (fun t => t ∈ ts ∨ t ∈ tasks.filter last) s)
    (fun t ts s ⟨hn, hl, h⟩ => by
      rw [List.nodup_cons] at hn
      have ht := hl t (by simp)
      refine ⟨hn.2, fun u hu => hl u (by simp [hu]), ?_⟩
      have hleft : (fun u => u ∈ ts ∨ u ∈ tasks.filter last) =
          fun u => (u ∈ t :: ts ∨ u ∈ tasks.filter last) ∧ u ≠ t := by
        funext u
        refine propext ⟨?_, ?_⟩
        · rintro (hu | hu)
          · exact ⟨.inl (by simp [hu]), fun e => hn.1 (e ▸ hu)⟩
          · exact ⟨.inr hu, fun e => by simp [e, ht] at hu⟩
        · rintro ⟨hu | hu, hne⟩
          · exact .inl ((List.mem_cons.mp hu).resolve_left hne)
          · exact .inr hu
      rw [hleft]
      exact hr t _ s (.inl (by simp)) h)
    (tasks.filter fun t => !last t) s
    ⟨hn.filter _, fun t ht => by simpa using (List.mem_filter.1 ht).2, by
      have hall : (fun t => t ∈ tasks.filter (fun t => !last t) ∨ t ∈ tasks.filter last) =
          (· ∈ tasks) := by
        funext t
        refine propext ?_
        cases ht : last t <;> simp [ht]
      rw [hall]
      exact h⟩
  refine inFreeOrder_each hd hr _ _ (hn.filter _) ?_
  simpa only [List.not_mem_nil, false_or] using hfirst.2.2

end

/-! ### One station -/

/-- The value a station takes at an ESTOP activation (R53). -/
def Station.stopped (x : Station) : Station := if x.state.inCycle then x.endCycle else x.atRest

theorem Station.not_inCycle_stopped (x : Station) : x.stopped.state.inCycle = false := by
  unfold Station.stopped
  split
  · exact x.not_inCycle_endCycle
  · next h => exact Bool.eq_false_iff.mpr h

/-- BATCH_END of a station whose batch completes. -/
def Station.endReport (x : Station) (st : StationNo) : Report :=
  match x.current with
  | some b => .batchEnd st b.id b.pieces (b.pieces - b.remaining) false
  | none => .batchEnd st 0 0 0 false

theorem State.enterWaiting_of_free {s : State} {st : StationNo} (h : s.holdsGrant st = false) :
    s.enterWaiting st = s.modStation st fun x => { x with state := .waiting } := by
  unfold State.enterWaiting
  refine State.testHold_of_not_over ?_
  have : (s.modStation st fun x => { x with state := .waiting }).holdsGrant st = false := h
  simp [State.runHoldOver, this]

theorem State.completeBatch_of_free {s : State} {st : StationNo} {b : Batch} (c : Bool)
    (h : s.holdsGrant st = false) (hb : (s.station st).current = some b) :
    s.completeBatch st c = (s.offer (.batchEnd st b.id b.pieces (b.pieces - b.remaining) c)).setStation
      st (s.station st).promote := by
  rw [State.completeBatch_eq c hb]
  refine State.giveBack_of_not_holding ?_
  rw [State.offer_eq]
  exact h

/-- Where a station holds no grant, stopping it offers BATCH_END if its batch completes, and gives it
its stopped value. -/
theorem State.stopStation_of_free {s : State} {st : StationNo} (h : s.holdsGrant st = false) :
    s.stopStation st = (if s.stopCompletes st then s.offer ((s.station st).endReport st)
      else s).setStation st (s.station st).stopped := by
  have hrest : (s.modStation st Station.atRest).station st = (s.station st).atRest :=
    State.station_setStation_self _ _ _
  have hcur : (s.station st).atRest.current = (s.station st).current := rfl
  have hout : (s.station st).atRest.outstanding = (s.station st).outstanding := rfl
  unfold State.stopStation State.stopCompletes Station.stopped
  by_cases hc : (s.station st).state.inCycle = true
  · unfold State.afterClampCycle
    rw [if_pos hc, if_pos hc, hrest, hcur, hout]
    unfold Station.endCycle Station.endReport
    rcases hb : (s.station st).current with _ | b
    · simp only [Bool.and_false, Bool.false_eq_true, if_false]
      exact State.modStation_modStation _ _ _ _
    · by_cases hr : b.remaining > 0
      · have hr' : b.remaining ≠ 0 := by omega
        simp only [hr, hr', if_true, decide_false, Bool.and_false, Bool.false_eq_true, if_false]
        rw [State.enterWaiting_of_free (show (s.modStation st _).holdsGrant st = false from h)]
        exact State.modStation_modStation _ _ _ _
      · have hr' : b.remaining = 0 := by omega
        by_cases ho : (s.station st).outstanding > 0
        · have ho' : (s.station st).outstanding ≠ 0 := by omega
          simp only [hr', ho, ho', if_true, decide_false, Bool.and_false, Bool.false_and,
            Bool.false_eq_true, if_false, gt_iff_lt, Nat.lt_irrefl]
          exact State.modStation_modStation _ _ _ _
        · have ho' : (s.station st).outstanding = 0 := by omega
          simp only [hc, hr', ho', if_true, decide_true, Bool.and_true, if_false, gt_iff_lt,
            Nat.lt_irrefl]
          rw [State.completeBatch_of_free (b := b) false
            (show (s.modStation st _).holdsGrant st = false from h) (by rw [hrest]; exact hb),
            hrest, State.modStation_eq, State.offer_setStation, State.setStation_setStation, hr']
  · rw [if_neg hc, if_neg hc]
    simp only [hc, Bool.false_and, Bool.false_eq_true, if_false]
    rfl

/-! ### All stations -/

/-- The report queue after BATCH_END of some stations, offered one after another. -/
def State.endReports (s : State) (done : List StationNo) : Reports :=
  done.foldl (fun q st => q.offered ((s.station st).endReport st)) s.reports

theorem State.endReports_concat (s : State) (done : List StationNo) (st : StationNo) :
    s.endReports (done ++ [st]) = (s.endReports done).offered ((s.station st).endReport st) :=
  List.foldl_append

/-- A state on the way from `s` to all stations stopped: those `left` are as in `s`, the others are
stopped, and `done` have reported. -/
structure State.Stopping (s : State) (left : StationNo → Prop) (done : List StationNo) (v : State) :
    Prop where
  rest : ∃ x a n, v =
    { s with stations := x, reports := s.endReports done, attn := a, freeDraws := n }
  waiting : ∀ st, left st → v.station st = s.station st
  stopped : ∀ st, ¬ left st → v.station st = (s.station st).stopped

theorem State.Stopping.congr {s v : State} {left left' : StationNo → Prop} {done : List StationNo}
    (h : s.Stopping left done v) (hl : ∀ st, left' st ↔ left st) : s.Stopping left' done v :=
  ⟨h.rest, fun st hs => h.waiting st ((hl st).mp hs), fun st hs => h.stopped st fun g => hs ((hl st).mpr g)⟩

theorem State.Stopping.holdsGrant {s v : State} {left : StationNo → Prop} {done : List StationNo}
    (h : s.Stopping left done v) (st : StationNo) : v.holdsGrant st = s.holdsGrant st := by
  obtain ⟨x, a, n, rfl⟩ := h.rest
  rfl

/-- One of the stations left is stopped. -/
theorem State.Stopping.step {s v : State} {left : StationNo → Prop} {done : List StationNo}
    (h : s.Stopping left done v) {st : StationNo} (hl : left st) (hg : s.holdsGrant st = false) :
    s.Stopping (fun su => left su ∧ su ≠ st) (if s.stopCompletes st then done ++ [st] else done)
      (v.stopStation st) := by
  have hst := h.waiting st hl
  have hcomp : v.stopCompletes st = s.stopCompletes st := by
    simp only [State.stopCompletes, hst]
  rw [State.stopStation_of_free ((h.holdsGrant st).trans hg), hcomp, hst]
  have hstation : ∀ su, State.station ((if s.stopCompletes st then v.offer ((s.station st).endReport st)
      else v).setStation st (s.station st).stopped) su =
        if su = st then (s.station st).stopped else v.station su := by
    intro su
    rw [State.station_setStation]
    split
    · rfl
    · split
      · rw [State.offer_eq]
        rfl
      · rfl
  refine ⟨?_, fun su hsu => ?_, fun su hsu => ?_⟩
  · obtain ⟨x, a, n, rfl⟩ := h.rest
    split
    · rw [State.offer_eq, State.endReports_concat]
      exact ⟨_, _, _, rfl⟩
    · exact ⟨_, _, _, rfl⟩
  · rw [hstation, if_neg hsu.2]
    exact h.waiting su hsu.1
  · rw [hstation]
    split
    · next e => rw [e]
    · next e => exact h.stopped su fun hls => hsu ⟨hls, e⟩

theorem State.Stopping.draw {s v : State} {left : StationNo → Prop} {done : List StationNo}
    (h : s.Stopping left done v) (n : Nat) : s.Stopping left done (v.draw n).2 := by
  rcases v.draw_two n with e | e <;> rw [e]
  · exact h
  · refine ⟨?_, h.waiting, h.stopped⟩
    obtain ⟨x, a, m, rfl⟩ := h.rest
    exact ⟨_, _, _, rfl⟩

theorem State.stopStations_stopping {s : State} (hg : ∀ st, s.holdsGrant st = false) :
    ∃ done, done.Perm (allFour.filter fun st => s.stopCompletes st) ∧
      s.Stopping (fun _ => False) done s.stopStations := by
  have hall := inTurns_each (run := fun st s => State.stopStation s st)
    (P := fun left v => ∃ done, done.Nodup ∧
      (∀ st, st ∈ done ↔ ¬ left st ∧ s.stopCompletes st = true) ∧ s.Stopping left done v)
    (fun st => s.stopCompletes st)
    (fun left v n ⟨done, hn, hm, hs⟩ => ⟨done, hn, hm, hs.draw n⟩)
    (fun t left v ht ⟨done, hn, hm, hs⟩ => by
      have hnot : t ∉ done := fun h => ((hm t).1 h).1 ht
      refine ⟨_, ?_, fun st => ?_, hs.step ht (hg t)⟩
      · split
        · exact List.nodup_append'.2 ⟨hn, List.nodup_singleton t, by simpa using hnot⟩
        · exact hn
      · by_cases e : st = t
        · subst e
          cases hc : s.stopCompletes st <;> simp [hnot]
        · cases hc : s.stopCompletes t <;> simp [hm, e])
    allFour s (by decide)
    ⟨[], List.nodup_nil, fun st => by simp,
      ⟨_, _, _, rfl⟩, fun _ _ => rfl, fun st h => absurd (mem_allFour st) h⟩
  obtain ⟨done, hn, hm, hs⟩ := hall
  refine ⟨done, (List.perm_ext_iff_of_nodup hn (List.Nodup.filter _ (by decide))).2 fun st => ?_, hs⟩
  rw [hm, List.mem_filter]
  simp

theorem State.lane_stopStations_of_free {s : State} (hg : ∀ st, s.holdsGrant st = false)
    (l : LaneNo) : s.stopStations.lane l = s.lane l := by
  obtain ⟨done, -, ⟨x, a, n, hrest⟩, -, -⟩ := State.stopStations_stopping hg
  rw [hrest]
  rfl

theorem State.station_stopStations_of_free {s : State} (hg : ∀ st, s.holdsGrant st = false)
    (st : StationNo) : s.stopStations.station st = (s.station st).stopped := by
  obtain ⟨done, -, -, -, hstopped⟩ := State.stopStations_stopping hg
  exact hstopped st id

end Sys2Proof.Machine
end

section
/-!
PROOFS. The ESTOP activation and deactivation (R18, R158) as one change of the whole state, and what
they keep.
-/

namespace Sys2Proof.Machine

/-! ### Fold interfaces emptied (R126) -/

/-- A record whose fold command is discarded takes FOLD_MISSED. -/
def Record.missFold (tags : List Nat) (y : Record) : Record :=
  if y.tag ∈ tags then { y with cause := some (y.cause.getD .foldMissed) } else y

/-- A lane with its fold interface emptied by an ESTOP activation. -/
def Lane.abortFolds (ln : Lane) : Lane :=
  { ln with queue := ln.queue.map (Record.missFold (ln.folder.queue.map FoldCommand.tag)),
            folder := .atReset }

theorem Record.giveCause_eq (y : Record) (c : RejectCause) :
    y.giveCause c = { y with cause := some (y.cause.getD c) } := by
  unfold Record.giveCause
  obtain ⟨_, _, _, _, _, _, _, _, _, _, _, _, _, _, _, _, cause, _⟩ := y
  cases cause <;> rfl

theorem Record.missFold_cons (n : Nat) (tags : List Nat) (y : Record) :
    (if y.tag = n then y.giveCause .foldMissed else y).missFold tags = y.missFold (n :: tags) := by
  unfold Record.missFold
  rw [Record.giveCause_eq]
  by_cases h : y.tag = n
  · by_cases g : y.tag ∈ tags <;> simp [h]
  · by_cases g : y.tag ∈ tags <;> simp [h, g]

theorem State.modRecord_eq (s : State) (l : LaneNo) (tag : Nat) (f : Record → Record) :
    s.modRecord l tag f = s.modLane l fun ln =>
      { ln with queue := ln.queue.map fun r => if r.tag = tag then f r else r } := rfl

theorem State.abortFolder_eq (s : State) (l : LaneNo) :
    s.abortFolder l = s.modLane l Lane.abortFolds := by
  have hrun : ∀ (cs : List FoldCommand) (t : State),
      forEach (fun (c : FoldCommand) s => s.modRecord l c.tag (Record.giveCause .foldMissed)) cs t =
        t.modLane l fun ln =>
          { ln with queue := ln.queue.map (Record.missFold (cs.map FoldCommand.tag)) } := by
    intro cs
    induction cs with
    | nil =>
      intro t
      have hid : Record.missFold [] = id := by
        funext y
        simp [Record.missFold]
      simp only [forEach_nil, List.map_nil, hid, List.map_id]
      exact (t.setLane_lane l).symm
    | cons c rest ih =>
      intro t
      rw [forEach_cons, ih, State.modRecord_eq, State.modLane_modLane]
      simp only [List.map_map, List.map_cons]
      congr 1
      funext ln
      congr 2
      funext y
      exact Record.missFold_cons c.tag _ y
  unfold State.abortFolder
  rw [hrun]
  unfold State.emptyFolder State.modFolder
  rw [State.modLane_modLane]
  rfl

/-! ### The activation -/

/-- A lane at an ESTOP activation, after it has left OPEN (R126, R136). -/
def Lane.stopped (ln : Lane) : Lane := { ln.abortFolds with stacker := ln.stacker.suspend }

/-- ESTOP accepted as active, with no hold. -/
def State.estopFlags (s : State) : State := { s with estop := true, estopHold := none }

theorem State.lane_estopFlags (s : State) (l : LaneNo) : s.estopFlags.lane l = s.lane l := rfl

/-- ESTOP accepted as active, its occurrence made, the lanes halted. -/
def State.estopOccurred (s : State) : State :=
  s.estopFlags.occur .estop causeActivated

theorem State.activateEstop_eq (s : State) : s.activateEstop =
    s.estopOccurred.stopStations.mapLanes Lane.stopped := by
  unfold State.activateEstop
  change forEach _ allFour (forEach _ allFour s.estopOccurred.stopStations) = _
  generalize s.estopOccurred.stopStations = u
  simp only [State.abortFolder_eq]
  rw [State.forEach_modLane u fun _ => Lane.abortFolds]
  exact State.forEach_modLane _ fun _ ln => { ln with stacker := ln.stacker.suspend }

theorem State.lane_estopOccurred (s : State) (l : LaneNo) :
    s.estopOccurred.lane l = s.haltEvery.lane l := by
  unfold State.estopOccurred
  rw [State.occur_eq, State.lane_applyAlarmRule, State.haltFor_estop, State.lane_haltEvery,
    State.lane_haltEvery, State.lane_latched, State.lane_estopFlags]

/-- At the activation no grant is left to hold. -/
theorem State.estopOccurred_free {s : State} (hg : s.GrantsSound) (st : StationNo) :
    s.estopOccurred.holdsGrant st = false := by
  refine decide_eq_false ?_
  rw [State.lane_estopOccurred, State.lane_haltEvery]
  split
  · simp
  · next h => exact fun e => h (hg.1 _ st e).1

theorem State.lane_activateEstop {s : State} (hg : s.GrantsSound) (l : LaneNo) :
    s.activateEstop.lane l = (s.haltEvery.lane l).stopped := by
  rw [State.activateEstop_eq, State.lane_mapLanes,
    State.lane_stopStations_of_free (State.estopOccurred_free hg), State.lane_estopOccurred]

theorem State.station_activateEstop {s : State} (hg : s.GrantsSound) (st : StationNo) :
    s.activateEstop.station st = (s.estopOccurred.station st).stopped := by
  rw [State.activateEstop_eq, State.station_mapLanes,
    State.station_stopStations_of_free (State.estopOccurred_free hg)]

theorem State.kept_activateEstop (s : State) :
    s.activateEstop.kept = { s.kept with estop := true, estopHold := none } := by
  rw [State.activateEstop_eq, State.kept_mapLanes, State.kept_stopStations, State.estopOccurred,
    State.kept_occur]
  rfl

/-! ### What they keep -/

theorem State.keepsPlant_activateEstop (s : State) : s.KeepsPlant s.activateEstop := by
  have hflag : s.KeepsPlant s.estopFlags :=
    ⟨id, id, id, fun _ => id, fun _ => id⟩
  have hstop : ∀ t : State, t.Keeps t.stopStations := fun t =>
    (State.keeps_forEach (fun st u => u.keeps_stopStation st) _ t).trans
      (State.keeps_inFreeOrder (fun st u => u.keeps_stopStation st) _ _)
  have htail := (((State.keeps_occur s.estopFlags .estop causeActivated).trans (hstop _)).trans
      (State.keeps_forEach (fun l t => t.keeps_abortFolder l) allFour _)).trans
        (State.keeps_forEach (fun l t => t.keeps_modStacker_same l Stacker.suspend_state) allFour _)
  exact hflag.trans htail.toKeepsPlant

theorem State.stopSound_activateEstop {s : State} (hg : s.GrantsSound) :
    s.activateEstop.StopSound := by
  refine fun _ => ⟨fun l => ?_, fun st => ?_⟩
  · rw [State.lane_activateEstop hg]
    exact s.haltEvery_not_opened l
  · rw [State.station_activateEstop hg]
    exact Station.not_inCycle_stopped _

theorem State.holdSound_activateEstop (s : State) : s.activateEstop.HoldSound := by
  have hk := s.kept_activateEstop
  simp only [State.kept, Kept.mk.injEq] at hk
  obtain ⟨-, -, -, -, -, -, -, -, he, hh, -⟩ := hk
  simp [State.HoldSound, State.EstopSound, he, hh]

theorem State.deactivateEstop_eq (s : State) : s.deactivateEstop =
    { s with estop := false, estopHold := none,
             lanes := s.lanes.map fun ln => { ln with stacker := ln.stacker.resume } } :=
  State.forEach_modLane { s with estop := false, estopHold := none }
    fun _ ln => { ln with stacker := ln.stacker.resume }

theorem State.keeps_deactivateEstop {s : State} (h : s.estopHold.isSome = true) :
    s.Keeps s.deactivateEstop := by
  have hflag : s.Keeps { s with estop := false, estopHold := none } := by
    refine ⟨⟨id, id, id, fun _ => id, fun _ => id⟩, fun _ _ _ he => (by cases he), ?_⟩
    rintro ⟨⟨h1, h2⟩, h3⟩
    refine ⟨⟨fun hh => (by cases hh), fun hr hi => ?_⟩, fun _ => rfl⟩
    rw [(h1 h).2] at hi
    cases hi
  exact hflag.trans
    (State.keeps_forEach (fun l t => t.keeps_modStacker_same l Stacker.resume_state) allFour _)

end Sys2Proof.Machine
end

section
/-!
PROOFS. What the requests keep: each answer's state (chapters 1 to 4 and 8 to 10), the reply and the
receiver.
-/

namespace Sys2Proof.Machine

/-! ### Settings -/

theorem State.keeps_withOperand {α : Type} {x : Option α} {s : State} {f : α → Answer}
    (h : ∀ a, x = some a → s.Keeps (f a).state) : s.Keeps (withOperand x s f).state := by
  unfold withOperand
  split
  · exact .refl s
  · exact h _ rfl

theorem State.classInUse_of_names {s : State} {st : StationNo} {c : ClassNo}
    (h : (s.station st).Names c) : s.classInUse c = true := by
  refine List.any_eq_true.mpr ⟨st, mem_allFour st, ?_⟩
  rw [Bool.or_eq_true]
  rcases h with ⟨b, hb, hc⟩ | ⟨b, hb, hc⟩
  · exact .inl (by rw [Option.mem_def.mp hb]; exact decide_eq_true hc)
  · exact .inr (by rw [Option.mem_def.mp hb]; exact decide_eq_true hc)

/-- A class whose width changes is named in no slot (R22). -/
theorem State.keeps_setClass {s : State} {c : ClassNo} {e : ClassEntry}
    (h : s.classInUse c = true → e.width = (s.classEntry c).width) : s.Keeps (s.setClass c e) := by
  refine ⟨⟨?_, id, id, fun _ => id, fun _ => id⟩, fun _ _ => id, id⟩
  intro hf
  rw [State.fitSound_iff] at hf ⊢
  intro st d hd
  have hwidth : ((s.setClass c e).classEntry d).width = (s.classEntry d).width := by
    by_cases hdc : d = c
    · subst hdc
      rw [← h (State.classInUse_of_names hd)]
      unfold State.classEntry
      by_cases h0 : d = 0
      · have := h (State.classInUse_of_names hd)
        rw [State.classEntry, if_pos h0] at this
        rw [if_pos h0, this]
      · rw [if_neg h0]
        simp [State.setClass]
    · unfold State.classEntry
      split
      · rfl
      · have : c.val ≠ d.val := fun e => hdc (Fin.ext e.symm)
        simp [State.setClass, Vector.getElem_set_ne _ _ this]
  have hfits : ∀ p, (s.setClass c e).classFits d p = s.classFits d p := fun p => by
    simp only [State.classFits, hwidth]
  have := hf st d hd
  simp only [State.Fits, hfits]
  exact this

theorem State.keeps_answerClassSet (o : ClassOperands) (s : State) :
    s.Keeps (answerClassSet o s).state := by
  unfold answerClassSet
  split
  · next c w _ _ =>
    split
    · exact .refl s
    · next h =>
      refine State.keeps_setClass fun hu => ?_
      by_contra hw
      exact h ⟨hw, hu⟩
  · exact .refl s

theorem State.keeps_writeStation {s : State} {st : StationNo}
    (h : (s.station st).state.idle = true) (p : StationParams) : s.Keeps (s.writeStation st p) := by
  have hna : (s.station st).state ≠ .armed := fun e => by simp [e, StationState.idle] at h
  have ht : s.Takes st { s.station st with params := p } := ⟨fun _ => id, id, fun _ _ _ => id⟩
  unfold State.writeStation
  split
  · exact State.keeps_setStation_giveBack ht hna
  · exact (State.keeps_setStation ht fun _ => Iff.rfl).trans (State.keeps_testHold _ st)

theorem State.keeps_answerStationSet (o : StationOperands) (s : State) :
    s.Keeps (answerStationSet o s).state := by
  unfold answerStationSet
  split
  · split
    · next h => exact State.keeps_writeStation h _
    · exact .refl s
  · exact .refl s

theorem State.keeps_answerGeometrySet (o : GeometryOperands) (s : State) :
    s.Keeps (answerGeometrySet o s).state := by
  unfold answerGeometrySet
  split
  · exact .refl s
  · next l _ =>
    split
    · split
      · exact s.keeps_modLane l (fun ln => { ln with geometry := geometryOf o }) rfl
          fun _ => ⟨fun _ => id, fun _ _ => id⟩
      · exact .refl s
    · exact .refl s

/-- Order lists as the map in force has them (R59). -/
theorem State.keeps_resetOrders (s : State) : s.Keeps s.resetOrders := by
  have hlane := s.lane_resetOrders
  have hrest : s.resetOrders = { s with lanes := s.resetOrders.lanes } := by
    rw [State.resetOrders_eq]
  rw [hrest]
  generalize s.resetOrders.lanes = q at hrest
  rw [hrest] at hlane
  refine ⟨⟨id, fun _ l => ?_, ?_, ?_, ?_⟩, ?_, id⟩
  · rw [hlane]
    exact orderFor_sound s.planNow.map l
  · simp only [State.PlanSound, hlane]
    exact id
  · simp only [State.closedSound_iff, Lane.Rests, hlane]
    exact fun _ => id
  · rintro - ⟨hg, hs⟩
    refine ⟨?_, hs⟩
    simp only [State.grantsSound_iff, hlane] at hg ⊢
    exact hg
  · simp only [State.StopSound, hlane]
    exact fun _ _ => id

theorem State.keeps_writeLine (s : State) (p : LineParams) : s.Keeps (s.writeLine p) := by
  have h1 : s.Keeps (s.putParams p) := State.keeps_of_lanes rfl rfl
  have h2 : s.Keeps (if p.mode = s.params.mode then s.putParams p
      else (s.putParams p).resetOrders) := by
    split
    · exact h1
    · exact h1.trans (State.keeps_resetOrders _)
  unfold State.writeLine
  dsimp only
  generalize (if p.mode = s.params.mode then s.putParams p
    else (s.putParams p).resetOrders) = s2 at h2
  have h3 : s.Keeps (if p.vs = s.params.vs then s2 else s2.evalGuard) := by
    split
    · exact h2
    · exact h2.trans (State.keeps_evalGuard _)
  generalize (if p.vs = s.params.vs then s2 else s2.evalGuard) = s3 at h3
  split
  · exact h3.trans (State.keeps_refreshAttn _)
  · exact (h3.trans (State.keeps_refreshAttn _)).trans
      (State.keeps_inFreeOrder (fun (e : LaneNo × EyeNo) t => t.keeps_acceptIfDue e.1 e.2) _ _)

theorem State.keeps_answerLineSet (o : LineOperands) (s : State) :
    s.Keeps (answerLineSet o s).state := by
  unfold answerLineSet
  split
  · split
    · exact .refl s
    · split
      · exact .refl s
      · exact s.keeps_writeLine _
  · exact .refl s

/-! ### Plan changes (R150, R153) -/

/-- A lane as the beginning of a plan change leaves it once it has left OPEN. -/
def Lane.drain (ln : Lane) : Lane := if ln.state = .halted then { ln with state := .draining } else ln

theorem State.drainLane_eq (s : State) (l : LaneNo) :
    s.drainLane l = (s.haltLane l).modLane l Lane.drain := by
  have hself : ∀ u : State, (u.lane l).drain = u.lane l → u.modLane l Lane.drain = u := by
    intro u hu
    rw [State.modLane_eq, hu, State.setLane_lane]
  unfold State.drainLane State.haltLane
  split
  · next h =>
    rw [State.leaveOpen_eq h, State.leaveOpen_eq h, State.modLane_modLane]
    rfl
  · next h =>
    rw [State.leaveOpen_of_shut (by rw [h]; simp), State.modLane_eq, State.modLane_eq, Lane.drain,
      if_pos h]
  · next h1 h2 =>
    rw [State.leaveOpen_of_shut h1, hself]
    rw [Lane.drain, if_neg h2]

theorem State.disarmHolder_modLane (s : State) {l m : LaneNo} (h : l ≠ m) (f : Lane → Lane) :
    (s.modLane m f).disarmHolder l = (s.disarmHolder l).modLane m f := by
  unfold State.disarmHolder
  rw [State.lane_modLane, if_neg h]
  split <;> rfl

/-- A lane leaving OPEN and a change of another lane go in either order. -/
theorem State.haltLane_modLane (s : State) {l m : LaneNo} (h : l ≠ m) (f : Lane → Lane) :
    (s.modLane m f).haltLane l = (s.haltLane l).modLane m f := by
  have hl : (s.modLane m f).lane l = s.lane l := by rw [State.lane_modLane, if_neg h]
  unfold State.haltLane
  by_cases ho : (s.lane l).state = .opened
  · rw [State.leaveOpen_eq ho, State.leaveOpen_eq (by rw [hl]; exact ho), State.setGrant,
      State.setGrant, State.modLane_modLane, State.modLane_modLane,
      State.disarmHolder_modLane s h, State.modLane_comm _ h]
  · rw [State.leaveOpen_of_shut ho, State.leaveOpen_of_shut (by rw [hl]; exact ho)]

/-- The lanes at the beginning of a plan change: all leave OPEN, then those HALTED drain. -/
theorem State.drainLanes_eq (s : State) :
    forEach (fun l s => s.drainLane l) allFour s = s.haltEvery.mapLanes Lane.drain := by
  unfold State.haltEvery
  simp only [forEach_allFour, State.drainLane_eq]
  rw [State.haltLane_modLane _ (l := 1) (m := 0) (by decide),
    State.haltLane_modLane _ (l := 2) (m := 1) (by decide),
    State.haltLane_modLane _ (l := 2) (m := 0) (by decide),
    State.haltLane_modLane _ (l := 3) (m := 2) (by decide),
    State.haltLane_modLane _ (l := 3) (m := 1) (by decide),
    State.haltLane_modLane _ (l := 3) (m := 0) (by decide)]
  exact State.forEach_modLane _ fun _ => Lane.drain

theorem Lane.drain_frame (ln : Lane) : ln.drain.grant = ln.grant ∧
    ln.drain.releasePoint = ln.releasePoint ∧ ln.drain.order = ln.order ∧
    ln.drain.queue = ln.queue ∧ ln.drain.stacker = ln.stacker ∧
    (ln.drain.state = .opened ↔ ln.state = .opened) ∧
    (ln.drain.state = .closed ↔ ln.state = .closed) := by
  unfold Lane.drain
  split
  · next h => simp [h]
  · simp

theorem Lane.drain_state_of_working {ln : Lane} (h : ln.state = .halted) :
    ln.drain.state = .draining := by rw [Lane.drain, if_pos h]

/-- The state at the beginning of a plan change, before its tests (R150). -/
def State.changing (s : State) (pair : PlanPair) : State :=
  { ({ s.haltEvery with planNext := some pair } : State).mapLanes Lane.drain with phase := .track }

theorem State.haltEvery_planNext (s : State) (x : Option PlanPair) :
    ({ s with planNext := x } : State).haltEvery = { s.haltEvery with planNext := x } := by
  have hone : ∀ (t : State) (l : LaneNo), ({ t with planNext := x } : State).haltLane l =
      { t.haltLane l with planNext := x } := by
    intro t l
    have hlane : ({ t with planNext := x } : State).lane l = t.lane l := rfl
    unfold State.haltLane
    by_cases ho : (t.lane l).state = .opened
    · rw [State.leaveOpen_eq ho, State.leaveOpen_eq (by rw [hlane]; exact ho)]
      unfold State.disarmHolder
      rw [hlane]
      split <;> rfl
    · rw [State.leaveOpen_of_shut ho, State.leaveOpen_of_shut (by rw [hlane]; exact ho)]
  unfold State.haltEvery
  simp only [forEach_allFour, hone]

theorem State.beginChange_eq (s : State) (pair : PlanPair) :
    s.beginChange pair = (s.changing pair).planTest := by
  unfold State.beginChange State.changing
  rw [State.drainLanes_eq, State.haltEvery_planNext]

theorem Station.disarm_slots (x : Station) :
    x.disarm.current = x.current ∧ x.disarm.next = x.next := by
  unfold Station.disarm
  split <;> exact ⟨rfl, rfl⟩

theorem State.disarmHolder_slots (s : State) (l : LaneNo) (st : StationNo) :
    ((s.disarmHolder l).station st).current = (s.station st).current ∧
      ((s.disarmHolder l).station st).next = (s.station st).next := by
  unfold State.disarmHolder
  split
  · rw [State.modStation_eq, State.station_setStation]
    split
    · next e => rw [e]; exact Station.disarm_slots _
    · exact ⟨rfl, rfl⟩
  · exact ⟨rfl, rfl⟩

theorem State.haltLane_slots (s : State) (l : LaneNo) (st : StationNo) :
    ((s.haltLane l).station st).current = (s.station st).current ∧
      ((s.haltLane l).station st).next = (s.station st).next := by
  unfold State.haltLane
  by_cases ho : (s.lane l).state = .opened
  · rw [State.leaveOpen_eq ho]
    exact s.disarmHolder_slots l st
  · rw [State.leaveOpen_of_shut ho]
    exact ⟨rfl, rfl⟩

theorem State.haltLane_phase (s : State) (l : LaneNo) : (s.haltLane l).phase = s.phase := by
  unfold State.haltLane
  by_cases ho : (s.lane l).state = .opened
  · rw [State.leaveOpen_eq ho]
    unfold State.disarmHolder
    split <;> rfl
  · rw [State.leaveOpen_of_shut ho]

theorem State.haltLane_slotsFit (s : State) (l : LaneNo) (p : PlanCode) :
    (s.haltLane l).slotsFit p = s.slotsFit p := by
  have hcl : (s.haltLane l).classes = s.classes := congrArg Kept.classes (s.kept_haltLane l)
  simp only [State.slotsFit, State.slotFits, State.classFits, State.classEntry, hcl,
    State.haltLane_slots]

/-- A lane takes the states of a plan change in place of HALTED, with none OPEN. -/
theorem State.keeps_drain {s : State} {pair : PlanPair} (hp : s.phase = .noChange)
    (ho : ∀ l, (s.lane l).state ≠ .opened)
    (hfit : s.slotsFit pair.plan = true) (hmap : ∀ st, pair.plan.hasLane (pair.map.get st) = true) :
    s.Keeps { ({ s with planNext := some pair } : State).mapLanes Lane.drain with
      phase := .track } := by
  have hlane : ∀ l, ({ ({ s with planNext := some pair } : State).mapLanes Lane.drain with
      phase := .track } : State).lane l = (s.lane l).drain :=
    s.lane_mapLanes Lane.drain
  refine ⟨⟨?_, ?_, ?_, ?_, ?_⟩, ?_, id⟩
  · simp only [State.fitSound_iff]
    intro hf st c hc
    refine ⟨(hf st c hc).1, fun q hq => ?_⟩
    obtain rfl : pair = q := Option.some.inj hq
    have hst := List.all_eq_true.mp hfit st (mem_allFour st)
    rw [Bool.and_eq_true] at hst
    rcases hc with ⟨b, hb, rfl⟩ | ⟨b, hb, rfl⟩
    · have := hst.1
      rwa [show (s.station st).current = some b from hb] at this
    · have := hst.2
      rwa [show (s.station st).next = some b from hb] at this
  · simp only [State.OrdersSound, hlane, Lane.drain_frame]
    exact id
  · rintro ⟨-, hnow, -, hlanes⟩
    refine ⟨rfl, hnow, fun q hq st => ?_, fun l => ?_⟩
    · obtain rfl : pair = q := Option.some.inj hq
      exact hmap st
    · have hl := hlanes l
      rw [hlane]
      change if s.planNow.plan.hasLane l = false then _ else _
      split at hl
      · next hn =>
        rw [if_pos hn, Lane.drain, if_neg (by rw [hl]; simp)]
        exact hl
      · next hn =>
        rw [if_neg hn, if_neg (by simp)]
        exact Lane.drain_state_of_working (hl.resolve_left (ho l))
  · intro _ hc
    rw [State.closedSound_iff] at hc ⊢
    intro l
    refine ⟨fun h => ?_, fun h => by cases h⟩
    rw [hlane] at h ⊢
    simp only [Lane.Rests, Lane.drain_frame] at h ⊢
    exact (hc l).1 h
  · rintro - ⟨hg, hs⟩
    refine ⟨?_, hs⟩
    simp only [State.grantsSound_iff, hlane, Lane.drain_frame] at hg ⊢
    exact hg
  · intro _ _ hs he
    refine ⟨fun l => ?_, (hs he).2⟩
    rw [hlane, ne_eq, (Lane.drain_frame _).2.2.2.2.2.1]
    exact ho l

theorem State.keeps_beginChange {s : State} {pair : PlanPair} (hp : s.phase = .noChange)
    (hfit : s.slotsFit pair.plan = true) (hmap : ∀ st, pair.plan.hasLane (pair.map.get st) = true) :
    s.Keeps (s.beginChange pair) := by
  rw [State.beginChange_eq]
  refine ((s.keeps_haltEvery).trans (State.keeps_drain ?_ s.haltEvery_not_opened ?_ hmap)).trans
    (State.keeps_planTest _)
  · exact (forEach_const State.phase (fun l t => t.haltLane_phase l) _ s).trans hp
  · exact (forEach_const (fun t => t.slotsFit pair.plan)
      (fun l t => t.haltLane_slotsFit l pair.plan) _ s).trans hfit

/-- A lane at a withdrawal (R153). -/
def Lane.undrain (ln : Lane) : Lane :=
  if ln.state = .draining then { ln with state := .halted } else ln

theorem State.withdrawChange_eq (s : State) : s.withdrawChange =
    ({ s with planNext := none, phase := .noChange } : State).mapLanes Lane.undrain := by
  have hone : ∀ (l : LaneNo) (t : State), t.undrainLane l = t.modLane l Lane.undrain := by
    intro l t
    unfold State.undrainLane
    split
    · next h => rw [State.modLane_eq, State.modLane_eq, Lane.undrain, if_pos h]
    · next h => rw [State.modLane_eq, Lane.undrain, if_neg h, State.setLane_lane]
  unfold State.withdrawChange
  simp only [hone]
  exact State.forEach_modLane _ fun _ => Lane.undrain

theorem Lane.undrain_frame (ln : Lane) : ln.undrain.grant = ln.grant ∧
    ln.undrain.releasePoint = ln.releasePoint ∧ ln.undrain.order = ln.order ∧
    ln.undrain.queue = ln.queue ∧ ln.undrain.stacker = ln.stacker ∧
    (ln.undrain.state = .opened ↔ ln.state = .opened) ∧
    (ln.undrain.state = .closed ↔ ln.state = .closed) := by
  unfold Lane.undrain
  split
  · next h => simp [h]
  · simp

theorem State.keeps_withdrawChange {s : State} (hp : s.phase = .track) :
    s.Keeps s.withdrawChange := by
  rw [State.withdrawChange_eq]
  have hlane := State.lane_mapLanes { s with planNext := none, phase := .noChange } Lane.undrain
  refine ⟨⟨?_, ?_, ?_, ?_, ?_⟩, ?_, id⟩
  · simp only [State.fitSound_iff]
    exact fun hf st c hc => ⟨(hf st c hc).1, fun _ h => by cases h⟩
  · simp only [State.OrdersSound, hlane, Lane.undrain_frame]
    exact id
  · rintro ⟨-, hnow, -, hlanes⟩
    refine ⟨rfl, hnow, fun _ h => (by cases h), fun l => ?_⟩
    have hl := hlanes l
    rw [hlane]
    change if s.planNow.plan.hasLane l = false then (s.lane l).undrain.state = _ else _
    split at hl
    · next hn =>
      rw [if_pos hn, Lane.undrain, if_neg (by rw [hl]; simp)]
      exact hl
    · next hn =>
      rw [if_neg (by rw [hp]; simp)] at hl
      rw [if_neg hn]
      refine (if_pos rfl).mpr (.inr ?_)
      change (s.lane l).undrain.state = _
      rw [Lane.undrain, if_pos hl]
  · intro _ hc
    rw [State.closedSound_iff] at hc ⊢
    intro l
    refine ⟨fun h => ?_, fun h => by cases h⟩
    rw [hlane] at h ⊢
    simp only [Lane.Rests, Lane.undrain_frame] at h ⊢
    exact (hc l).1 h
  · rintro - ⟨hg, hs⟩
    refine ⟨?_, hs⟩
    simp only [State.grantsSound_iff, hlane, Lane.undrain_frame] at hg ⊢
    exact hg
  · simp only [State.StopSound, hlane, ne_eq, Lane.undrain_frame]
    exact fun _ _ => id

theorem planLaneOperand_hasLane {plan : PlanCode} {b : Byte} {l : LaneNo}
    (h : planLaneOperand plan b = some l) : plan.hasLane l = true := by
  unfold planLaneOperand at h
  split at h
  · split at h
    · next hl => cases h; exact hl
    · cases h
  · cases h

/-- The lanes a PLAN_SET names are lanes of the plan it names (R26). -/
theorem planOperands_hasLane {o : PlanOperands} {pair : PlanPair} (h : planOperands o = some pair)
    (st : StationNo) : pair.plan.hasLane (pair.map.get st) = true := by
  unfold planOperands at h
  split at h
  · cases h
  · split at h
    · next h0 h1 h2 h3 =>
      cases h
      fin_cases st
      · exact planLaneOperand_hasLane h0
      · exact planLaneOperand_hasLane h1
      · exact planLaneOperand_hasLane h2
      · exact planLaneOperand_hasLane h3
    · cases h

theorem State.keeps_answerPlanSet (o : PlanOperands) (s : State) :
    s.Keeps (answerPlanSet o s).state := by
  refine State.keeps_withOperand fun pair hpair => ?_
  split
  · next hfit =>
    unfold answerPlanTested
    split
    · next hp =>
      change s.Keeps (if pair = s.planNow then s else s.beginChange pair)
      split
      · exact .refl s
      · exact State.keeps_beginChange hp hfit (planOperands_hasLane hpair)
    · next hp =>
      split
      · exact State.keeps_withdrawChange hp
      · exact .refl s
    · exact .refl s
  · exact .refl s

end Sys2Proof.Machine
end

section
/-!
PROOFS. What every command and the clock keep, and statement O56.
-/

namespace Sys2Proof.Machine

/-! ### Commands of the host -/

theorem State.fitsPlans_iff {s : State} {c : ClassNo} : s.fitsPlans c = true ↔ s.Fits c := by
  unfold State.fitsPlans State.Fits
  rw [Bool.and_eq_true]
  rcases h : s.planNext with _ | pair <;> simp

theorem classOperand_ne_zero {b : Byte} {c : ClassNo} (h : classOperand b = some c) : c ≠ 0 := by
  unfold classOperand at h
  split at h
  · next hb =>
    split at h
    · cases h
    · next h0 =>
      cases h
      intro hc
      have hv : b.toNat = 0 := congrArg Fin.val hc
      exact h0 (BitVec.eq_of_toNat_eq hv)
  · cases h

/-- The descriptor of a BATCH_LOAD is a sound batch with all its pieces to feed (R41). -/
theorem batchOf_sound {o : BatchOperands} {c : ClassNo} (hid : o.id ≠ 0) (hc : c ≠ 0) :
    (batchOf o c).Sound ∧ (batchOf o c).remaining = (batchOf o c).pieces := by
  have hpos : 1 ≤ o.id.toNat := by
    rcases Nat.eq_zero_or_pos o.id.toNat with h | h
    · exact absurd (BitVec.eq_of_toNat_eq h) hid
    · exact h
  exact ⟨⟨hpos, le_refl _, (clampTo_mem (by decide) _).1, hc⟩, rfl⟩

theorem Station.Sound.load {x : Station} (hx : x.Sound) {b : Batch} (hb : b.Sound)
    (hr : b.remaining = b.pieces) : (x.load b).Sound := by
  obtain ⟨ho, hret, ht, hcur, hnext, hbs, hbn, hpos, hfin⟩ := hx
  unfold Station.load
  split
  · next hc =>
    rw [hc, Option.isNone_none, eq_comm, decide_eq_true_eq] at hcur
    rw [hcur] at ho hret ht
    have hn : x.next = none := by
      rcases h : x.next with _ | n
      · rfl
      · simpa [hc] using hnext (by rw [h]; rfl)
    have : 1 ≤ b.remaining := hr ▸ hb.2.2.1
    refine ⟨ho, hret, ht, rfl, fun _ => rfl, fun c hc => ?_, fun c hc => ?_, fun c hc _ => ?_,
      fun _ _ h => by cases h⟩
    · cases hc; exact hb
    · rw [hn] at hc; cases hc
    · cases hc; exact this
  · next c hc =>
    refine ⟨ho, hret, ht, hcur, fun _ => by rw [hc]; rfl, hbs, fun d hd => ?_, hpos, hfin⟩
    cases hd
    exact ⟨hb, hr⟩

theorem Station.names_load {x : Station} {b : Batch} {c : ClassNo} (h : (x.load b).Names c) :
    x.Names c ∨ c = b.cls := by
  unfold Station.load at h
  split at h
  · rcases h with ⟨d, hd, hc⟩ | h
    · cases hd; exact .inr hc.symm
    · exact .inl (.inr h)
  · rcases h with h | ⟨d, hd, hc⟩
    · exact .inl (.inl h)
    · cases hd; exact .inr hc.symm

/-- A batch whose class fits the plans fills a slot (R42). -/
theorem State.keeps_load {s : State} {st : StationNo} {b : Batch} (hfit : s.Fits b.cls)
    (hb : b.Sound) (hr : b.remaining = b.pieces) : s.Keeps (s.modStation st fun x => x.load b) := by
  refine State.keeps_setStation_of_fit (y := (s.station st).load b) ?_ (fun hx => hx.load hb hr)
    ?_ ?_
  · simp only [State.fitSound_iff]
    intro hf su c hc
    rw [State.station_setStation] at hc
    split at hc
    · rcases Station.names_load hc with h | rfl
      · exact hf st c h
      · exact hfit
    · exact hf su c hc
  · intro _ _ _ hc
    unfold Station.load at hc
    split at hc
    · cases hc
    · exact hc
  · rintro ⟨-, hs⟩
    unfold Station.load
    split
    · next hc =>
      obtain ⟨-, -, -, hcur, -⟩ := hs st
      rw [hc] at hcur
      refine ⟨fun h => (nomatch h), fun h => ?_⟩
      rw [h] at hcur
      cases hcur
    · exact Iff.rfl

theorem State.keeps_answerBatchLoad (o : BatchOperands) (s : State) :
    s.Keeps (answerBatchLoad o s).state := by
  unfold answerBatchLoad
  split
  · next st c _ hc =>
    split
    · next h =>
      unfold answerLoadTested
      split
      · next hfit =>
        split
        · exact .refl s
        · obtain ⟨hb, hr⟩ := batchOf_sound (c := c) h.1 (classOperand_ne_zero hc)
          exact State.keeps_load (State.fitsPlans_iff.mp hfit) hb hr
      · exact .refl s
    · exact .refl s
  · exact .refl s

theorem State.keeps_clearNext (s : State) (st : StationNo) :
    s.Keeps (s.modStation st fun x => { x with next := none }) := by
  refine State.keeps_modStation ⟨fun c h => h.elim .inl fun ⟨_, hb, _⟩ => (nomatch hb), fun hx => ?_,
    fun _ _ _ => id⟩ fun _ => Iff.rfl
  obtain ⟨ho, hr, ht, hcur, -, hbs, -, hpos, hfin⟩ := hx
  exact ⟨ho, hr, ht, hcur, fun h => (nomatch h), hbs, fun _ h => (nomatch h), hpos, hfin⟩

theorem State.keeps_cancelCurrent {s : State} {st : StationNo} (c : Bool)
    (h : (s.station st).state.inCycle = false) : s.Keeps (s.completeBatch st c) := by
  rcases hb : (s.station st).current with _ | b
  · have hstay : s.completeBatch st c = s := by
      unfold State.completeBatch
      rw [hb]
    rw [hstay]
    exact .refl s
  · have hid : s.modStation st (fun x => x) = s := s.setStation_station st
    have ht := State.takes_promote (y := s.station st) (fun _ => id) h ⟨rfl, rfl, rfl, rfl⟩
    have := State.keeps_completeBatch (f := fun x => x) (c := c) ht hb
    rwa [hid] at this

theorem State.keeps_answerBatchCancelCurrent (station : Byte) (s : State) :
    s.Keeps (answerBatchCancelCurrent station s).state := by
  refine State.keeps_withOperand fun st _ => ?_
  rcases h : (s.station st).state
  case waiting => exact State.keeps_cancelCurrent true (by rw [h]; rfl)
  case loaded => exact State.keeps_cancelCurrent true (by rw [h]; rfl)
  case armed => exact State.keeps_cancelCurrent true (by rw [h]; rfl)
  all_goals exact .refl s

/-! ### Commands to lanes and alarms -/

theorem State.keeps_answerResume (lane : Byte) (s : State) :
    s.Keeps (answerResume lane s).state := by
  refine State.keeps_withOperand fun l _ => ?_
  rcases h : (s.lane l).state
  case halted =>
    dsimp only
    split
    · next hm =>
      have he : s.estop = false := by
        simp only [State.mayResume, Bool.and_eq_true, Bool.not_eq_true'] at hm
        exact hm.1.2
      exact (State.keeps_laneState (.inr h) (.inr ⟨rfl, he⟩) fun ho => by
        rw [h] at ho; cases ho).trans (State.keeps_decideGrant _ l)
    · exact .refl s
  all_goals exact .refl s

theorem State.keeps_answerHalt (lane : Byte) (s : State) : s.Keeps (answerHalt lane s).state := by
  refine State.keeps_withOperand fun l _ => ?_
  split
  · exact s.keeps_haltLane l
  all_goals exact .refl s

theorem State.keeps_answerPurge (lane : Byte) (s : State) : s.Keeps (answerPurge lane s).state := by
  refine State.keeps_withOperand fun l _ => ?_
  have hpurge : s.Keeps (if s.inputs.ironerRun then refuse .state s
      else carryOut false [] (s.purgeLane l)).state := by
    split
    · exact .refl s
    · exact s.keeps_purgeLane l
  split
  · exact hpurge
  · exact hpurge
  all_goals exact .refl s

theorem State.keeps_answerFlush (lane : Byte) (s : State) : s.Keeps (answerFlush lane s).state := by
  refine State.keeps_withOperand fun l _ => ?_
  split
  · exact s.keeps_beginDischarge l _ _
  all_goals exact .refl s

theorem State.releaseLines_eq (s : State) (src : Source) : s.releaseLines src =
    { s with lineHold := (s.releaseLines src).lineHold,
             rollLift := (s.releaseLines src).rollLift } := by
  unfold State.releaseLines
  split <;> rfl

theorem State.keeps_releaseLines (s : State) (src : Source) : s.Keeps (s.releaseLines src) := by
  rw [State.releaseLines_eq]
  exact State.keeps_of_lanes rfl rfl

theorem State.keeps_clearLatch (s : State) (src : Source) : s.Keeps (s.clearLatch src) := by
  have hlatch : s.Keeps { s with
      alarms := { s.alarms with latches := s.alarms.latches.set src .clear } } :=
    State.keeps_of_lanes rfl rfl
  exact (hlatch.trans (State.keeps_releaseLines _ src)).trans (State.keeps_applyAlarmRule _)

theorem State.keeps_answerRejectMark (tag : BitVec 16) (s : State) :
    s.Keeps (answerRejectMark tag s).state := by
  refine State.keeps_withOperand fun l _ => State.keeps_withOperand fun r _ => ?_
  unfold answerMarkRecord
  split
  · exact .refl s
  · exact s.keeps_modRecord l _ _

/-! ### Every answer, the reply and the receiver -/

/-- What a request keeps by its answer (R33). -/
theorem State.keeps_answer (i : Instr) (s : State) : s.Keeps (answer i s).state := by
  cases i
  case reportFetch max => exact State.keeps_of_lanes rfl rfl
  case sheetsRead => exact State.keeps_withOperand fun _ _ => .refl s
  case stationRead => exact State.keeps_withOperand fun _ _ => .refl s
  case laneRead => exact State.keeps_withOperand fun _ _ => .refl s
  case classSet o => exact s.keeps_answerClassSet o
  case stationSet o => exact s.keeps_answerStationSet o
  case geometrySet o => exact s.keeps_answerGeometrySet o
  case lineSet o => exact s.keeps_answerLineSet o
  case planSet o => exact s.keeps_answerPlanSet o
  case alarmSet kind mask level =>
    change s.Keeps (answerAlarmSet kind mask level s).state
    unfold answerAlarmSet
    split
    · exact State.keeps_of_lanes rfl rfl
    · exact .refl s
  case batchLoad o => exact s.keeps_answerBatchLoad o
  case batchCancelNext => exact State.keeps_withOperand fun st _ => s.keeps_clearNext st
  case batchCancelCurrent station => exact s.keeps_answerBatchCancelCurrent station
  case laneCmdResume lane => exact s.keeps_answerResume lane
  case laneCmdHalt lane => exact s.keeps_answerHalt lane
  case laneCmdPurge lane => exact s.keeps_answerPurge lane
  case laneCmdFlush lane => exact s.keeps_answerFlush lane
  case haltAll => exact s.keeps_haltEvery
  case alarmAck kind index =>
    refine State.keeps_withOperand fun src _ => ?_
    split
    · exact s.keeps_clearLatch src
    · exact .refl s
  case rejectMark tag => exact s.keeps_answerRejectMark tag
  all_goals exact .refl s

end Sys2Proof.Machine
end

section
/-!
PROOFS. Statement O56: what every command and the clock keep.
-/

namespace Sys2Proof.Machine

/-! ### Requests and the receiver -/

theorem State.keeps_request {s : State} {code : Byte} {f : State → Answer}
    (h : s.Keeps (f s).state) : s.Keeps (s.request code f) := by
  rcases s.request_cases code f with e | e | ⟨-, e⟩ <;> rw [e]
  · exact State.keeps_of_lanes rfl rfl
  · exact .refl s
  · exact h.trans (State.keeps_of_lanes rfl rfl)

theorem State.keeps_answerFrame (code : Byte) (body : List Byte) (s : State) :
    s.Keeps (answerFrame code body s).state := by
  unfold answerFrame
  split
  · exact .refl s
  · exact s.keeps_answer _

/-! ### Reset (R183) -/

theorem State.station_resetBlocks (s : State) (phase : ResetPhase) (st : StationNo) :
    (s.resetBlocks phase).station st = .atReset :=
  Quad.get_fill _ st

theorem State.laneOf_resetBlocks (s : State) (phase : ResetPhase) (st : StationNo) :
    (s.resetBlocks phase).laneOf st = 0 :=
  Quad.get_fill _ st

/-- Lane 0 is HALTED with every station in its order list, the others are CLOSED (R59, R143). -/
theorem State.lane_resetBlocks (s : State) (phase : ResetPhase) (l : LaneNo) :
    ∃ raw, (s.resetBlocks phase).lane l =
      .atReset (if l = 0 then .halted else .closed) (if l = 0 then [0, 1, 2, 3] else []) raw := by
  fin_cases l <;> exact ⟨_, rfl⟩

theorem State.grant_resetBlocks (s : State) (phase : ResetPhase) (l : LaneNo) :
    ((s.resetBlocks phase).lane l).grant = none ∧
      ((s.resetBlocks phase).lane l).releasePoint = none ∧
        ((s.resetBlocks phase).lane l).state ≠ .opened := by
  obtain ⟨raw, hl⟩ := s.lane_resetBlocks phase l
  rw [hl]
  refine ⟨rfl, rfl, ?_⟩
  simp only [Lane.atReset]
  split <;> exact LaneState.noConfusion

theorem order_atReset : ∀ l : LaneNo, (if l = 0 then [0, 1, 2, 3] else [] : List StationNo).Nodup ∧
    ∀ st : StationNo, (st ∈ if l = 0 then [0, 1, 2, 3] else ([] : List StationNo)) ↔ 0 = l := by
  decide

theorem State.grantsSound_resetBlocks (s : State) (phase : ResetPhase) :
    (s.resetBlocks phase).GrantsSound := by
  have hl := s.grant_resetBlocks phase
  refine (State.grantsSound_iff _).2 ⟨fun l st hg => ?_, fun st ha => ?_, fun l hp => ?_⟩
  · rw [(hl l).1] at hg
    cases hg
  · rw [State.station_resetBlocks] at ha
    cases ha
  · rw [(hl l).2.1] at hp
    cases hp

/-- Every block at its reset values meets the invariants whatever was before. -/
theorem State.keeps_resetBlocks (s : State) {phase : ResetPhase} (h : phase ≠ .running) :
    s.Keeps (s.resetBlocks phase) := by
  have hstation := s.station_resetBlocks phase
  have hof := s.laneOf_resetBlocks phase
  have hplant : s.KeepsPlant (s.resetBlocks phase) := by
    refine ⟨fun _ => ?_, fun _ l => ?_, fun _ => ⟨rfl, fun st => ?_, (by rintro _ ⟨⟩), fun l => ?_⟩,
      fun _ _ l => ?_, fun _ _ => ⟨s.grantsSound_resetBlocks phase, fun st => ?_⟩⟩
    · rw [State.fitSound_iff]
      rintro st c (⟨b, hb, -⟩ | ⟨b, hb, -⟩) <;> rw [hstation] at hb <;> cases hb
    · obtain ⟨raw, hl⟩ := s.lane_resetBlocks phase l
      simp only [hl, hof, Lane.atReset]
      exact order_atReset l
    · rw [hof]
      rfl
    · obtain ⟨raw, hl⟩ := s.lane_resetBlocks phase l
      rw [hl]
      fin_cases l
      · exact .inr rfl
      · rfl
      · rfl
      · rfl
    · obtain ⟨raw, hl⟩ := s.lane_resetBlocks phase l
      rw [State.queue, hl]
      exact ⟨fun _ => ⟨rfl, rfl⟩, fun hp => (by cases hp)⟩
    · rw [hstation]
      decide
  exact ⟨hplant, fun _ _ _ h => (by cases h),
    fun _ => ⟨⟨fun h => (by cases h), fun hr => absurd hr h⟩, fun _ => rfl⟩⟩

theorem State.keeps_beginReset (s : State) : s.Keeps s.beginReset :=
  s.keeps_resetBlocks ResetPhase.noConfusion


/-- The reset interval over, before an active ESTOP input is taken. -/
def State.resetOver (s : State) : State :=
  { s.readInputs with resetPhase := .running, gateLeft := Config.gateMs }

theorem State.lane_resetOver (s : State) (l : LaneNo) : s.resetOver.lane l =
    { s.lane l with eyes := (s.lane l).eyes.map fun e => Eye.settled e.raw } :=
  Quad.get_map _ _ l

theorem State.keepsPlant_resetOver (s : State) : s.KeepsPlant s.resetOver := by
  have hlanes : s.Keeps s.readInputs := by
    refine State.keeps_of_bearing ?_ fun _ l => ?_
    · rfl
    · have hlane := s.lane_resetOver l
      change s.readInputs.lane l = _ at hlane
      rw [hlane]
      exact ⟨fun _ => id, fun _ _ => id⟩
  exact hlanes.toKeepsPlant.trans ⟨id, id, id, fun _ => id, fun _ => id⟩

theorem State.keeps_endReset (s : State) : s.Keeps s.endReset := by
  unfold State.endReset
  split
  · next ms hphase =>
    have hover := s.keepsPlant_resetOver
    change s.Keeps (if s.inputs.estop then s.resetOver.activateEstop else s.resetOver)
    split
    · exact
      { toKeepsPlant := hover.trans (State.keepsPlant_activateEstop _)
        stop := fun hp hf _ => State.stopSound_activateEstop (hover.feed hp hf).1
        hold := fun _ => State.holdSound_activateEstop _ }
    · next hinput =>
      refine ⟨hover, fun hp hf hs he => ?_, fun ⟨⟨hrun, _⟩, hnone⟩ => ?_⟩
      · obtain ⟨hl, hst⟩ := hs he
        exact ⟨fun l => by rw [State.lane_resetOver]; exact hl l, hst⟩
      · refine ⟨⟨hrun, fun _ hi => absurd hi hinput⟩, fun hr => absurd rfl hr⟩
  · exact .refl s

/-! ### ESTOP (R18) -/

/-- A change of what ESTOP reads alone. -/
theorem State.keeps_of_estop (s : State) (e : Bool) (hold : Option Nat) (input : Bool)
    (he : e = true → s.estop = true)
    (h : s.HoldSound → (hold.isSome = true → e = true ∧ input = false) ∧
      (s.resetPhase = .running → input = true → e = true) ∧ (s.resetPhase ≠ .running → hold = none)) :
    s.Keeps { s with estop := e, estopHold := hold, inputs := { s.inputs with estop := input } } where
  toKeepsPlant := ⟨id, id, id, fun _ => id, fun _ => id⟩
  stop _ _ hs hactive := hs (he hactive)
  hold hh := by
    obtain ⟨h1, h2, h3⟩ := h hh
    exact ⟨⟨h1, h2⟩, h3⟩

theorem State.keeps_whenRunning {s : State} {f : State → State} (h : s.isRunning = true → s.Keeps (f s)) :
    s.Keeps (s.whenRunning f) := by
  unfold State.whenRunning
  split
  · next hr => exact h hr
  · exact .refl s

/-- ESTOP_ACTIVATION, as a change of the state. -/
def State.inputActive (s : State) : State :=
  (s.setEstopInput true).whenRunning fun s =>
    if s.estop then { s with estopHold := none } else s.activateEstop

theorem State.keeps_inputActive (s : State) : s.Keeps s.inputActive := by
  unfold State.inputActive State.whenRunning
  beta_reduce
  split
  · split
    · next hr he =>
      exact s.keeps_of_estop s.estop none true id fun _ =>
        ⟨fun h => (by cases h), fun _ _ => he, fun _ => rfl⟩
    · exact
      { toKeepsPlant := KeepsPlant.trans (t := s.setEstopInput true)
          ⟨id, id, id, fun _ => id, fun _ => id⟩ (State.keepsPlant_activateEstop _)
        stop := fun _ hf _ => State.stopSound_activateEstop (s := s.setEstopInput true) hf.1
        hold := fun _ => State.holdSound_activateEstop _ }
  · next hr =>
    have hphase : s.resetPhase ≠ .running := fun h => hr (decide_eq_true h)
    exact s.keeps_of_estop s.estop s.estopHold true id fun h =>
      ⟨fun hh => (by rw [h.2 hphase] at hh; cases hh), fun h => absurd h hphase, h.2⟩

/-- ESTOP_INACTIVE_EDGE, as a change of the state. -/
def State.inputInactive (s : State) : State :=
  if s.inputs.estop then
    (s.setEstopInput false).whenRunning fun s =>
      if s.estop then { s with estopHold := some Config.estopHoldMs } else s
  else s

theorem State.keeps_inputInactive (s : State) : s.Keeps s.inputInactive := by
  unfold State.inputInactive State.whenRunning
  split
  · have hquiet : s.Keeps (s.setEstopInput false) := s.keeps_of_estop s.estop s.estopHold false id
      fun h => ⟨fun hh => ⟨(h.1.1 hh).1, rfl⟩, fun _ hi => (by cases hi), h.2⟩
    beta_reduce
    split
    · next hr =>
      split
      · next he =>
        exact s.keeps_of_estop s.estop (some Config.estopHoldMs) false id fun _ =>
          ⟨fun _ => ⟨he, rfl⟩, fun _ hi => (by cases hi), fun h => absurd (of_decide_eq_true hr) h⟩
      · exact hquiet
    · exact hquiet
  · exact .refl s

/-! ### The line link -/

theorem State.keeps_setReceiver (s : State) (r : Receiver) : s.Keeps (s.setReceiver r) :=
  State.keeps_of_lanes rfl rfl

theorem State.keeps_takeBroadcast (s : State) (code : Byte) (body : List Byte) :
    s.Keeps (s.takeBroadcast code body) := by
  unfold State.takeBroadcast
  split_ifs
  · exact s.keeps_haltEvery
  · exact s.keeps_beginReset
  · exact .refl s
  · exact .refl s

theorem State.keeps_handOn (s : State) (f : RxFrame) : s.Keeps (s.handOn f) := by
  unfold State.handOn
  split
  · exact s.keeps_takeBroadcast _ _
  · exact State.keeps_request (s.keeps_answerFrame _ _)

theorem State.keeps_takeData (s : State) (f : RxFrame) (d : Byte) : s.Keeps (s.takeData f d) := by
  unfold State.takeData
  split
  · split
    · exact (s.keeps_setReceiver _).trans (State.keeps_handOn _ f)
    · exact s.keeps_setReceiver _
  · exact s.keeps_setReceiver _

theorem State.keeps_hear (s : State) (bits : BitVec 11) : s.Keeps (s.hear bits) := by
  unfold State.hear
  split_ifs
  · exact s.keeps_setReceiver _
  · exact s.keeps_setReceiver _
  · split
    · exact .refl s
    · exact s.keeps_takeData _ _

theorem State.keeps_lineBreak (s : State) : s.Keeps s.lineBreak := by
  unfold State.lineBreak
  split
  · exact .refl s
  · exact State.keeps_of_lanes rfl rfl

theorem State.keeps_startReply (s : State) : s.Keeps s.startReply := by
  unfold State.startReply
  split
  · split
    · exact .refl s
    · exact State.keeps_of_lanes rfl rfl
  · exact .refl s

theorem State.keeps_endReply (s : State) : s.Keeps s.endReply := by
  unfold State.endReply
  split
  · next r _ =>
    have hshown : s.Keeps (s.clearShown r) := State.keeps_of_lanes rfl rfl
    split_ifs
    · exact hshown.trans (State.keeps_beginReset _)
    · exact hshown
    · exact .refl s
  · exact .refl s

/-! ### The commands -/

theorem State.keeps_pinReleased (s : State) : s.Keeps
    (if s.resetPhase = .held then { s with resetPhase := .interval Config.resetMs } else s) := by
  split
  · next h =>
    exact ⟨⟨id, id, id, fun _ => id, fun _ => id⟩, fun _ _ => id,
      fun hh => ⟨⟨hh.1.1, fun hr => (by cases hr)⟩, fun _ => hh.2 (by rw [h]; exact ResetPhase.noConfusion)⟩⟩
  · exact .refl s

theorem State.keeps_eyeRawChange (s : State) (l : LaneNo) (k : EyeNo) (covered : Bool) : s.Keeps
    (if covered = (s.eye l k).raw then s
      else if s.isRunning then s.rawChange l k covered
      else s.setEye l k (.settled covered)) := by
  split_ifs
  · exact .refl s
  · exact s.keeps_rawChange l k covered
  · exact s.keeps_setEye l k _

/-- What a command makes keeps what `State.Keeps` says. -/
theorem exec_keeps (c : Instr) (s : State) : ∃ t, exec c s = .next t ∧ s.Keeps t := by
  have hreq : ∀ code i, s.Keeps (s.request code (answer i)) := fun _ i =>
    State.keeps_request (s.keeps_answer i)
  cases c with
  | resetPin => exact ⟨_, rfl, s.keeps_resetBlocks ResetPhase.noConfusion⟩
  | resetPinRelease => exact ⟨_, rfl, s.keeps_pinReleased⟩
  | resetEnd => exact ⟨_, rfl, s.keeps_endReset⟩
  | encPulse => exact ⟨_, rfl, State.keeps_whenRunning fun _ => s.keeps_pulse⟩
  | travelAdvance => exact ⟨_, rfl, State.keeps_whenRunning fun _ => s.keeps_advance⟩
  | gateEnd => exact ⟨_, rfl, State.keeps_whenRunning fun _ => s.keeps_gateOver⟩
  | eyeRawChange l k covered => exact ⟨_, rfl, s.keeps_eyeRawChange l k covered⟩
  | edgeAccepted l k => exact ⟨_, rfl, State.keeps_whenRunning fun _ => s.keeps_acceptIfDue l k⟩
  | deadlinePass tag =>
    refine ⟨_, rfl, State.keeps_whenRunning fun _ => ?_⟩
    split
    · exact s.keeps_expireIfDue _ _
    · exact .refl s
  | runHoldExpiry st => exact ⟨_, rfl, State.keeps_whenRunning fun _ => s.keeps_testHold st⟩
  | release l => exact ⟨_, rfl, State.keeps_whenRunning fun _ => s.keeps_testRelease l⟩
  | pedalEdge st => exact ⟨_, rfl, State.keeps_whenRunning fun _ => s.keeps_pedal st⟩
  | openTimeExpiry st => exact ⟨_, rfl, State.keeps_whenRunning fun _ => s.keeps_openTimeOver st⟩
  | dwellExpiry st => exact ⟨_, rfl, State.keeps_whenRunning fun _ => s.keeps_dwellOver st⟩
  | returnTimeExpiry st =>
    exact ⟨_, rfl, State.keeps_whenRunning fun _ => s.keeps_returnTimeOver st⟩
  | foldStrobeEnd l => exact ⟨_, rfl, State.keeps_whenRunning fun _ => s.keeps_modFolder l _⟩
  | foldGapEnd l => exact ⟨_, rfl, State.keeps_whenRunning fun _ => s.keeps_modFolder l _⟩
  | clearEdge l => exact ⟨_, rfl, State.keeps_whenRunning fun _ => s.keeps_clearStack l⟩
  | stackerTimeout l => exact ⟨_, rfl, State.keeps_whenRunning fun _ => s.keeps_stackerTimedOut l⟩
  | scorchTimerExpiry => exact ⟨_, rfl, State.keeps_whenRunning fun _ => s.keeps_scorchOver⟩
  | estopActivation => exact ⟨_, rfl, s.keeps_inputActive⟩
  | estopInactiveEdge => exact ⟨_, rfl, s.keeps_inputInactive⟩
  | estopDeactivation =>
    refine ⟨_, rfl, State.keeps_whenRunning fun _ => ?_⟩
    split
    · next h => exact State.keeps_deactivateEstop h
    · exact .refl s
  | linkCharacter bits =>
    refine ⟨_, rfl, ?_⟩
    split
    · exact s.keeps_hear bits
    · exact .refl s
  | linkBreak => exact ⟨_, rfl, State.keeps_whenRunning fun _ => s.keeps_lineBreak⟩
  | frameGapTimeout => exact ⟨_, rfl, State.keeps_whenRunning fun _ => s.keeps_setReceiver _⟩
  | replyStart => exact ⟨_, rfl, State.keeps_whenRunning fun _ => s.keeps_startReply⟩
  | replyEnd => exact ⟨_, rfl, State.keeps_whenRunning fun _ => s.keeps_endReply⟩
  | lineRestedHigh =>
    exact ⟨_, rfl, State.keeps_whenRunning fun _ => State.keeps_of_lanes rfl rfl⟩
  | poll => exact ⟨_, rfl, hreq _ .poll⟩
  | reportFetch max => exact ⟨_, rfl, hreq _ (.reportFetch max)⟩
  | sheetsRead lane start => exact ⟨_, rfl, hreq _ (.sheetsRead lane start)⟩
  | stationRead station => exact ⟨_, rfl, hreq _ (.stationRead station)⟩
  | laneRead lane => exact ⟨_, rfl, hreq _ (.laneRead lane)⟩
  | alarmRead => exact ⟨_, rfl, hreq _ .alarmRead⟩
  | classSet o => exact ⟨_, rfl, hreq _ (.classSet o)⟩
  | stationSet o => exact ⟨_, rfl, hreq _ (.stationSet o)⟩
  | geometrySet o => exact ⟨_, rfl, hreq _ (.geometrySet o)⟩
  | lineSet o => exact ⟨_, rfl, hreq _ (.lineSet o)⟩
  | planSet o => exact ⟨_, rfl, hreq _ (.planSet o)⟩
  | alarmSet kind mask level => exact ⟨_, rfl, hreq _ (.alarmSet kind mask level)⟩
  | batchLoad o => exact ⟨_, rfl, hreq _ (.batchLoad o)⟩
  | batchCancelNext station => exact ⟨_, rfl, hreq _ (.batchCancelNext station)⟩
  | batchCancelCurrent station => exact ⟨_, rfl, hreq _ (.batchCancelCurrent station)⟩
  | laneCmdResume lane => exact ⟨_, rfl, hreq _ (.laneCmdResume lane)⟩
  | laneCmdHalt lane => exact ⟨_, rfl, hreq _ (.laneCmdHalt lane)⟩
  | laneCmdPurge lane => exact ⟨_, rfl, hreq _ (.laneCmdPurge lane)⟩
  | laneCmdFlush lane => exact ⟨_, rfl, hreq _ (.laneCmdFlush lane)⟩
  | haltAll broadcast =>
    refine ⟨_, rfl, ?_⟩
    split
    · exact State.keeps_whenRunning fun _ => s.keeps_haltEvery
    · exact hreq _ (.haltAll broadcast)
  | alarmAck kind index => exact ⟨_, rfl, hreq _ (.alarmAck kind index)⟩
  | rejectMark tag => exact ⟨_, rfl, hreq _ (.rejectMark tag)⟩
  | unitReset broadcast =>
    refine ⟨_, rfl, ?_⟩
    split
    · exact State.keeps_whenRunning fun _ => s.keeps_beginReset
    · exact hreq _ (.unitReset broadcast)

/-! ### The clock -/

theorem State.keeps_passTimers (s : State) : s.Keeps s.passTimers := by
  have hstation : ∀ st, s.passTimers.station st = (s.station st).pass := fun st => Quad.get_map _ _ st
  have hlane : ∀ l, s.passTimers.lane l = (s.lane l).pass := fun l => Quad.get_map _ _ l
  have hqueue : ∀ l, s.passTimers.queue l = s.queue l := fun l => by
    rw [State.queue, hlane]
    rfl
  have hof : ∀ st, s.passTimers.laneOf st = s.laneOf st := fun _ => rfl
  refine ⟨⟨fun h => ?_, fun h => ?_, fun h => ?_, fun _ h => ?_, fun _ h => ⟨?_, fun st => ?_⟩⟩,
    fun _ _ h he => ⟨fun l => ?_, fun st => ?_⟩, fun h => ⟨⟨fun hh => ?_, h.1.2⟩, fun hr => ?_⟩⟩
  · rw [State.fitSound_iff] at h ⊢
    intro st c hc
    rw [hstation] at hc
    exact h st c hc
  · intro l
    simp only [hlane, hof]
    exact h l
  · refine ⟨h.1, h.2.1, h.2.2.1, fun l => ?_⟩
    rw [hlane]
    exact h.2.2.2 l
  · intro l
    simp only [hlane, hqueue]
    exact h l
  · have hg := h.1
    rw [State.grantsSound_iff] at hg ⊢
    simp only [hlane, hstation, hof]
    exact hg
  · have hs := h.2 st
    rw [hstation]
    simp only [Station.Sound, Station.pass, Option.isSome_map] at hs ⊢
    exact hs
  · rw [hlane]
    exact (h he).1 l
  · rw [hstation]
    exact (h he).2 st
  · exact h.1.1 (by simpa [State.passTimers] using hh)
  · simp [State.passTimers, h.2 hr]

theorem State.keeps_sampleInputs (s : State) : s.Keeps s.sampleInputs :=
  State.keeps_of_lanes rfl rfl

theorem State.keeps_passMs (s : State) : s.Keeps s.passMs := by
  unfold State.passMs
  split
  · exact s.keeps_passTimers.trans (State.keeps_sampleInputs _)
  · exact s.keeps_sampleInputs
  · next ms h =>
    refine State.Keeps.trans (t := { s with resetPhase := .interval (ms - 1) }) ?_
      (State.keeps_sampleInputs _)
    exact ⟨⟨id, id, id, fun _ => id, fun _ => id⟩, fun _ _ => id,
      fun hh => ⟨⟨hh.1.1, fun hr => (by cases hr)⟩,
        fun _ => hh.2 (by rw [h]; exact ResetPhase.noConfusion)⟩⟩

theorem step_keeps {s t : State} (h : step s = .next t) : s.Keeps t := by
  unfold step at h
  split at h
  · next c rest _ =>
    obtain ⟨u, hu, hk⟩ := exec_keeps c { s with pending := rest }
    cases hu.symm.trans h
    exact (State.keeps_of_lanes rfl rfl : s.Keeps { s with pending := rest }).trans hk
  · have hdraw := s.keeps_draw s.dueRows.length
    unfold idleStep at h
    split at h
    next i s' hd =>
    rw [hd] at hdraw
    split at h
    · next row _ =>
      obtain ⟨u, hu, hk⟩ := exec_keeps row s'
      cases hu.symm.trans h
      exact hdraw.trans hk
    · cases h
      exact s.keeps_passMs

/-- Settles O56: every command and every millisecond keeps what `State.Keeps` says, of which the
statement's clauses are the parts; a reset keeps no hold, so the hold's clause stands in a reset too. -/
theorem everyStepKeepsPlansGrantsAndStations : Obligations.EveryStepKeepsPlansGrantsAndStations := by
  intro s t h
  have hk := step_keeps h
  refine ⟨fun hp hg hs hstop _ => ?_, hk.fit, hk.orders, hk.closed,
    fun hr he => (hk.hold (State.holdSound_of_reset hr he)).1⟩
  obtain ⟨hg', hs'⟩ := hk.feed hp ⟨hg, hs⟩
  exact ⟨hk.plan hp, hg', hs', hk.stop hp ⟨hg, hs⟩ hstop⟩

end Sys2Proof.Machine
end

section
/-!
PROOFS. Statement O53: the emergency stop, block by block.
-/

namespace Sys2Proof.Machine

/-! ### What an occurrence changes -/

theorem State.frame_leaveOpen (s : State) (l : LaneNo) (after : LaneState) :
    ∃ x y, s.leaveOpen l after = { s with lanes := x, stations := y } := by
  unfold State.leaveOpen
  (repeat' split) <;> exact ⟨_, _, rfl⟩

theorem State.frame_haltEvery (s : State) :
    ∃ x y, s.haltEvery = { s with lanes := x, stations := y } := by
  refine forEach_keeps (P := fun t => ∃ x y, t = { s with lanes := x, stations := y })
    (fun l t ⟨x, y, ht⟩ => ?_) allFour s ⟨_, _, rfl⟩
  obtain ⟨x', y', ht'⟩ := t.frame_leaveOpen l .halted
  rw [State.haltLane, ht', ht]
  exact ⟨_, _, rfl⟩

theorem Station.disarm_of_not_armed {x : Station} (h : x.state ≠ .armed) : x.disarm = x := if_neg h

theorem Station.disarm_disarm (x : Station) : x.disarm.disarm = x.disarm := by
  exact Station.disarm_of_not_armed x.disarm_not_armed

/-- A lane that leaves OPEN disarms the station with its grant. -/
theorem State.station_leaveOpen (s : State) (l : LaneNo) (after : LaneState) (st : StationNo) :
    (s.leaveOpen l after).station st =
      if (s.lane l).state = .opened ∧ (s.lane l).grant = some st then (s.station st).disarm
      else s.station st := by
  by_cases h : (s.lane l).state = .opened
  · rw [State.leaveOpen_eq h]
    change (s.disarmHolder l).station st = _
    unfold State.disarmHolder
    split
    · next u hu =>
      rw [State.modStation_eq, State.station_setStation, hu]
      by_cases e : st = u
      · subst e
        simp [h]
      · simp [e, Ne.symm e]
    · next hn => simp [hn]
  · rw [State.leaveOpen_of_shut h, if_neg fun g => h g.1]

/-- Halting every lane disarms every ARMED station, since each holds its OPEN lane's grant. -/
theorem State.station_haltEvery {s : State} (hg : s.GrantsSound) (st : StationNo) :
    s.haltEvery.station st = (s.station st).disarm := by
  have hheld : (s.station st).state = .armed → (s.lane (s.laneOf st)).state = .opened ∧
      (s.lane (s.laneOf st)).grant = some st := fun ha => by
    have hh := ((State.grantsSound_iff s).1 hg).2.1 st ha
    exact ⟨(hg.1 _ _ hh).1, hh⟩
  have hall := forEach_keeps (run := fun l t => State.haltLane t l) (P := fun t : State =>
      (t.station st = s.station st ∨ t.station st = (s.station st).disarm) ∧
      ((t.station st).state = .armed → (t.lane (s.laneOf st)).state = .opened ∧
        (t.lane (s.laneOf st)).grant = some st))
    (fun l t ⟨hst, hl⟩ => by
      unfold State.haltLane
      rw [State.station_leaveOpen]
      split
      · refine ⟨.inr ?_, fun ha => absurd ha (Station.disarm_not_armed _)⟩
        rcases hst with e | e <;> rw [e]
        exact Station.disarm_disarm _
      · next hn =>
        refine ⟨hst, fun ha => ?_⟩
        rw [State.lane_leaveOpen, if_neg]
        · exact hl ha
        · rintro ⟨rfl, ho⟩
          exact hn (hl ha)) allFour s ⟨.inl rfl, hheld⟩
  have hfree : (s.haltEvery.station st).state ≠ .armed := fun ha =>
    s.haltEvery_not_opened _ (hall.2 ha).1
  rcases hall.1 with e | e
  · change s.haltEvery.station st = _ at e
    rw [e] at hfree ⊢
    exact (Station.disarm_of_not_armed hfree).symm
  · exact e

/-- An occurrence changes lanes, stations, the alarm unit and the line outputs alone. -/
theorem State.frame_occur_estop (s : State) : ∃ lanes stations alarms lineHold rollLift attn,
    s.occur .estop causeActivated = { s with
      lanes := lanes, stations := stations, alarms := alarms, lineHold := lineHold,
      rollLift := rollLift, attn := attn } := by
  rw [State.occur_eq, State.haltFor_estop]
  obtain ⟨x, y, h⟩ := (s.latched .estop causeActivated).frame_haltEvery
  rw [h, State.latched_eq]
  exact ⟨_, _, _, _, _, _, rfl⟩

theorem State.alarms_occur_estop (s : State) : (s.occur .estop causeActivated).alarms =
    { s.alarms with latches :=
        s.alarms.latches.set .estop ((s.alarms.latches.get .estop).occur causeActivated) }.applyRule := by
  obtain ⟨x, y, h⟩ := (s.latched .estop causeActivated).frame_haltEvery
  rw [State.occur_eq, State.haltFor_estop, h]
  rfl

/-! ### The activation, block by block -/

theorem State.station_estopOccurred {s : State} (hg : s.GrantsSound) (st : StationNo) :
    s.estopOccurred.station st = (s.station st).disarm := by
  unfold State.estopOccurred
  rw [State.occur_eq, State.station_applyAlarmRule, State.haltFor_estop,
    State.station_haltEvery (s := s.estopFlags.latched .estop causeActivated), State.station_latched]
  · rfl
  · rw [State.latched_eq]
    exact hg

/-- What an ESTOP activation leaves as it is, with the reports of the batches it completes. -/
theorem State.frame_activateEstop {s : State} (hg : s.GrantsSound) : ∃ done,
    done.Perm (allFour.filter fun st => s.estopOccurred.stopCompletes st) ∧
      s.activateEstop.reports = s.estopOccurred.endReports done ∧
      s.activateEstop.alarms = (s.occur .estop causeActivated).alarms ∧
      s.activateEstop.scorch = s.scorch ∧ s.activateEstop.phase = s.phase := by
  obtain ⟨done, hp, ⟨x, a, n, hrest⟩, -, -⟩ :=
    State.stopStations_stopping (State.estopOccurred_free hg)
  have hscorch : s.estopOccurred.scorch = s.scorch ∧ s.estopOccurred.phase = s.phase := by
    obtain ⟨_, _, _, _, _, _, hocc⟩ := s.estopFlags.frame_occur_estop
    rw [State.estopOccurred, hocc]
    exact ⟨rfl, rfl⟩
  have halarms : s.estopOccurred.alarms = (s.occur .estop causeActivated).alarms := by
    rw [State.estopOccurred, State.alarms_occur_estop, State.alarms_occur_estop]
    rfl
  have hmap : ∀ t : State, (t.mapLanes Lane.stopped).reports = t.reports ∧
      (t.mapLanes Lane.stopped).alarms = t.alarms ∧ (t.mapLanes Lane.stopped).scorch = t.scorch ∧
      (t.mapLanes Lane.stopped).phase = t.phase := fun _ => ⟨rfl, rfl, rfl, rfl⟩
  obtain ⟨hr, ha, hs, hph⟩ := hmap s.estopOccurred.stopStations
  rw [State.activateEstop_eq, hr, ha, hs, hph, hrest, ← hscorch.1, ← hscorch.2, ← halarms]
  exact ⟨done, hp, rfl, rfl, rfl, rfl⟩

/-! ### The reports of completed batches -/

theorem Station.current_disarm (x : Station) : x.disarm.current = x.current := by
  unfold Station.disarm
  split <;> rfl

theorem Station.disarm_of_inCycle {x : Station} (h : x.state.inCycle = true) : x.disarm = x :=
  Station.disarm_of_not_armed fun ha => by
    rw [ha] at h
    cases h

/-- The batch of a station in its clamp cycle that an ESTOP activation completes. -/
def Station.Ends (x : Station) (b : Batch) : Prop :=
  x.state.inCycle = true ∧ x.current = some b ∧ b.remaining = 0 ∧ x.outstanding = 0

theorem State.stopCompletes_iff (s : State) (st : StationNo) :
    s.stopCompletes st = true ↔ ∃ b, (s.station st).Ends b := by
  unfold State.stopCompletes Station.Ends
  cases h : (s.station st).current <;> simp [and_comm, and_assoc]

theorem Station.ends_disarm (x : Station) (b : Batch) : x.disarm.Ends b ↔ x.Ends b := by
  unfold Station.Ends
  by_cases h : x.state = .armed
  · simp [Station.disarm, h, StationState.inCycle]
  · rw [Station.disarm_of_not_armed h]

/-- The stations of a list with the batches they hold. -/
def State.withBatches (s : State) (done : List StationNo) : List (StationNo × Batch) :=
  done.filterMap fun st => (s.station st).current.map fun b => (st, b)

theorem State.mem_withBatches (s : State) (done : List StationNo) (st : StationNo) (b : Batch) :
    (st, b) ∈ s.withBatches done ↔ st ∈ done ∧ (s.station st).current = some b := by
  unfold State.withBatches
  simp only [List.mem_filterMap, Option.map_eq_some_iff, Prod.mk.injEq]
  constructor
  · rintro ⟨_, h, _, hb, rfl, rfl⟩
    exact ⟨h, hb⟩
  · rintro ⟨h, hb⟩
    exact ⟨st, h, b, hb, rfl, rfl⟩

theorem State.withBatches_cons {s : State} {st : StationNo} {b : Batch}
    (h : (s.station st).current = some b) (done : List StationNo) :
    s.withBatches (st :: done) = (st, b) :: s.withBatches done := by
  simp [State.withBatches, h]

theorem State.map_fst_withBatches {s : State} {done : List StationNo}
    (h : ∀ st ∈ done, ∃ b, (s.station st).Ends b) : (s.withBatches done).map Prod.fst = done := by
  induction done with
  | nil => rfl
  | cons st rest ih =>
    obtain ⟨b, -, hb, -⟩ := h st (by simp)
    rw [State.withBatches_cons hb, List.map_cons, ih fun su hsu => h su (by simp [hsu])]

/-- BATCH_END of each batch of a list, offered one after another. -/
def State.offerEnds (s : State) (ended : List (StationNo × Batch)) : State :=
  ended.foldl (fun u e => u.offer (.batchEnd e.1 e.2.id e.2.pieces e.2.pieces false)) s

theorem State.reports_offerEnds (u : State) (ended : List (StationNo × Batch)) :
    (u.offerEnds ended).reports = ended.foldl
      (fun q e => q.offered (.batchEnd e.1 e.2.id e.2.pieces e.2.pieces false)) u.reports := by
  induction ended generalizing u with
  | nil => rfl
  | cons e rest ih =>
    have hoffer : (u.offer (.batchEnd e.1 e.2.id e.2.pieces e.2.pieces false)).reports =
        u.reports.offered (.batchEnd e.1 e.2.id e.2.pieces e.2.pieces false) := by
      rw [State.offer_eq]
    rw [List.foldl_cons, ← hoffer]
    exact ih _

theorem State.endReports_eq {s : State} {done : List StationNo}
    (h : ∀ st ∈ done, ∃ b, (s.station st).Ends b) :
    s.endReports done = (s.offerEnds (s.withBatches done)).reports := by
  rw [State.reports_offerEnds, State.endReports]
  generalize s.reports = q
  induction done generalizing q with
  | nil => rfl
  | cons st rest ih =>
    obtain ⟨b, -, hb, hrem, -⟩ := h st (by simp)
    have hreport : (s.station st).endReport st = .batchEnd st b.id b.pieces b.pieces false := by
      simp [Station.endReport, hb, hrem]
    rw [State.withBatches_cons hb, List.foldl_cons, List.foldl_cons, hreport]
    exact ih (fun su hsu => h su (by simp [hsu])) _

theorem State.reports_activateEstop {s : State} (hg : s.GrantsSound) :
    ∃ ended : List (StationNo × Batch), (ended.map Prod.fst).Nodup ∧
      (∀ st b, (st, b) ∈ ended ↔ (s.station st).Ends b) ∧
      s.activateEstop.reports = (s.offerEnds ended).reports := by
  obtain ⟨done, hp, hr, -⟩ := State.frame_activateEstop hg
  have hst := State.station_estopOccurred hg
  have hreports : s.estopOccurred.reports = s.reports := by
    obtain ⟨_, _, _, _, _, _, hocc⟩ := s.estopFlags.frame_occur_estop
    rw [State.estopOccurred, hocc]
    rfl
  have hmem : ∀ st, st ∈ done ↔ ∃ b, (s.station st).Ends b := by
    intro st
    rw [hp.mem_iff, List.mem_filter, State.stopCompletes_iff, hst]
    simp only [Station.ends_disarm]
    exact and_iff_right (mem_allFour st)
  refine ⟨s.withBatches done, ?_, fun st b => ?_, ?_⟩
  · rw [State.map_fst_withBatches fun st h => (hmem st).1 h, hp.nodup_iff]
    exact List.Nodup.filter _ (by decide)
  · rw [State.mem_withBatches, hmem]
    constructor
    · rintro ⟨⟨b', hb'⟩, hb⟩
      cases hb'.2.1.symm.trans hb
      exact hb'
    · exact fun h => ⟨⟨b, h⟩, h.2.1⟩
  · rw [hr, ← State.endReports_eq fun st h => (hmem st).1 h, State.endReports, State.endReports,
      hreports]
    simp only [Station.endReport, hst, Station.current_disarm]

/-! ### Stations and stacking units -/

theorem Station.stopped_disarm_of_rest {x : Station} (h : x.state.inCycle = false) :
    x.disarm.stopped =
      { x with
        state := if x.state = .armed then .loaded else x.state
        openOut := false, returnOut := false, timer := none } := by
  have hr : x.disarm.state.inCycle = false := by
    unfold Station.disarm
    split
    · rfl
    · exact h
  rw [Station.stopped, if_neg (by rw [hr]; exact Bool.false_ne_true)]
  unfold Station.disarm Station.atRest
  split <;> rfl

theorem Station.stopped_disarm_of_cycle {x : Station} (h : x.state.inCycle = true) :
    x.disarm.stopped = x.endCycle := by
  rw [Station.disarm_of_inCycle h, Station.stopped, if_pos h]

theorem Station.endCycle_of_left {x : Station} {b : Batch} (hb : x.current = some b)
    (h : 0 < b.remaining) : x.endCycle =
      { x with state := .waiting, openOut := false, returnOut := false, timer := none } := by
  simp [Station.endCycle, Station.atRest, hb, h]

theorem Station.endCycle_of_out {x : Station} {b : Batch} (hb : x.current = some b)
    (h : b.remaining = 0) (ho : 0 < x.outstanding) : x.endCycle =
      { x with state := .finishing, openOut := false, returnOut := false, timer := none } := by
  simp [Station.endCycle, Station.atRest, hb, h, ho]

theorem Station.endCycle_of_done {x : Station} {b : Batch} (hb : x.current = some b)
    (h : b.remaining = 0) (ho : x.outstanding = 0) : x.endCycle =
      { x with
        current := x.next, next := none
        state := if x.next = none then .noBatch else .waiting
        openOut := false, returnOut := false, timer := none } := by
  cases hn : x.next <;> simp [Station.endCycle, Station.atRest, Station.promote, hb, h, ho, hn]

theorem Stacker.suspend_of_still {x : Stacker} (h : x.state.isDischarging = false) :
    x.suspend = x := by
  unfold Stacker.suspend
  cases hx : x.state <;> simp_all [StackState.isDischarging]

theorem Stacker.suspend_of_discharging {x : Stacker} (h : x.state.isDischarging = true) :
    x.suspend = { x with
      discharge := false
      timer := match x.timer with
        | .running ms => .suspended ms
        | t => t } := by
  unfold Stacker.suspend
  cases hx : x.state with
  | discharging out pocket => rfl
  | empty => simp [hx, StackState.isDischarging] at h
  | building p => simp [hx, StackState.isDischarging] at h

theorem Stacker.resume_of_still {x : Stacker} (h : x.state.isDischarging = false) :
    x.resume = x := by
  unfold Stacker.resume
  cases hx : x.state <;> simp_all [StackState.isDischarging]

theorem Stacker.resume_of_discharging {x : Stacker} (h : x.state.isDischarging = true) :
    x.resume = { x with
      discharge := true
      timer := match x.timer with
        | .suspended ms => .running ms
        | t => t } := by
  unfold Stacker.resume
  cases hx : x.state with
  | discharging out pocket => rfl
  | empty => simp [hx, StackState.isDischarging] at h
  | building p => simp [hx, StackState.isDischarging] at h

/-! ### The rows -/

theorem exec_estopActivation {s : State} (hr : s.resetPhase = .running) :
    exec .estopActivation s = .next (if s.estop then
        { s with inputs := { s.inputs with estop := true }, estopHold := none }
      else (s.setEstopInput true).activateEstop) := by
  have hrun : (s.setEstopInput true).isRunning = true := decide_eq_true hr
  change Host.Outcome.next ((s.setEstopInput true).whenRunning _) = _
  rw [State.whenRunning, if_pos hrun]
  rfl

theorem exec_estopInactiveEdge {s : State} (hr : s.resetPhase = .running) :
    exec .estopInactiveEdge s = .next (if s.inputs.estop then
        if s.estop then
          { s with inputs := { s.inputs with estop := false }, estopHold := some Config.estopHoldMs }
        else { s with inputs := { s.inputs with estop := false } }
      else s) := by
  have hrun : (s.setEstopInput false).isRunning = true := decide_eq_true hr
  change Host.Outcome.next (if s.inputs.estop then (s.setEstopInput false).whenRunning _ else s) = _
  rw [State.whenRunning, if_pos hrun]
  rfl

theorem exec_estopDeactivation {s : State} (hr : s.resetPhase = .running)
    (hh : s.estopHold ≠ none) : exec .estopDeactivation s = .next s.deactivateEstop := by
  have hrun : s.isRunning = true := decide_eq_true hr
  change Host.Outcome.next (s.whenRunning _) = _
  rw [State.whenRunning, if_pos hrun, if_pos (Option.isSome_iff_ne_none.mpr hh)]

theorem State.lane_deactivateEstop (s : State) (l : LaneNo) : s.deactivateEstop.lane l =
    { s.lane l with stacker := (s.lane l).stacker.resume } := by
  rw [State.deactivateEstop_eq]
  exact Quad.get_map _ _ l

/-- Settles O53: the activation is one change of every lane and of every station, whose reports are
offered in some order. -/
theorem theEmergencyStopIsTakenAndReleased : Obligations.TheEmergencyStopIsTakenAndReleased := by
  intro s hr
  refine ⟨fun he => ?_, fun he hg _ => ?_, fun he => ?_, fun he hi => ?_, fun hh => ?_⟩
  · rw [exec_estopActivation hr, if_pos he]
  · have hlane := State.lane_activateEstop (s := s.setEstopInput true) hg
    have hstation : ∀ st, (s.setEstopInput true).activateEstop.station st =
        (s.station st).disarm.stopped := fun st => by
      rw [State.station_activateEstop (s := s.setEstopInput true) hg,
        State.station_estopOccurred (s := s.setEstopInput true) hg]
      rfl
    have hkept := (s.setEstopInput true).kept_activateEstop
    obtain ⟨done, -, -, halarms, hscorch, hphase⟩ :=
      State.frame_activateEstop (s := s.setEstopInput true) hg
    obtain ⟨ended, hn, hmem, hreports⟩ :=
      State.reports_activateEstop (s := s.setEstopInput true) hg
    rw [exec_estopActivation hr, if_neg (by simp [he])]
    generalize (s.setEstopInput true).activateEstop = t at *
    replace hmem : ∀ st b, (st, b) ∈ ended ↔ (s.station st).Ends b := hmem
    simp only [State.kept, Kept.mk.injEq] at hkept
    obtain ⟨htravel, -, -, hspeed, -, -, -, -, he', hh', hi', hlink, -⟩ := hkept
    refine ⟨t, rfl, he', hh', hi', ?_, fun l => ?_, fun st => ?_, fun hnone => ?_,
      ⟨ended, hn, hmem, ?_⟩, hscorch, hphase, htravel, hspeed, hlink⟩
    · rw [halarms, State.alarms_occur_estop]
      exact (State.alarms_occur_estop s).symm
    · have hl : t.lane l = (if (s.lane l).state = .opened then
          { s.lane l with state := .halted, grant := none, releasePoint := none }
        else s.lane l).stopped := by
        rw [hlane, State.lane_haltEvery]
        rfl
      rw [State.queue, State.queue, hl]
      generalize s.lane l = ln at *
      split
      · exact ⟨rfl, fun _ => ⟨rfl, rfl⟩, rfl, rfl, rfl, rfl, rfl,
          Stacker.suspend_of_still, Stacker.suspend_of_discharging⟩
      · next hs => exact ⟨rfl, fun ho => absurd ho hs, rfl, rfl, rfl, rfl, rfl,
          Stacker.suspend_of_still, Stacker.suspend_of_discharging⟩
    · rw [hstation]
      refine ⟨fun b hc hb => ?_, Station.stopped_disarm_of_rest⟩
      rw [Station.stopped_disarm_of_cycle hc]
      exact ⟨Station.endCycle_of_left hb, Station.endCycle_of_out hb, Station.endCycle_of_done hb⟩
    · have hended : ended = [] := List.eq_nil_iff_forall_not_mem.mpr fun ⟨st, b⟩ h => by
        obtain ⟨hc, hb, hrem, hout⟩ := (hmem st b).1 h
        rcases hnone st b hc hb with h | h <;> omega
      rw [hreports, hended]
      rfl
    · rw [hreports, State.reports_offerEnds]
      exact (State.reports_offerEnds s ended).symm
  · rw [exec_estopInactiveEdge hr]
    split
    · rw [if_neg (by simp [he])]
    · next hi =>
      have : s.inputs.estop = false := by simpa using hi
      rw [← this]
  · rw [exec_estopInactiveEdge hr, if_pos hi, if_pos he]
    rfl
  · refine ⟨_, exec_estopDeactivation hr hh, ?_, fun l => ?_⟩
    · rw [State.deactivateEstop_eq]
    · rw [State.lane_deactivateEstop]
      have hwith {x y : Stacker} (h : x = y) :
          ({ s.lane l with stacker := x } : Lane) = { s.lane l with stacker := y } := by rw [h]
      exact ⟨fun h => hwith (Stacker.resume_of_still h),
        fun h => hwith (Stacker.resume_of_discharging h)⟩

end Sys2Proof.Machine
end

section
/-!
PROOFS. The eyes: no operation behind the eye conditioner writes one (section 1.4).
-/

namespace Sys2Proof.Machine

/-- Every eye of every lane. -/
def State.eyeBanks (s : State) : Quad (Quad Eye) := s.lanes.map Lane.eyes

theorem State.eye_of_eyeBanks {s t : State} (h : t.eyeBanks = s.eyeBanks) (l : LaneNo) (k : EyeNo) :
    t.eye l k = s.eye l k := by
  have hl := congrArg (fun q => (Quad.get q l).get k) h
  simpa only [State.eyeBanks, Quad.get_map, State.eye, State.lane] using hl

/-- What no arbiter writes includes the eyes. -/
theorem State.eyeBanks_of_steady {s t : State} (h : t.steady = s.steady) :
    t.eyeBanks = s.eyeBanks := by
  refine Quad.ext_get fun l => ?_
  have hl : (t.lane l).eyes = (s.lane l).eyes := congrArg LaneSteady.eyes (State.steady_lane h l)
  simpa only [State.eyeBanks, Quad.get_map, State.lane] using hl

@[simp] theorem State.eyeBanks_draw (s : State) (n : Nat) : (s.draw n).2.eyeBanks = s.eyeBanks :=
  State.eyeBanks_of_steady (s.steady_draw n)

theorem State.eyeBanks_modLane (s : State) (l : LaneNo) (f : Lane → Lane)
    (h : (f (s.lane l)).eyes = (s.lane l).eyes) : (s.modLane l f).eyeBanks = s.eyeBanks := by
  simp only [State.eyeBanks, State.modLane, State.setLane, Quad.map_set_same _ _ _ _ h]

@[simp] theorem State.eyeBanks_modStation (s : State) (st : StationNo) (f : Station → Station) :
    (s.modStation st f).eyeBanks = s.eyeBanks := rfl

@[simp] theorem State.eyeBanks_modRecord (s : State) (l : LaneNo) (tag : Nat) (f : Record → Record) :
    (s.modRecord l tag f).eyeBanks = s.eyeBanks :=
  State.eyeBanks_of_steady (s.steady_modRecord l tag f)

@[simp] theorem State.eyeBanks_offer (s : State) (r : Report) :
    (s.offer r).eyeBanks = s.eyeBanks := by
  rw [State.offer_eq]
  rfl

/-! ### Occurrences -/

@[simp] theorem State.eyeBanks_leaveOpen (s : State) (l : LaneNo) (a : LaneState) :
    (s.leaveOpen l a).eyeBanks = s.eyeBanks := by
  unfold State.leaveOpen
  (repeat' split) <;> simp [State.eyeBanks_modLane]

@[simp] theorem State.eyeBanks_haltFor (s : State) (src : Source) :
    (s.haltFor src).eyeBanks = s.eyeBanks := by
  have hevery : s.haltEvery.eyeBanks = s.eyeBanks :=
    forEach_const State.eyeBanks (fun l t => t.eyeBanks_leaveOpen l .halted) _ _
  unfold State.haltFor
  split <;> simp [hevery, State.haltLane]

@[simp] theorem State.eyeBanks_occur (s : State) (src : Source) (c : Nat) :
    (s.occur src c).eyeBanks = s.eyeBanks := by
  rw [State.occur_eq]
  change ((s.latched src c).haltFor src).eyeBanks = _
  rw [State.eyeBanks_haltFor, State.latched_eq]
  rfl

/-! ### Arbiters and stations -/

@[simp] theorem State.eyeBanks_work (s : State) (l : LaneNo) : (s.work l).eyeBanks = s.eyeBanks :=
  State.eyeBanks_of_steady (s.steady_work l)

@[simp] theorem State.eyeBanks_workIf (s : State) (l : LaneNo) (y : Bool) :
    (s.workIf l y).eyeBanks = s.eyeBanks :=
  State.eyeBanks_of_steady (s.steady_workIf l y)

@[simp] theorem State.eyeBanks_giveBack (s : State) (st : StationNo) :
    (s.giveBack st).eyeBanks = s.eyeBanks :=
  State.eyeBanks_of_steady (s.steady_giveBack st)

@[simp] theorem State.eyeBanks_enterWaiting (s : State) (st : StationNo) :
    (s.enterWaiting st).eyeBanks = s.eyeBanks :=
  State.eyeBanks_of_steady (s.steady_enterWaiting st)

@[simp] theorem State.eyeBanks_completeBatch (s : State) (st : StationNo) (c : Bool) :
    (s.completeBatch st c).eyeBanks = s.eyeBanks := by
  unfold State.completeBatch
  split <;> simp

@[simp] theorem State.eyeBanks_noticeOf (s : State) (r : Record) (d : Departure) :
    (s.noticeOf r d).eyeBanks = s.eyeBanks := by
  unfold State.noticeOf State.notice
  (repeat' split) <;> simp

/-! ### Fold interfaces and stacking units -/

@[simp] theorem State.eyeBanks_modFolder (s : State) (l : LaneNo) (f : Folder → Folder) :
    (s.modFolder l f).eyeBanks = s.eyeBanks :=
  s.eyeBanks_modLane l _ rfl

@[simp] theorem State.eyeBanks_foldArrival (s : State) (l : LaneNo) (c : FoldCommand) :
    (s.foldArrival l c).eyeBanks = s.eyeBanks := by
  unfold State.foldArrival
  split <;> simp

@[simp] theorem State.eyeBanks_modStacker (s : State) (l : LaneNo) (f : Stacker → Stacker) :
    (s.modStacker l f).eyeBanks = s.eyeBanks :=
  s.eyeBanks_modLane l _ rfl

@[simp] theorem State.eyeBanks_beginDischarge (s : State) (l : LaneNo) (r : StackReason)
    (p : Option PocketPiece) : (s.beginDischarge l r p).eyeBanks = s.eyeBanks := by
  unfold State.beginDischarge
  split <;> simp

@[simp] theorem State.eyeBanks_putPile (s : State) (l : LaneNo) (p : Pile) :
    (s.putPile l p).eyeBanks = s.eyeBanks := by
  unfold State.putPile
  split <;> simp

@[simp] theorem State.eyeBanks_startPile (s : State) (l : LaneNo) (p : PocketPiece) :
    (s.startPile l p).eyeBanks = s.eyeBanks := by
  unfold State.startPile
  split <;> simp

@[simp] theorem State.eyeBanks_receivePiece (s : State) (l : LaneNo) (r : Record) :
    (s.receivePiece l r).2.eyeBanks = s.eyeBanks := by
  unfold State.receivePiece State.stackGood
  (repeat' split) <;> simp

/-! ### Plan changes -/

@[simp] theorem State.eyeBanks_trackTest (s : State) : s.trackTest.eyeBanks = s.eyeBanks := by
  unfold State.trackTest
  split
  · exact forEach_const State.eyeBanks (fun l t => by unfold State.askDischarge; split <;> simp) _ _
  · rfl

@[simp] theorem State.eyeBanks_completeChange (s : State) (p : PlanPair) :
    (s.completeChange p).eyeBanks = s.eyeBanks := by
  unfold State.completeChange
  rw [State.eyeBanks_offer, State.eyeBanks_of_steady (State.steady_resetOrders _)]
  exact forEach_const State.eyeBanks (fun l t => t.eyeBanks_modLane l _ rfl) _ _

@[simp] theorem State.eyeBanks_planTest (s : State) : s.planTest.eyeBanks = s.eyeBanks := by
  unfold State.planTest State.stackTest
  (repeat' split) <;> simp

/-! ### The tracker -/

@[simp] theorem State.eyeBanks_evalGuard (s : State) : s.evalGuard.eyeBanks = s.eyeBanks := rfl

@[simp] theorem State.eyeBanks_dropRecord (s : State) (l : LaneNo) (tag : Nat) :
    (s.dropRecord l tag).eyeBanks = s.eyeBanks :=
  State.eyeBanks_of_steady (s.steady_dropRecord l tag)

@[simp] theorem State.eyeBanks_loseRecord (s : State) (l : LaneNo) (r : Record) (c : LostCause) :
    (s.loseRecord l r c).eyeBanks = s.eyeBanks := by
  have hmerged : ∀ t : State, (t.markMerged l c).eyeBanks = t.eyeBanks := fun t => by
    unfold State.markMerged
    split <;> simp
  have hoccur : ∀ t : State, (t.lossOccurrence l r c).eyeBanks = t.eyeBanks := fun t => by
    unfold State.lossOccurrence
    (repeat' split) <;> simp
  simp [State.loseRecord, hmerged, hoccur]

@[simp] theorem State.eyeBanks_expireFor (s : State) (l : LaneNo) (tag : Nat)
    (due : Record → Option LostCause) : (s.expireFor l tag due).eyeBanks = s.eyeBanks := by
  unfold State.expireFor
  (repeat' split) <;> simp

@[simp] theorem State.eyeBanks_entryLeading (s : State) (l : LaneNo) (x : Pos) :
    (s.entryLeading l x).eyeBanks = s.eyeBanks := by
  have hjoin : ∀ r, (s.joinForeign l r).eyeBanks = s.eyeBanks := fun r =>
    State.eyeBanks_of_steady (s.steady_joinForeign l r)
  have hforeign : (s.foreignSheet l x).eyeBanks = s.eyeBanks := by
    unfold State.foreignSheet State.expireIfDue
    split <;> simp [hjoin]
  have hmatch : ∀ r, (s.matchEntry l r x).eyeBanks = s.eyeBanks := fun r => by
    simp [State.matchEntry, State.expireIfDue]
  unfold State.entryLeading
  (repeat' split) <;> simp [hforeign, hmatch]

@[simp] theorem State.eyeBanks_entryTrailing (s : State) (l : LaneNo) (x : Pos) :
    (s.entryTrailing l x).eyeBanks = s.eyeBanks := by
  unfold State.entryTrailing State.expireIfSetPast
  (repeat' split) <;> simp

theorem State.eyeBanks_eyeLeading (s : State) (l : LaneNo) (k : EyeNo) (eye : NextEye) (x : Pos)
    (hit : Record → State) (h : ∀ r, (hit r).eyeBanks = s.eyeBanks) :
    (s.eyeLeading l k eye x hit).eyeBanks = s.eyeBanks := by
  unfold State.eyeLeading
  (repeat' split) <;> simp [h]

@[simp] theorem State.eyeBanks_stackTrailing (s : State) (l : LaneNo) :
    (s.stackTrailing l).eyeBanks = s.eyeBanks := by
  unfold State.stackTrailing State.retire
  split <;> simp

/-- An edge delivered to the tracker leaves every eye as it is. -/
@[simp] theorem State.eyeBanks_takeEdge (s : State) (l : LaneNo) (k : EyeNo) (e : Bool) (x : Pos) :
    (s.takeEdge l k e x).eyeBanks = s.eyeBanks := by
  unfold State.takeEdge
  split
  case h_1 => simp
  case h_2 => simp
  case h_3 => exact s.eyeBanks_eyeLeading _ _ _ _ _ fun r => by simp [State.matchE1, State.expireIfSetPast]
  case h_4 => exact s.eyeBanks_eyeLeading _ _ _ _ _ fun r => by simp [State.matchE2, State.expireIfSetPast]
  case h_5 => exact s.eyeBanks_eyeLeading _ _ _ _ _ fun r => by simp [State.matchE3, State.expireIfSetPast]
  case h_6 => simp
  case h_7 => rfl

/-! ### Acceptance -/

theorem State.eye_setEye (s : State) (l m : LaneNo) (k j : EyeNo) (e : Eye) :
    (s.setEye l k e).eye m j = if m = l ∧ j = k then e else s.eye m j := by
  rw [State.eye, State.setEye, State.lane_modLane]
  by_cases hm : m = l
  · subst hm
    rw [if_pos rfl, Quad.get_set]
    by_cases hj : j = k
    · rw [if_pos hj, if_pos ⟨rfl, hj⟩]
    · rw [if_neg hj, if_neg fun h => hj h.2]
      rfl
  · rw [if_neg hm, if_neg fun h => hm h.1]
    rfl

theorem State.eye_setEye_self (s : State) (l : LaneNo) (k : EyeNo) (e : Eye) :
    (s.setEye l k e).eye l k = e := by
  rw [State.eye_setEye, if_pos ⟨rfl, rfl⟩]

theorem State.setEye_setEye (s : State) (l : LaneNo) (k : EyeNo) (e e' : Eye) :
    (s.setEye l k e).setEye l k e' = s.setEye l k e' := by
  unfold State.setEye
  rw [State.modLane_modLane]
  simp only [Quad.set_set]

theorem State.eyeBanks_deliver (s : State) (l : LaneNo) (k : EyeNo) (leading : Bool) (x : Pos) :
    (s.deliver l k leading x).eyeBanks = s.eyeBanks := by
  unfold State.deliver
  split
  · rfl
  · exact s.eyeBanks_takeEdge l k leading x

/-- An eye with its pending change accepted, before the edge is delivered (R13). -/
def State.acceptEye (s : State) (l : LaneNo) (k : EyeNo) : State :=
  s.setEye l k ⟨(s.eye l k).raw, (s.eye l k).raw, none⟩

/-- A pending change of an eye is due at a travel position once that is Fe past its start (R13). -/
def State.Due (s : State) (start : Pos) : Prop :=
  (s.travel - (start + BitVec.ofNat 32 s.params.fe)).msb = false

theorem State.atOrPast_iff_due (s : State) (start : Pos) :
    atOrPast s.travel (posAdd start s.params.fe) = true ↔ s.Due start := by
  simp [atOrPast, posAdd, State.Due]

theorem State.acceptIfDue_of_due {s : State} {l : LaneNo} {k : EyeNo} {x : Pos}
    (hx : (s.eye l k).pending = some x) (hd : s.Due x) :
    s.acceptIfDue l k = (s.acceptEye l k).deliver l k (s.eye l k).raw x := by
  unfold State.acceptIfDue
  rw [hx]
  exact if_pos (s.atOrPast_iff_due x |>.mpr hd)

theorem State.acceptIfDue_of_not_due {s : State} {l : LaneNo} {k : EyeNo}
    (h : ∀ x, (s.eye l k).pending = some x → ¬ s.Due x) : s.acceptIfDue l k = s := by
  unfold State.acceptIfDue
  split
  · next x hx => exact if_neg fun hd => h x hx (s.atOrPast_iff_due x |>.mp hd)
  · rfl

/-- The test of a change that is due leaves its eye accepted and every other eye as it is. -/
theorem State.eye_acceptIfDue_of_due {s : State} {l : LaneNo} {k : EyeNo} {x : Pos}
    (hx : (s.eye l k).pending = some x) (hd : s.Due x) (m : LaneNo) (j : EyeNo) :
    (s.acceptIfDue l k).eye m j =
      if m = l ∧ j = k then ⟨(s.eye l k).raw, (s.eye l k).raw, none⟩ else s.eye m j := by
  rw [State.acceptIfDue_of_due hx hd, State.eye_of_eyeBanks (State.eyeBanks_deliver _ _ _ _ _),
    State.acceptEye, State.eye_setEye]

/-! ### The rows -/

theorem exec_edgeAccepted {s : State} (hr : s.resetPhase = .running) (l : LaneNo) (k : EyeNo) :
    exec (.edgeAccepted l k) s = .next (s.acceptIfDue l k) :=
  congrArg Host.Outcome.next (if_pos (decide_eq_true hr))

theorem exec_eyeRawChange {s : State} (hr : s.resetPhase = .running) {l : LaneNo} {k : EyeNo}
    {covered : Bool} (hc : covered ≠ (s.eye l k).raw) :
    exec (.eyeRawChange l k covered) s = .next (s.rawChange l k covered) :=
  congrArg Host.Outcome.next ((if_neg hc).trans (if_pos (decide_eq_true hr)))

/-- With Fe = 0 a raw change is the start of a change that is due at once (R14). -/
theorem State.rawChange_of_fe_zero {s : State} {l : LaneNo} {k : EyeNo} {covered : Bool}
    (hc : covered ≠ (s.eye l k).accepted) (hfe : s.params.fe = 0) : s.rawChange l k covered =
      (s.setEye l k ⟨covered, (s.eye l k).accepted, some s.travel⟩).acceptIfDue l k := by
  have heye := s.eye_setEye_self l k ⟨covered, (s.eye l k).accepted, some s.travel⟩
  rw [State.acceptIfDue_of_due (x := s.travel) (by rw [heye]), State.acceptEye, heye,
    State.setEye_setEye]
  · exact (if_neg hc).trans (if_pos hfe)
  · change (s.travel - (s.travel + BitVec.ofNat 32 s.params.fe)).msb = false
    simp [hfe]

/-- Settles O36: the rows by the branches of the eye conditioner, and the eyes unchanged by the
delivery of an edge. -/
theorem eyesAreConditioned : Obligations.EyesAreConditioned := by
  intro l k s hr
  refine ⟨fun covered hc => ⟨fun ha => ?_, fun ha hfe => ?_, fun ha hfe => ?_⟩,
    fun x hx hd => ⟨fun hclosed => ?_, ?_⟩⟩
  · rw [exec_eyeRawChange hr hc, State.rawChange, if_pos ha, ha]
  · rw [exec_eyeRawChange hr hc, State.rawChange, if_neg ha, if_neg hfe]
  · rw [exec_eyeRawChange hr hc, State.rawChange_of_fe_zero ha hfe]
    exact (exec_edgeAccepted (s := s.setEye l k _) hr l k).symm
  · have hshut : ((s.acceptEye l k).lane l).state = .closed := by
      rw [State.acceptEye, State.setEye, State.lane_modLane, if_pos rfl]
      exact hclosed
    rw [exec_edgeAccepted hr, State.acceptIfDue_of_due hx hd, State.deliver, if_pos hshut]
    rfl
  · have heye := State.eye_acceptIfDue_of_due hx hd
    have hkept := s.kept_acceptIfDue l k
    simp only [State.kept, Kept.mk.injEq] at hkept
    obtain ⟨htravel, hres, hcount, hspeed, -, -, hparams, hclasses, hestop, -, -, hlink, -⟩ := hkept
    refine ⟨_, exec_edgeAccepted hr l k, ?_, fun m j h => ?_, htravel, hres, hcount, hspeed, hparams,
      hclasses, hestop, hlink⟩
    · rw [heye, if_pos ⟨rfl, rfl⟩]
    · rw [heye, if_neg]
      rintro ⟨rfl, rfl⟩
      rcases h with h | h <;> exact h rfl

end Sys2Proof.Machine
end

section
/-!
PROOFS. Statement O17: LINE_SET.
-/

namespace Sys2Proof.Machine

/-! ### The operands -/

theorem arbModeOperand_code {b : Byte} {m : ArbMode}
    (h : b.toNat = match m with
      | .fixed => 0
      | .rotating => 1) : arbModeOperand b = some m := by
  cases m
  · have hb : b = 0 := BitVec.eq_of_toNat_eq h
    rw [hb]
    rfl
  · have hb : b = 1 := BitVec.eq_of_toNat_eq h
    rw [hb]
    rfl

theorem arbModeOperand_none {b : Byte} (h : 2 ≤ b.toNat) : arbModeOperand b = none := by
  unfold arbModeOperand
  rw [if_neg (by rintro rfl; simp at h), if_neg (by rintro rfl; simp at h)]

theorem flagOperand_code {b : Byte} {x : Bool} (h : b.toNat = x.toNat) : flagOperand b = some x := by
  cases x
  · have hb : b = 0 := BitVec.eq_of_toNat_eq h
    rw [hb]
    rfl
  · have hb : b = 1 := BitVec.eq_of_toNat_eq h
    rw [hb]
    rfl

theorem flagOperand_none {b : Byte} (h : 2 ≤ b.toNat) : flagOperand b = none := by
  unfold flagOperand
  rw [if_neg (by rintro rfl; simp at h), if_neg (by rintro rfl; simp at h)]

theorem lineParamsOf_eq (o : LineOperands) (m : ArbMode) (att : Bool) : lineParamsOf o m att =
    { scale := max 1 (min o.scale.toNat 64), fe := min o.fe.toNat 50,
      vlo := min o.vlo.toNat 2040, vhi := min o.vhi.toNat 2040, vs := min o.vs.toNat 500,
      tsc := max 1 (min o.tsc.toNat 60), ts := max 1 (min o.ts.toNat 60),
      gb := min o.gb.toNat 5000, mode := m, attention := att } := by
  simp only [lineParamsOf, clampTo, Nat.zero_max]

theorem lineClamps_iff (o : LineOperands) : lineClamps o = false ↔
    (1 ≤ o.scale.toNat ∧ o.scale.toNat ≤ 64 ∧ o.fe.toNat ≤ 50 ∧ o.vlo.toNat ≤ 2040 ∧
      o.vhi.toNat ≤ 2040 ∧ o.vs.toNat ≤ 500 ∧ 1 ≤ o.tsc.toNat ∧ o.tsc.toNat ≤ 60 ∧
      1 ≤ o.ts.toNat ∧ o.ts.toNat ≤ 60 ∧ o.gb.toNat ≤ 5000) := by
  simp only [lineClamps, needsClamp, Bool.or_eq_false_iff, decide_eq_false_iff_not]
  omega

theorem lineResult_eq (o : LineOperands) : (if lineClamps o then Result.clamped else .ok) =
    if 1 ≤ o.scale.toNat ∧ o.scale.toNat ≤ 64 ∧ o.fe.toNat ≤ 50 ∧ o.vlo.toNat ≤ 2040 ∧
      o.vhi.toNat ≤ 2040 ∧ o.vs.toNat ≤ 500 ∧ 1 ≤ o.tsc.toNat ∧ o.tsc.toNat ≤ 60 ∧
      1 ≤ o.ts.toNat ∧ o.ts.toNat ≤ 60 ∧ o.gb.toNat ≤ 5000
    then .ok else .clamped := by
  have h := lineClamps_iff o
  by_cases hc : lineClamps o = false
  · rw [if_pos (h.1 hc), hc]
    rfl
  · rw [if_neg fun g => hc (h.2 g), Bool.eq_true_of_not_eq_false hc]
    rfl

/-! ### What is written before the eyes are tested -/

theorem State.records_of_queues {s t : State} (h : ∀ l, (t.lane l).queue = (s.lane l).queue) :
    t.records = s.records := by
  have hq : ∀ l, t.queue l = s.queue l := h
  simp only [State.records, hq]

/-- The order lists after a LINE_SET with a mode (R63). -/
def State.linedOrders (s : State) (p : LineParams) : State :=
  if p.mode = s.params.mode then s.putParams p else (s.putParams p).resetOrders

/-- A LINE_SET carried out but for the eyes. -/
def State.linePut (s : State) (p : LineParams) : State :=
  (if p.vs = s.params.vs then s.linedOrders p else (s.linedOrders p).evalGuard).refreshAttn

theorem State.writeLine_eq (s : State) (p : LineParams) : s.writeLine p =
    if p.fe = s.params.fe then s.linePut p
    else inFreeOrder (fun e s => s.acceptIfDue e.1 e.2) (s.linePut p).dueEyes (s.linePut p) := rfl

theorem State.lane_linedOrders (s : State) (p : LineParams) (l : LaneNo) : (s.linedOrders p).lane l =
    { s.lane l with order := if p.mode = s.params.mode then (s.lane l).order
        else allFour.filter fun st => s.laneOf st = l } := by
  unfold State.linedOrders
  split
  · rfl
  · rw [State.lane_resetOrders]
    rfl

theorem State.linedOrders_eq (s : State) (p : LineParams) :
    s.linedOrders p = { s.putParams p with lanes := (s.linedOrders p).lanes } := by
  unfold State.linedOrders
  split
  · rfl
  · rw [State.resetOrders_eq]

theorem State.records_linedOrders (s : State) (p : LineParams) :
    (s.linedOrders p).records = s.records :=
  State.records_of_queues fun l => by rw [State.lane_linedOrders]

theorem State.lane_linePut (s : State) (p : LineParams) (l : LaneNo) : (s.linePut p).lane l =
    { s.lane l with order := if p.mode = s.params.mode then (s.lane l).order
        else allFour.filter fun st => s.laneOf st = l } := by
  rw [← State.lane_linedOrders]
  unfold State.linePut
  split <;> rfl

/-- The scorch timer after an evaluation with a speed minimum and a time (R155). -/
def State.guardedBy (s : State) (p : LineParams) : GuardTimer :=
  if s.records.any Record.inZone = true ∧ s.speed < p.vs then
    match s.scorch with
    | .idle => .running (p.tsc * 1000)
    | x => x
  else .idle

theorem State.scorch_evalGuard_linedOrders (s : State) (p : LineParams) :
    (s.linedOrders p).evalGuard.scorch = s.guardedBy p := by
  have hguard : (s.linedOrders p).guardHolds = true ↔
      s.records.any Record.inZone = true ∧ s.speed < p.vs := by
    rw [State.guardHolds, State.zoneOccupied, State.records_linedOrders, s.linedOrders_eq p,
      Bool.and_eq_true, decide_eq_true_eq]
    rfl
  have hscorch : (s.linedOrders p).scorch = s.scorch := by
    rw [s.linedOrders_eq p]
    rfl
  have htsc : (s.linedOrders p).params.tsc = p.tsc := by
    rw [s.linedOrders_eq p]
    rfl
  refine if_congr hguard ?_ rfl
  rewrite [hscorch, htsc]
  rfl

theorem State.linePut_eq (s : State) (p : LineParams) : s.linePut p = { s with
    params := p, lanes := (s.linePut p).lanes
    residual := if p.scale = s.params.scale then s.residual else 0
    scorch := if p.vs = s.params.vs then s.scorch else s.guardedBy p
    attn := s.alarms.current.isSome || (p.attention && !s.reports.queue.isEmpty) } := by
  have hguard := s.scorch_evalGuard_linedOrders p
  have hput := s.linedOrders_eq p
  unfold State.linePut
  generalize s.linedOrders p = u at *
  split
  · rw [hput]
    rfl
  · rw [← hguard, hput]
    rfl

/-! ### The eyes tested with the new Fe (R16) -/

theorem State.eye_linePut (s : State) (p : LineParams) (l : LaneNo) (k : EyeNo) :
    (s.linePut p).eye l k = s.eye l k := by
  rw [State.eye, State.lane_linePut]
  rfl

theorem State.due_linePut (s : State) (p : LineParams) (x : Pos) :
    (s.linePut p).Due x ↔ (s.travel - (x + BitVec.ofNat 32 p.fe)).msb = false := by
  rw [State.Due, s.linePut_eq p]

theorem State.mem_dueEyes (s : State) (e : LaneNo × EyeNo) :
    e ∈ s.dueEyes ↔ ∃ x, (s.eye e.1 e.2).pending = some x ∧ s.Due x := by
  have hall : e ∈ allEyes := by
    obtain ⟨l, k⟩ := e
    fin_cases l <;> fin_cases k <;> decide
  rw [State.dueEyes, List.mem_filter, and_iff_right hall, State.changeDue]
  cases h : (s.eye e.1 e.2).pending with
  | none => simp
  | some x => simp [State.atOrPast_iff_due]

theorem State.nodup_dueEyes (s : State) : s.dueEyes.Nodup :=
  List.Nodup.filter _ (by decide)

/-- One eye alone is due. -/
theorem State.dueEyes_single {s : State} {e : LaneNo × EyeNo} (h : ∀ f, f ∈ s.dueEyes ↔ f = e) :
    s.dueEyes = [e] := by
  refine List.perm_singleton.1 ((List.perm_ext_iff_of_nodup s.nodup_dueEyes (by simp)).2 fun f => ?_)
  rw [h, List.mem_singleton]

/-- The pending changes that are due are accepted, each once. -/
theorem State.eye_acceptDue (u : State) (l : LaneNo) (k : EyeNo) :
    (inFreeOrder (fun e s => s.acceptIfDue e.1 e.2) u.dueEyes u).eye l k =
      if (l, k) ∈ u.dueEyes then ⟨(u.eye l k).raw, (u.eye l k).raw, none⟩ else u.eye l k := by
  have hends := inFreeOrder_each (run := fun (e : LaneNo × EyeNo) s => State.acceptIfDue s e.1 e.2)
    (P := fun left v => (∀ e, left e → e ∈ u.dueEyes) ∧ v.kept = u.kept ∧
      (∀ e, (left e ∨ e ∉ u.dueEyes) → v.eye e.1 e.2 = u.eye e.1 e.2) ∧
      ∀ e, (¬ left e ∧ e ∈ u.dueEyes) → v.eye e.1 e.2 =
        ⟨(u.eye e.1 e.2).raw, (u.eye e.1 e.2).raw, none⟩)
    (fun left v n ⟨hsub, hk, hw, ha⟩ => by
      have heye := State.eye_of_eyeBanks (v.eyeBanks_draw n)
      exact ⟨hsub, (v.kept_draw n).trans hk, fun e he => (heye _ _).trans (hw e he),
        fun e he => (heye _ _).trans (ha e he)⟩)
    (fun e left v ht ⟨hsub, hk, hw, ha⟩ => by
      obtain ⟨x, hx, hd⟩ := (u.mem_dueEyes e).1 (hsub e ht)
      have heye := hw e (.inl ht)
      have hdue : v.Due x := by
        rw [State.Due, show v.travel = u.travel from congrArg Kept.travel hk,
          show v.params = u.params from congrArg Kept.params hk]
        exact hd
      have hother : ∀ f : LaneNo × EyeNo, f ≠ e →
          (v.acceptIfDue e.1 e.2).eye f.1 f.2 = v.eye f.1 f.2 := fun f hf => by
        rw [State.eye_acceptIfDue_of_due (heye ▸ hx) hdue, if_neg fun h => hf (Prod.ext h.1 h.2)]
      refine ⟨fun f hf => hsub f hf.1, (v.kept_acceptIfDue e.1 e.2).trans hk, fun f hf => ?_,
        fun f hf => ?_⟩
      · have hfe : f ≠ e := by
          rintro rfl
          rcases hf with h | h
          · exact h.2 rfl
          · exact h (hsub _ ht)
        rw [hother f hfe]
        exact hw f (hf.imp_left And.left)
      · by_cases hfe : f = e
        · rw [hfe, State.eye_acceptIfDue_of_due (heye ▸ hx) hdue, if_pos ⟨rfl, rfl⟩, heye]
        · rw [hother f hfe]
          exact ha f ⟨fun h => hf.1 ⟨h, hfe⟩, hf.2⟩)
    u.dueEyes u u.nodup_dueEyes ⟨fun _ h => h, rfl, fun _ _ => rfl, fun e h => absurd h.2 h.1⟩
  obtain ⟨-, -, hw, ha⟩ := hends
  split
  · next h => exact ha (l, k) ⟨id, h⟩
  · next h => exact hw (l, k) (.inr h)

theorem State.mem_dueEyes_linePut (s : State) (p : LineParams) (e : LaneNo × EyeNo) :
    e ∈ (s.linePut p).dueEyes ↔ ∃ x, (s.eye e.1 e.2).pending = some x ∧
      (s.travel - (x + BitVec.ofNat 32 p.fe)).msb = false := by
  simp only [State.mem_dueEyes, State.eye_linePut, State.due_linePut]

theorem State.writeLine_of_none_due {s : State} {p : LineParams}
    (h : p.fe = s.params.fe ∨ ∀ l k x, (s.eye l k).pending = some x →
      (s.travel - (x + BitVec.ofNat 32 p.fe)).msb = true) : s.writeLine p = s.linePut p := by
  rw [State.writeLine_eq]
  rcases h with h | h
  · exact if_pos h
  · have hnone : (s.linePut p).dueEyes = [] := List.eq_nil_iff_forall_not_mem.mpr fun e he => by
      obtain ⟨x, hx, hd⟩ := (s.mem_dueEyes_linePut p e).1 he
      rw [h e.1 e.2 x hx] at hd
      cases hd
    rw [hnone]
    exact ite_self _

theorem State.writeLine_of_one_due {s : State} {p : LineParams} {l : LaneNo} {k : EyeNo} {x : Pos}
    (hfe : p.fe ≠ s.params.fe) (hx : (s.eye l k).pending = some x)
    (hd : (s.travel - (x + BitVec.ofNat 32 p.fe)).msb = false)
    (hother : ∀ m j y, (m ≠ l ∨ j ≠ k) → (s.eye m j).pending = some y →
      (s.travel - (y + BitVec.ofNat 32 p.fe)).msb = true) :
    s.writeLine p = (s.linePut p).acceptIfDue l k := by
  have hone : (s.linePut p).dueEyes = [(l, k)] := State.dueEyes_single fun e => by
    rw [State.mem_dueEyes_linePut]
    constructor
    · rintro ⟨y, hy, hyd⟩
      by_contra hne
      have hapart : e.1 ≠ l ∨ e.2 ≠ k := by
        by_contra h
        simp only [not_or, not_not] at h
        exact hne (Prod.ext h.1 h.2)
      rw [hother e.1 e.2 y hapart hy] at hyd
      cases hyd
    · rintro rfl
      exact ⟨x, hx, hd⟩
  rw [State.writeLine_eq, if_neg hfe, hone]
  exact runFreely_single (l, k) (s.linePut p) rfl

theorem State.kept_linePut (s : State) (p : LineParams) : (s.linePut p).kept = { s.kept with
    params := p, residual := if p.scale = s.params.scale then s.residual else 0 } := by
  rw [s.linePut_eq p]
  rfl

theorem State.kept_writeLine (s : State) (p : LineParams) :
    (s.writeLine p).kept = (s.linePut p).kept := by
  rw [State.writeLine_eq]
  split
  · rfl
  · exact inFreeOrder_const State.kept (by simp) (by simp) _ _

theorem State.eye_writeLine (s : State) (p : LineParams) (l : LaneNo) (k : EyeNo) :
    (s.writeLine p).eye l k = if p.fe ≠ s.params.fe ∧ (l, k) ∈ (s.linePut p).dueEyes then
      ⟨(s.eye l k).raw, (s.eye l k).raw, none⟩ else s.eye l k := by
  rw [State.writeLine_eq]
  by_cases hfe : p.fe = s.params.fe
  · rw [if_pos hfe, if_neg fun h => h.1 hfe, State.eye_linePut]
  · rw [if_neg hfe, State.eye_acceptDue, State.eye_linePut]
    simp only [ne_eq, hfe, not_false_eq_true, true_and]

/-! ### The request -/

theorem exec_lineSet {o : LineOperands} {s : State} (hr : s.Ready) :
    exec (.lineSet o) s = .next (State.respond codeLineSet (answerLineSet o s)) :=
  congrArg Host.Outcome.next (State.request_ready codeLineSet hr (answerLineSet o))

theorem answerLineSet_badCode {o : LineOperands} (s : State)
    (h : 2 ≤ o.mode.toNat ∨ 2 ≤ o.attention.toNat) : answerLineSet o s = refuse .badValue s := by
  unfold answerLineSet
  rcases h with h | h
  · rw [arbModeOperand_none h]
  · rw [flagOperand_none h]
    cases arbModeOperand o.mode <;> rfl

section
variable {o : LineOperands} {s : State} {m : ArbMode} {att : Bool}

theorem answerLineSet_codes (hm : arbModeOperand o.mode = some m)
    (ha : flagOperand o.attention = some att) : answerLineSet o s =
      if (lineParamsOf o m att).vhi < (lineParamsOf o m att).vlo then refuse .badValue s
      else if ((lineParamsOf o m att).scale ≠ s.params.scale ∨
          (lineParamsOf o m att).fe ≠ s.params.fe) ∧ s.laneActive then refuse .state s
      else carryOut (lineClamps o) [] (s.writeLine (lineParamsOf o m att)) := by
  rw [answerLineSet, hm, ha]

theorem State.laneActive_iff (s : State) : s.laneActive = true ↔
    ∃ l : LaneNo, (s.lane l).state = .opened ∨ (s.lane l).state = .draining := by
  simp only [State.laneActive, List.any_eq_true, Bool.or_eq_true, decide_eq_true_eq]
  exact exists_congr fun l => and_iff_right (mem_allFour l)

end

/-- Settles O17: the refusals by the branches of the request; a LINE_SET carried out by
`State.linePut`, of which the eyes that are due with the new Fe are accepted, each once. -/
theorem lineSetWritesTheLineParameters : Obligations.LineSetWritesTheLineParameters := by
  intro o s hready
  have hexec := exec_lineSet (o := o) hready
  refine ⟨fun h => ?_, fun m att p r hm hatt hp hr => ?_⟩
  · rw [hexec, answerLineSet_badCode s h]
    exact congrArg _ (State.respond_refuse s _ (by decide))
  · rw [answerLineSet_codes (arbModeOperand_code hm) (flagOperand_code hatt), lineParamsOf_eq, ← hp]
      at hexec
    have hmode : p.mode = m := by rw [hp]
    have hflag : p.attention = att := by rw [hp]
    refine ⟨fun hv => ?_, fun hv hchange hactive => ?_, fun hv hfree => ?_⟩
    · rw [hexec, if_pos hv]
      exact congrArg _ (State.respond_refuse s _ (by decide))
    · rw [hexec, if_neg (by omega), if_pos ⟨hchange, s.laneActive_iff.2 hactive⟩]
      exact congrArg _ (State.respond_refuse s _ (by decide))
    · have hdone : exec (.lineSet o) s = .next ((s.writeLine p).answered 0x13 r [] false) := by
        rw [hexec, if_neg (by omega), if_neg, State.respond_carryOut _ _ (by decide), lineResult_eq,
          ← hr]
        · rfl
        · rintro ⟨hchange, hactive⟩
          obtain ⟨l, hl⟩ := s.laneActive_iff.1 hactive
          rcases hfree with ⟨h1, h2⟩ | h
          · exact hchange.elim (· h1) (· h2)
          · exact hl.elim (h l).1 (h l).2
      rw [hdone]
      have hput := s.linePut_eq p
      have hrun : (s.linePut p).resetPhase = .running := by
        rw [hput]
        exact hready.1
      refine ⟨s.linePut p, hflag ▸ hput, fun l => ?_, fun h => ?_, fun hfe l k x hx hd hother => ?_,
        s.writeLine p, rfl, ?_⟩
      · rw [State.lane_linePut, hmode]
      · rw [State.writeLine_of_none_due h]
      · exact ⟨_, exec_edgeAccepted hrun l k, by
          rw [State.writeLine_of_one_due hfe hx hd hother]⟩
      · have hres := congrArg Kept.residual (s.kept_writeLine p)
        have hkept := (s.kept_writeLine p).trans (s.kept_linePut p)
        have heye := s.eye_writeLine p
        generalize s.writeLine p = t at *
        simp only [State.kept, Kept.mk.injEq] at hkept
        obtain ⟨htravel, -, hcount, hspeed, -, -, hparams, hclasses, hestop, -, hinputs, hlink, -⟩ :=
          hkept
        refine ⟨hparams, hres, htravel, hspeed, hclasses, hestop, hinputs, hlink, hcount,
          fun l k => ⟨fun x hfe hx hd => ?_, fun h => ?_⟩⟩
        · rw [heye, if_pos ⟨hfe, (s.mem_dueEyes_linePut p (l, k)).2 ⟨x, hx, hd⟩⟩]
        · rw [heye, if_neg]
          rintro ⟨hfe, hmem⟩
          obtain ⟨x, hx, hd⟩ := (s.mem_dueEyes_linePut p (l, k)).1 hmem
          rw [(h.resolve_left hfe) x hx] at hd
          cases hd

end Sys2Proof.Machine
end

section
/-!
PROOFS. Statement O35: the end of a speed gate.
-/

namespace Sys2Proof.Machine

/-! ### The gate closed -/

theorem State.occur_speedLow (s : State) (c : Nat) : s.occur .speedLow c = { s with
    alarms := (s.occur .speedLow c).alarms, attn := (s.occur .speedLow c).attn } := rfl

theorem State.occur_speedHigh (s : State) (c : Nat) : s.occur .speedHigh c = { s with
    alarms := (s.occur .speedHigh c).alarms, attn := (s.occur .speedHigh c).attn } := rfl

theorem State.compareSpeed_eq (s : State) (before : Nat) : s.compareSpeed before = { s with
    alarms := (s.compareSpeed before).alarms, attn := (s.compareSpeed before).attn } := by
  unfold State.compareSpeed
  split
  · rw [State.occur_speedLow]
  · split
    · rw [State.occur_speedHigh]
    · rfl

/-- The end of a gate before the arbiters work their points again. -/
def State.gateClosed (s : State) : State := (s.closeGate.compareSpeed s.speed).evalGuard

theorem State.gateClosed_eq (s : State) : s.gateClosed = { s with
    speed := s.filteredSpeed, emptyGate := decide (s.gateCount = 0), gateCount := 0,
    gateLeft := Config.gateMs, alarms := s.gateClosed.alarms, attn := s.gateClosed.attn,
    scorch := s.gateClosed.scorch } := by
  unfold State.gateClosed
  rw [State.compareSpeed_eq]
  rfl

theorem State.alarms_gateClosed (s : State) : s.gateClosed.alarms =
    if s.params.vlo ≤ s.speed ∧ s.filteredSpeed < s.params.vlo ∧ s.inputs.ironerRun = true then
      (s.occur .speedLow 1).alarms
    else if s.speed ≤ s.params.vhi ∧ s.params.vhi < s.filteredSpeed then
      (s.occur .speedHigh 1).alarms
    else s.alarms := by
  change (s.closeGate.compareSpeed s.speed).alarms = _
  unfold State.compareSpeed
  rewrite [apply_ite State.alarms, apply_ite State.alarms]
  rfl

theorem State.scorch_gateClosed (s : State) : s.gateClosed.scorch =
    ({ s with speed := s.filteredSpeed }.evalGuard).scorch := by
  unfold State.gateClosed
  rw [State.compareSpeed_eq]
  rfl

theorem State.working_gateClosed (s : State) (l : LaneNo) :
    s.gateClosed.armedStation l = s.armedStation l ∧
      ∀ st, s.gateClosed.workedPoint l st = { s with speed := s.filteredSpeed }.workedPoint l st := by
  rw [s.gateClosed_eq]
  exact ⟨rfl, fun _ => rfl⟩

/-! ### One working -/

/-- A release point is worked out from the lane, the station and what no operation writes. -/
theorem State.workedPoint_congr {s t : State} {l : LaneNo} {st : StationNo} (hk : t.kept = s.kept)
    (hl : t.lane l = s.lane l) (hst : t.station st = s.station st) :
    t.workedPoint l st = s.workedPoint l st := by
  have hspeed : t.speed = s.speed := congrArg Kept.speed hk
  have hparams : t.params = s.params := congrArg Kept.params hk
  have hclasses : t.classes = s.classes := congrArg Kept.classes hk
  simp only [State.workedPoint, State.youngest, State.queue, State.requiredGap, State.classEntry,
    State.lead, hl, hst, hspeed, hparams, hclasses]

/-- A working whose point lies ahead writes the point and nothing else. -/
theorem State.work_of_ahead {s : State} {l : LaneNo} {st : StationNo} {p : Pos}
    (ha : s.armedStation l = some st) (hp : s.workedPoint l st = some p)
    (hahead : (s.travel - p).msb = true) :
    s.work l = s.modLane l fun ln => { ln with releasePoint := some p } := by
  have hw : s.workPoint l st = s.modLane l fun ln => { ln with releasePoint := some p } := by
    rw [State.workPoint, hp]
  have hmet : (s.workPoint l st).testMet l = false := by
    have hpoint : ((s.workPoint l st).lane l).releasePoint = some p := by
      rw [hw, State.lane_modLane, if_pos rfl]
    rw [State.testMet, State.pointReached, hpoint]
    change (!(s.travel - p).msb && _) = false
    rw [hahead]
    rfl
  have hheld : ((s.workPoint l st).lane l).grant ≠ none := by
    rw [State.workPoint, State.lane_modLane, if_pos rfl]
    rw [(State.armedStation_eq_some.1 ha).2.1]
    exact Option.some_ne_none st
  rw [State.work, ha]
  change ((s.workPoint l st).releaseIfMet l st).decideGrant l = _
  rw [State.releaseIfMet, if_neg (by rw [hmet]; exact Bool.false_ne_true),
    State.decideGrant_of_none (State.decided_of_held hheld), hw]

theorem State.state_releaseOf (s : State) (l : LaneNo) (st : StationNo) (b : Batch) :
    ((s.releaseOf l st b).station st).state = .opening := by
  unfold State.releaseOf
  rw [State.modLane_eq, State.station_setLane, State.station_setStation_self]
  rfl

theorem State.queue_releaseOf (s : State) (l : LaneNo) (st : StationNo) (b : Batch) :
    (s.releaseOf l st b).queue l = s.queue l ++ [s.releasedRecord l st b (s.predictedEntry st)] := by
  unfold State.releaseOf
  rw [State.queue, State.lane_modLane, if_pos rfl, State.lane_setStation]
  change ((s.joinTail l _).lane l).queue = _
  rw [State.lane_joinTail, if_pos rfl]

theorem State.testMet_workPoint {s : State} {l : LaneNo} {st : StationNo} {p : Pos}
    (hp : s.workedPoint l st = some p) (hreached : (s.travel - p).msb = false)
    (hslot : s.hasSlot = true) : (s.workPoint l st).testMet l = true := by
  have hpoint : ((s.workPoint l st).lane l).releasePoint = some p := by
    rw [State.workPoint, State.lane_modLane, if_pos rfl, hp]
  have hroom : (s.workPoint l st).hasSlot = true := by
    rw [State.hasSlot, State.poolCount, State.records_of_queues (s := s)]
    · exact hslot
    · intro m
      rw [State.workPoint, State.lane_modLane]
      split
      · next e => rw [e]
      · rfl
  rw [State.testMet, State.pointReached, hpoint, hroom]
  change (!(s.travel - p).msb && _) = true
  rw [hreached]
  rfl

/-- A working whose point is reached, with a slot free, releases: the station opens its clamps and
its record joins the queue's tail, perhaps with others behind it. -/
theorem State.work_of_reached {s : State} {l : LaneNo} {st : StationNo} {p : Pos}
    (ha : s.armedStation l = some st) (hp : s.workedPoint l st = some p)
    (hreached : (s.travel - p).msb = false) (hslot : s.hasSlot = true) :
    ((s.work l).station st).state = .opening ∧
      ∃ r more, (s.work l).queue l = s.queue l ++ r :: more ∧ r.origin = some st ∧
        r.releasePos = some s.travel ∧ r.predLe0 = some (s.predictedEntry st) := by
  obtain ⟨b, hb⟩ : ∃ b, (s.station st).current = some b := by
    rcases hc : (s.station st).current with _ | b
    · unfold State.workedPoint at hp
      rw [hc] at hp
      split at hp <;> simp_all
    · exact ⟨b, rfl⟩
  have hmet := State.testMet_workPoint hp hreached hslot
  have hwork : s.work l = ((s.workPoint l st).releaseOf l st b).decideGrant l := by
    have hstep : (s.workPoint l st).releaseStep l st = (s.workPoint l st).releaseOf l st b := by
      rw [State.releaseStep, show ((s.workPoint l st).station st).current = some b from hb]
    rw [State.work, ha, ← hstep]
    exact congrArg (State.decideGrant · l) (if_pos hmet)
  have hqueue : (s.workPoint l st).queue l = s.queue l := by
    rw [State.queue, State.workPoint, State.lane_modLane, if_pos rfl]
    rfl
  have hopening := (s.workPoint l st).state_releaseOf l st b
  obtain ⟨-, ⟨more, hmore⟩, hkeep⟩ :=
    ((s.workPoint l st).releaseOf l st b).arbiterOnly_decideGrant l
  rw [State.queue_releaseOf, hqueue] at hmore
  rw [hwork]
  refine ⟨?_, (s.workPoint l st).releasedRecord l st b ((s.workPoint l st).predictedEntry st), more,
    ?_, rfl, rfl, rfl⟩
  · have hsame := hkeep st fun h => by
      have hload := hopening.symm.trans h.2
      cases hload
    rw [hsame]
    exact hopening
  · rw [← hmore, List.append_assoc]
    rfl

/-- A working of another lane's station leaves this lane and this lane's station. -/
theorem State.work_other {s : State} {l m : LaneNo} {st : StationNo} (hm : m ≠ l)
    (ha : (s.station st).state = .armed) (hl : (s.lane m).grant ≠ some st) :
    (s.work m).lane l = s.lane l ∧ (s.work m).station st = s.station st := by
  obtain ⟨hlane, -, hstation⟩ := s.arbiterOnly_work m
  refine ⟨hlane l hm.symm, hstation st ?_⟩
  rintro (h | ⟨-, h⟩)
  · exact hl (State.armedStation_eq_some.1 h).2.1
  · rw [ha] at h
    cases h

/-! ### All workings -/

theorem forEach_same {τ : Type} {run : τ → State → State} {tasks : List τ} {s : State}
    (h : ∀ t ∈ tasks, run t s = s) : forEach run tasks s = s := by
  induction tasks with
  | nil => rfl
  | cons t rest ih =>
    rw [forEach_cons, h t (by simp)]
    exact ih fun u hu => h u (by simp [hu])

theorem State.workReleases_of_unarmed {s : State} {l : LaneNo} (h : s.armedStation l = none) :
    s.workReleases l = false := by
  rw [State.workReleases, h]

theorem State.workAll_of_unarmed {s : State} (h : ∀ l, s.armedStation l = none) :
    s.workAll = s := by
  have hlast : (allFour.filter fun l => s.workReleases l) = [] :=
    List.filter_eq_nil_iff.2 fun l _ => by rw [State.workReleases_of_unarmed (h l)]; simp
  rw [State.workAll, hlast, forEach_same fun l _ => State.work_of_unarmed (h l)]
  rfl

/-- With one ARMED station, of which the working releases, the workings are that one. -/
theorem State.workAll_of_alone {s : State} {l : LaneNo} (hl : s.workReleases l = true)
    (h : ∀ m, m ≠ l → s.armedStation m = none) : s.workAll = s.work l := by
  have hlast : (allFour.filter fun m => s.workReleases m) = [l] := by
    refine List.perm_singleton.1 ((List.perm_ext_iff_of_nodup
      (List.Nodup.filter _ (by decide)) (by simp)).2 fun m => ?_)
    rw [List.mem_filter, List.mem_singleton]
    refine ⟨fun ⟨_, hm⟩ => ?_, fun hm => ⟨mem_allFour m, hm ▸ hl⟩⟩
    by_contra hne
    rw [State.workReleases_of_unarmed (h m hne)] at hm
    cases hm
  rw [State.workAll, hlast, forEach_same fun m hm => ?_]
  · exact runFreely_single l s rfl
  · refine State.work_of_unarmed (h m ?_)
    rintro rfl
    simp [hl] at hm

/-- Where the point of a lane's ARMED station lies ahead, the workings write it and change nothing
else of the lane or of the station. -/
theorem State.workAll_of_ahead {s : State} (hg : s.GrantsSound) {l : LaneNo} {st : StationNo} {p : Pos}
    (ha : s.armedStation l = some st) (hp : s.workedPoint l st = some p)
    (hahead : (s.travel - p).msb = true) :
    s.workAll.lane l = { s.lane l with releasePoint := some p } ∧
      s.workAll.station st = s.station st := by
  obtain ⟨-, hgrant, harmed⟩ := State.armedStation_eq_some.1 ha
  have hall := inTurns_each (run := fun m u => State.work u m)
    (P := fun left u => u.kept = s.kept ∧ u.station st = s.station st ∧
      (∀ m, left m → u.lane m = s.lane m) ∧
      (¬ left l → u.lane l = { s.lane l with releasePoint := some p }))
    (fun m => s.workReleases m)
    (fun left u n ⟨hk, hs, hw, hd⟩ => by
      refine ⟨(u.kept_draw n).trans hk, ?_⟩
      rcases u.draw_two n with e | e <;> rw [e] <;> exact ⟨hs, hw, hd⟩)
    (fun m left u hm ⟨hk, hs, hw, hd⟩ => by
      refine ⟨(u.kept_work m).trans hk, ?_⟩
      by_cases e : m = l
      · subst e
        have hlane := hw m hm
        have hu : u.work m = u.modLane m fun ln => { ln with releasePoint := some p } := by
          refine State.work_of_ahead (st := st) ?_ ?_ ?_
          · rw [State.armedStation_eq_some, hlane, hs]
            exact State.armedStation_eq_some.1 ha
          · rw [State.workedPoint_congr hk hlane hs, hp]
          · rw [show u.travel = s.travel from congrArg Kept.travel hk]
            exact hahead
        rw [hu]
        refine ⟨hs, fun j hj => ?_, fun _ => ?_⟩
        · rw [State.lane_modLane, if_neg hj.2]
          exact hw j hj.1
        · rw [State.lane_modLane, if_pos rfl, hlane]
      · have hother := State.work_other (s := u) (l := l) (st := st) e (hs ▸ harmed) (by
          rw [hw m hm]
          exact fun h => e ((hg.1 m st h).2.symm.trans (hg.1 l st hgrant).2))
        obtain ⟨hfar, -⟩ := u.arbiterOnly_work m
        exact ⟨hother.2.trans hs, fun j hj => (hfar j hj.2).trans (hw j hj.1),
          fun hn => hother.1.trans (hd fun hl => hn ⟨hl, Ne.symm e⟩)⟩)
    allFour s (by decide) ⟨rfl, rfl, fun _ _ => rfl, fun h => absurd (mem_allFour l) h⟩
  exact ⟨hall.2.2.2 id, hall.2.1⟩

theorem State.workReleases_of_reached {s : State} {l : LaneNo} {st : StationNo} {p : Pos}
    (ha : s.armedStation l = some st) (hp : s.workedPoint l st = some p)
    (hreached : (s.travel - p).msb = false) (hslot : s.hasSlot = true) :
    s.workReleases l = true := by
  rw [State.workReleases, ha]
  exact State.testMet_workPoint hp hreached hslot

theorem State.steady_workAll (s : State) : s.workAll.steady = s.steady :=
  (inFreeOrder_const State.steady (by simp) (by simp) _ _).trans
    (forEach_const State.steady (by simp) _ _)

theorem State.kept_workAll (s : State) : s.workAll.kept = s.kept :=
  (inFreeOrder_const State.kept (by simp) (by simp) _ _).trans
    (forEach_const State.kept (by simp) _ _)

theorem State.kept_gateClosed (s : State) : s.gateClosed.kept = { s.kept with
    speed := s.filteredSpeed, emptyGate := decide (s.gateCount = 0), gateCount := 0,
    gateLeft := Config.gateMs } := by
  rw [s.gateClosed_eq]
  rfl

theorem exec_gateEnd {s : State} (hr : s.resetPhase = .running) :
    exec .gateEnd s = .next s.gateClosed.workAll :=
  congrArg Host.Outcome.next (if_pos (decide_eq_true hr))

/-- Settles O35: the speed by `State.closeGate`, the occurrence by the comparisons, and the workings
of the four arbiters, each in its own lane. -/
theorem gateEndUpdatesTheSpeed : Obligations.GateEndUpdatesTheSpeed := by
  intro s f hr hf
  have hf' : f = s.filteredSpeed := hf
  subst hf'
  have hkept := s.gateClosed.kept_workAll.trans s.kept_gateClosed
  have hsteady := s.gateClosed.steady_workAll
  have hwork := s.working_gateClosed
  have hclosed := s.gateClosed_eq
  refine ⟨_, exec_gateEnd hr, ?_⟩
  have hreports : s.gateClosed.workAll.reports = s.reports := by
    rw [show s.gateClosed.workAll.reports = s.gateClosed.reports from congrArg Steady.reports hsteady,
      hclosed]
  have halarms : s.gateClosed.workAll.alarms = s.gateClosed.alarms := congrArg Steady.alarms hsteady
  have hscorch : s.gateClosed.workAll.scorch = s.gateClosed.scorch := congrArg Steady.scorch hsteady
  have hplant : (∀ l, s.gateClosed.lane l = s.lane l) ∧
      (∀ st, s.gateClosed.station st = s.station st) ∧ ∀ st, s.gateClosed.predictedEntry st =
        { s with speed := s.filteredSpeed }.predictedEntry st := by
    rw [hclosed]
    exact ⟨fun _ => rfl, fun _ => rfl, fun _ => rfl⟩
  have htravel' : s.gateClosed.travel = s.travel := by rw [hclosed]
  have hg' : s.GrantsSound → s.gateClosed.GrantsSound := fun hg => by
    rw [hclosed]
    exact hg
  simp only [State.kept, Kept.mk.injEq] at hkept
  obtain ⟨htravel, hres, hcount, hspeed, hempty, hleft, hparams, hclasses, hestop, -, -, hlink, -⟩ :=
    hkept
  refine ⟨hspeed, hempty, hcount, hleft, htravel, hres, hparams, hclasses, hreports, hestop, hlink,
    halarms.trans s.alarms_gateClosed, hscorch.trans s.scorch_gateClosed, fun hnone => ?_,
    fun hg l st p ha hp => ⟨fun hahead => ?_, fun hreached hslot halone => ?_⟩⟩
  · rw [State.workAll_of_unarmed fun l => (hwork l).1.trans (hnone l), hclosed]
    exact ⟨rfl, rfl⟩
  · obtain ⟨hlane, hstation⟩ := State.workAll_of_ahead (hg' hg) ((hwork l).1.trans ha)
      (((hwork l).2 st).trans hp) (htravel' ▸ hahead)
    exact ⟨hlane.trans (by rw [hplant.1]), hstation.trans (hplant.2.1 st)⟩
  · have ha' := (hwork l).1.trans ha
    have hp' := ((hwork l).2 st).trans hp
    have hreached' : (s.gateClosed.travel - p).msb = false := htravel' ▸ hreached
    have hslot' : s.gateClosed.hasSlot = true := by
      rw [hclosed]
      exact decide_eq_true hslot
    obtain ⟨hopen, r, more, hq, ho, hpos, hpred⟩ := State.work_of_reached ha' hp' hreached' hslot'
    rw [State.workAll_of_alone (State.workReleases_of_reached ha' hp' hreached' hslot')
      fun m hm => (hwork m).1.trans (halone m hm)]
    refine ⟨hopen, r, more, ?_, ho, ?_, ?_⟩
    · rw [hq, State.queue, hplant.1]
      rfl
    · rw [hpos, htravel']
    · rw [hpred, hplant.2.2]
      rfl

end Sys2Proof.Machine
end

section
/-!
PROOFS. Statement O34: pulses, travel advances and the tests of an advance.
-/

namespace Sys2Proof.Machine

/-! ### Tags of new records (R83) -/

/-- The value some places after a tag counter. -/
def tagAt (t k : Nat) : Nat := (t - 1 + k) % Config.tagMax + 1

theorem tagAt_zero {t : Nat} (h : 1 ≤ t ∧ t ≤ Config.tagMax) : tagAt t 0 = t := by
  simp only [tagAt, Config.tagMax] at *
  omega

theorem tagAt_tagAfter {t : Nat} (h : 1 ≤ t ∧ t ≤ Config.tagMax) (k : Nat) :
    tagAt (tagAfter t) k = tagAt t (k + 1) := by
  unfold tagAfter
  split <;> simp only [tagAt, Config.tagMax] at * <;> omega

theorem tagAfter_mem (t : Nat) : 1 ≤ tagAfter t ∧ tagAfter t ≤ Config.tagMax := by
  unfold tagAfter
  split <;> simp only [Config.tagMax] at * <;> omega

/-- A search that ends at a value held has passed over values that are all held. -/
theorem State.tagHeld_of_freeTagFrom {s : State} {n t : Nat} (ht : 1 ≤ t ∧ t ≤ Config.tagMax)
    (h : s.tagHeld (s.freeTagFrom n t) = true) : ∀ k ≤ n, s.tagHeld (tagAt t k) = true := by
  induction n generalizing t with
  | zero =>
    intro k hk
    rw [Nat.le_zero.mp hk, tagAt_zero ht]
    exact h
  | succ n ih =>
    unfold State.freeTagFrom at h
    split at h
    · next hheld =>
      intro k hk
      cases k with
      | zero => rw [tagAt_zero ht]; exact hheld
      | succ k =>
        rw [← tagAt_tagAfter ht]
        exact ih (tagAfter_mem t) h k (by omega)
    · next hfree => exact absurd h hfree

/-- With a slot free no record holds the tag of the next one: the pool cannot hold all the values the
search looks at. -/
theorem State.newTag_free {s : State} (hc : 1 ≤ s.tagCounter ∧ s.tagCounter ≤ Config.tagMax)
    (hslot : s.hasSlot = true) : s.tagHeld s.newTag = false := by
  by_contra hheld
  have hall := State.tagHeld_of_freeTagFrom hc (Bool.eq_true_of_not_eq_false hheld)
  have hnodup : ((List.range (Config.poolSlots + 1)).map (tagAt s.tagCounter)).Nodup := by
    refine List.Nodup.map_on (fun i hi j hj hij => ?_) List.nodup_range
    simp only [List.mem_range, Config.poolSlots, tagAt, Config.tagMax] at hi hj hij
    omega
  have hsub : (List.range (Config.poolSlots + 1)).map (tagAt s.tagCounter) ⊆
      s.records.map Record.tag := by
    intro x hx
    obtain ⟨k, hk, rfl⟩ := List.mem_map.1 hx
    have hk' := hall k (Nat.lt_succ_iff.1 (List.mem_range.1 hk))
    obtain ⟨r, hr, he⟩ := List.any_eq_true.1 hk'
    exact List.mem_map.2 ⟨r, hr, of_decide_eq_true he⟩
  have hlen := (List.subperm_of_subset hnodup hsub).length_le
  have hcount : s.records.length < Config.poolSlots := of_decide_eq_true hslot
  simp only [List.length_map, List.length_range] at hlen
  omega

/-! ### A tag held in one lane alone -/

/-- Records with a tag stand in one lane, and in no other. -/
structure State.OnlyIn (s : State) (m : LaneNo) (tag : Nat) : Prop where
  counter : 1 ≤ s.tagCounter ∧ s.tagCounter ≤ Config.tagMax
  here : ∃ r ∈ s.queue m, r.tag = tag
  nowhere : ∀ l, l ≠ m → ∀ r ∈ s.queue l, r.tag ≠ tag

theorem State.mem_records {s : State} {l : LaneNo} {r : Record} (h : r ∈ s.queue l) :
    r ∈ s.records := by
  unfold State.records
  fin_cases l <;> simp_all

theorem State.findRecord_isSome (s : State) (l : LaneNo) (tag : Nat) :
    (s.findRecord l tag).isSome = true ↔ ∃ r ∈ s.queue l, r.tag = tag := by
  simp [State.findRecord, List.find?_isSome]

theorem State.OnlyIn.laneWithTag {s : State} {m : LaneNo} {tag : Nat} (h : s.OnlyIn m tag) :
    s.laneWithTag tag = some m := by
  unfold State.laneWithTag
  rcases hf : allFour.find? fun l => (s.findRecord l tag).isSome with _ | l
  · have hn := List.find?_eq_none.1 hf m (mem_allFour m)
    exact absurd ((s.findRecord_isSome m tag).2 h.here) hn
  · obtain ⟨r, hr, ht⟩ := (s.findRecord_isSome l tag).1 
      (List.find?_some (p := fun l => (s.findRecord l tag).isSome) hf)
    by_contra hne
    exact h.nowhere l (fun e => hne (by rw [e])) r hr ht

theorem State.OnlyIn.congr {s t : State} {m : LaneNo} {tag : Nat} (h : s.OnlyIn m tag)
    (hq : ∀ l, t.queue l = s.queue l) (hc : t.tagCounter = s.tagCounter) : t.OnlyIn m tag := by
  refine ⟨hc ▸ h.counter, ?_, fun l hl => ?_⟩
  · rw [hq]
    exact h.here
  · rw [hq]
    exact h.nowhere l hl

theorem State.queue_modLane_same (s : State) (l : LaneNo) (f : Lane → Lane)
    (h : (f (s.lane l)).queue = (s.lane l).queue) (m : LaneNo) :
    (s.modLane l f).queue m = s.queue m := by
  rw [State.queue, State.lane_modLane]
  split
  · next e => rw [e]; exact h
  · rfl

theorem State.queue_releaseOf_other {s : State} {l m : LaneNo} (h : m ≠ l) (st : StationNo)
    (b : Batch) : (s.releaseOf l st b).queue m = s.queue m := by
  rw [State.queue, (s.arbiterOnly_releaseOf l st b).1 m h]
  rfl

/-- A release gives its record a tag of its own. -/
theorem State.OnlyIn.releaseOf {s : State} {m : LaneNo} {tag : Nat} (h : s.OnlyIn m tag)
    (hslot : s.hasSlot = true) (l : LaneNo) (st : StationNo) (b : Batch) :
    (s.releaseOf l st b).OnlyIn m tag := by
  have hfresh : s.newTag ≠ tag := by
    rintro rfl
    obtain ⟨r, hr, ht⟩ := h.here
    have hheld : s.tagHeld s.newTag = true :=
      List.any_eq_true.2 ⟨r, State.mem_records hr, decide_eq_true ht⟩
    rw [State.newTag_free h.counter hslot] at hheld
    cases hheld
  refine ⟨tagAfter_mem _, ?_, fun j hj r hr => ?_⟩
  · obtain ⟨r, hr, ht⟩ := h.here
    by_cases e : m = l
    · subst e
      exact ⟨r, by rw [State.queue_releaseOf]; exact List.mem_append_left _ hr, ht⟩
    · exact ⟨r, by rw [State.queue_releaseOf_other e]; exact hr, ht⟩
  · by_cases e : j = l
    · subst e
      rw [State.queue_releaseOf, List.mem_append, List.mem_singleton] at hr
      rcases hr with hr | rfl
      · exact h.nowhere j hj r hr
      · exact hfresh
    · rw [State.queue_releaseOf_other e] at hr
      exact h.nowhere j hj r hr

theorem State.OnlyIn.releaseIfMet {s : State} {m : LaneNo} {tag : Nat} (h : s.OnlyIn m tag)
    (l : LaneNo) (st : StationNo) : (s.releaseIfMet l st).OnlyIn m tag := by
  unfold State.releaseIfMet State.releaseStep
  split
  · next hmet =>
    split
    · exact h.releaseOf (Bool.and_eq_true_iff.1 hmet).2 l st _
    · exact h
  · exact h

theorem State.OnlyIn.decideUpTo {s : State} {m : LaneNo} {tag : Nat} (h : s.OnlyIn m tag)
    (l : LaneNo) (n : Nat) : (s.decideUpTo l n).OnlyIn m tag := by
  induction n generalizing s with
  | zero => exact h
  | succ n ih =>
    unfold State.decideUpTo
    split
    · exact h
    · next st _ =>
      have hgrant : (s.grantTo l st).OnlyIn m tag :=
        h.congr (s.queue_modLane_same l (fun ln => { ln with grant := some st }) rfl) rfl
      have hpoint : ((s.grantTo l st).workPoint l st).OnlyIn m tag :=
        hgrant.congr ((s.grantTo l st).queue_modLane_same l _ rfl) rfl
      exact ih (hpoint.releaseIfMet l st)

theorem State.OnlyIn.testRelease {s : State} {m : LaneNo} {tag : Nat} (h : s.OnlyIn m tag)
    (l : LaneNo) : (s.testRelease l).OnlyIn m tag := by
  unfold State.testRelease
  split
  · exact (h.releaseIfMet l _).decideUpTo l 4
  · exact h

/-! ### The rows of the tests -/

theorem exec_runHoldExpiry {s : State} (hr : s.resetPhase = .running) (st : StationNo) :
    exec (.runHoldExpiry st) s = .next (s.testHold st) :=
  congrArg Host.Outcome.next (if_pos (decide_eq_true hr))

theorem exec_release {s : State} (hr : s.resetPhase = .running) (l : LaneNo) :
    exec (.release l) s = .next (s.testRelease l) :=
  congrArg Host.Outcome.next (if_pos (decide_eq_true hr))

/-- The deadline of the record with a tag, wherever it stands (R90). -/
def State.passDeadline (s : State) (tag : Nat) : State :=
  match s.laneWithTag tag with
  | some l => s.expireIfDue l tag
  | none => s

theorem exec_deadlinePass {s : State} (hr : s.resetPhase = .running) (tag : BitVec 16) :
    exec (.deadlinePass tag) s = .next (s.passDeadline tag.toNat) :=
  congrArg Host.Outcome.next (if_pos (decide_eq_true hr))

theorem exec_deadlinePass_ofNat {s : State} (hr : s.resetPhase = .running) {tag : Nat}
    (ht : tag ≤ Config.tagMax) :
    exec (.deadlinePass (BitVec.ofNat 16 tag)) s = .next (s.passDeadline tag) := by
  rw [exec_deadlinePass hr, BitVec.toNat_ofNat, Nat.mod_eq_of_lt]
  simp only [Config.tagMax] at ht
  omega

theorem State.passDeadline_of_lane {s : State} {m : LaneNo} {tag : Nat}
    (h : s.laneWithTag tag = none ∨ s.laneWithTag tag = some m) :
    s.passDeadline tag = s.expireIfDue m tag := by
  unfold State.passDeadline
  rcases h with h | h <;> rw [h]
  have hnone : s.findRecord m tag = none := by
    have hn := List.find?_eq_none.1 h m (mem_allFour m)
    simpa using hn
  unfold State.expireIfDue State.expireFor
  rw [hnone]

/-! ### One and two tests -/

theorem runFreely_ordered {τ : Type} [DecidableEq τ] {enabled : List τ → List τ}
    {run : τ → State → State} {a b : τ} (hab : enabled [a, b] = [a]) (hb : enabled [b] = [b])
    (s : State) : runFreely enabled run 2 [a, b] s = run b (run a s) := by
  have hrest : runFreely enabled run 2 [a, b] s = runFreely enabled run 1 [b] (run a s) := by
    conv_lhs => unfold runFreely
    simp [hab, State.draw]
  rw [hrest, runFreely_single b _ hb]

/-- Two tests beside each other are taken in either order, by one free choice. -/
theorem runFreely_pair {τ : Type} [DecidableEq τ] {enabled : List τ → List τ}
    {run : τ → State → State} {a b : τ} (hne : a ≠ b) (hab : enabled [a, b] = [a, b])
    (ha : enabled [a] = [a]) (hb : enabled [b] = [b]) (s : State) :
    runFreely enabled run 2 [a, b] s = run b (run a { s with freeDraws := s.freeDraws + 1 }) ∨
      runFreely enabled run 2 [a, b] s = run a (run b { s with freeDraws := s.freeDraws + 1 }) := by
  have hdraw : s.draw (enabled [a, b]).length =
      (Config.raceChoice s.freeDraws % 2, { s with freeDraws := s.freeDraws + 1 }) := by
    rw [hab]
    rfl
  have hplace : Config.raceChoice s.freeDraws % 2 = 0 ∨ Config.raceChoice s.freeDraws % 2 = 1 := by
    omega
  rcases hplace with hi | hi
  · left
    have hrest : runFreely enabled run 2 [a, b] s =
        runFreely enabled run 1 [b] (run a { s with freeDraws := s.freeDraws + 1 }) := by
      conv_lhs => unfold runFreely
      rw [hdraw, hi, hab]
      simp
    rw [hrest, runFreely_single b _ hb]
  · right
    have hrest : runFreely enabled run 2 [a, b] s =
        runFreely enabled run 1 [a] (run b { s with freeDraws := s.freeDraws + 1 }) := by
      conv_lhs => unfold runFreely
      rw [hdraw, hi, hab]
      simp [List.erase_cons_tail, hne]
    rw [hrest, runFreely_single a _ ha]

/-! ### The tests of an advance -/

theorem State.mem_advanceTasks_edge (s : State) (l : LaneNo) (k : EyeNo) :
    .edge l k ∈ s.advanceTasks ↔ (l, k) ∈ s.dueEyes := by
  simp [State.advanceTasks, State.dueDeadlines]

theorem State.mem_advanceTasks_hold (s : State) (st : StationNo) :
    .hold st ∈ s.advanceTasks ↔ s.runHoldOver st = true := by
  simp [State.advanceTasks, State.dueDeadlines, mem_allFour]

theorem State.mem_advanceTasks_releaseTest (s : State) (l : LaneNo) :
    .releaseTest l ∈ s.advanceTasks ↔ s.testMatters l = true := by
  simp [State.advanceTasks, State.dueDeadlines, mem_allFour]

theorem State.mem_advanceTasks_deadline (s : State) (l : LaneNo) (tag : Nat) :
    .deadline l tag ∈ s.advanceTasks ↔
      ∃ r ∈ s.queue l, (s.dueCause l r).isSome = true ∧ r.tag = tag := by
  simp [State.advanceTasks, State.dueDeadlines, mem_allFour, and_assoc]

theorem State.advance_eq (s : State) : s.advance =
    runFreely enabledTasks (fun t s => s.runTask t) s.countAdvance.advanceTasks.length
      s.countAdvance.advanceTasks s.countAdvance := rfl

theorem State.kept_runTask (t : AdvanceTask) (s : State) : (s.runTask t).kept = s.kept := by
  cases t
  case edge l k => exact s.kept_acceptIfDue l k
  case hold st => exact s.kept_testHold st
  case releaseTest l => exact s.kept_testRelease l
  case deadline l tag => exact s.kept_expireIfDue l tag

theorem State.kept_advance (s : State) : s.advance.kept = s.countAdvance.kept :=
  runFreely_const State.kept (by simp) (fun t s => s.kept_runTask t) _ _ _

/-- A release test that is not among the tests of an advance does nothing (R72, R73). -/
theorem State.testRelease_of_not_matters {s : State} {l : LaneNo} (h : s.testMatters l = false) :
    s.testRelease l = s := by
  unfold State.testRelease
  split
  · next st hst =>
    have hpoint : s.pointReached l = false := by
      rw [State.testMatters, hst] at h
      simpa using (Bool.or_eq_false_iff.1 h).1
    have hmet : ¬ s.testMet l = true := by
      rw [State.testMet, hpoint]
      exact Bool.false_ne_true
    have hheld : (s.lane l).grant ≠ none := by
      rw [(State.armedStation_eq_some.1 hst).2.1]
      exact Option.some_ne_none st
    rw [State.releaseIfMet, if_neg hmet, State.decideGrant_of_none (State.decided_of_held hheld)]
  · rfl

/-- A deadline that is not among the tests of an advance does nothing (R90). -/
theorem State.passDeadline_of_not_due {s : State} {tag : Nat}
    (h : ∀ l, .deadline l tag ∉ s.advanceTasks) : s.passDeadline tag = s := by
  unfold State.passDeadline
  split
  · next l hl =>
    unfold State.expireIfDue State.expireFor
    split
    · rfl
    · next r hr =>
      have hnone : s.dueCause l r = none := by
        by_contra hdue
        refine h l ((s.mem_advanceTasks_deadline l tag).2 ⟨r, List.mem_of_find?_eq_some hr,
          Option.isSome_iff_ne_none.2 hdue, ?_⟩)
        exact of_decide_eq_true (List.find?_some (p := fun r : Record => decide (r.tag = tag)) hr)
      rw [hnone]
  · rfl

/-- In a sound pool a deadline due is that of a record of its lane alone, with a tag of 16 bits. -/
theorem State.onlyIn_of_deadline {s : State} (hp : s.PoolSound) {m : LaneNo} {tag : Nat}
    (h : .deadline m tag ∈ s.advanceTasks) : s.OnlyIn m tag ∧ tag ≤ Config.tagMax := by
  obtain ⟨r, hr, -, rfl⟩ := (s.mem_advanceTasks_deadline m tag).1 h
  obtain ⟨-, hnodup, htags, hcounter, hlanes⟩ := hp
  refine ⟨⟨hcounter, ⟨r, hr, rfl⟩, fun l hl y hy ht => hl ?_⟩, (htags r (State.mem_records hr)).2⟩
  have hsame : y = r := List.inj_on_of_nodup_map hnodup (State.mem_records hy)
    (State.mem_records hr) ht
  rw [← hlanes l y hy, hsame, hlanes m r hr]

/-- With the pool full a lane that can be given an ARMED station has its test (R73). -/
theorem State.testMatters_of_full {s : State} (h : 96 ≤ s.records.length) {l : LaneNo}
    {st : StationNo} (ho : (s.lane l).state = .opened) (hof : s.laneOf st = l)
    (hs : (s.station st).state = .loaded) : s.testMatters l = true := by
  have hshort : s.poolShort = true := by
    refine decide_eq_true ?_
    simp only [State.poolCount, Config.poolSlots, Config.slotsOneAdvanceCanTake]
    omega
  have hmay : s.mayArm l = true := by
    rw [State.mayArm, ho, Bool.and_eq_true]
    exact ⟨rfl, List.any_eq_true.2 ⟨st, mem_allFour st, by simp [State.isCandidate, hof, hs]⟩⟩
  simp [State.testMatters, hshort, hmay]

/-! ### The rows -/

theorem exec_travelAdvance {s : State} (hr : s.resetPhase = .running) :
    exec .travelAdvance s = .next s.advance :=
  congrArg Host.Outcome.next (if_pos (decide_eq_true hr))

theorem exec_encPulse {s : State} (hr : s.resetPhase = .running) :
    exec .encPulse s = .next s.pulse :=
  congrArg Host.Outcome.next (if_pos (decide_eq_true hr))

theorem runAll_pair {a b : Instr} {s t u : State} (ha : exec a s = .next t)
    (hb : exec b t = .next u) : runAll [a, b] s = .next u := by
  simp only [runAll, ha, hb]

theorem State.running_of_kept {s t : State} (h : t.kept = s.kept) (hr : s.resetPhase = .running) :
    t.resetPhase = .running :=
  (congrArg Kept.resetPhase h).trans hr

/-- The advance, from the state that has counted it, by the tests it makes. -/
theorem State.advance_of_tasks {s : State} {tasks : List AdvanceTask}
    (h : s.countAdvance.advanceTasks = tasks) : s.advance =
      runFreely enabledTasks (fun t s => s.runTask t) tasks.length tasks s.countAdvance := by
  rw [State.advance_eq, h]

theorem State.advance_of_one {s : State} {t : AdvanceTask}
    (h : s.countAdvance.advanceTasks = [t]) : s.advance = s.countAdvance.runTask t := by
  rw [State.advance_of_tasks h]
  refine runFreely_single t s.countAdvance ?_
  cases t <;> rfl

/-- An edge and a deadline: the edge first (R89). -/
theorem State.advance_of_edge_deadline {s : State} {l m : LaneNo} {k : EyeNo} {tag : Nat}
    (h : s.countAdvance.advanceTasks = [.edge l k, .deadline m tag]) :
    s.advance = (s.countAdvance.acceptIfDue l k).expireIfDue m tag := by
  rw [State.advance_of_tasks h]
  exact runFreely_ordered rfl rfl s.countAdvance

/-- A release test beside a deadline or an edge: in either order (R76). -/
theorem State.advance_of_pair {s : State} {a b : AdvanceTask} (hne : a ≠ b)
    (hab : enabledTasks [a, b] = [a, b]) (h : s.countAdvance.advanceTasks = [a, b]) :
    s.advance = ({ s.countAdvance with freeDraws := s.freeDraws + 1 }.runTask a).runTask b ∨
      s.advance = ({ s.countAdvance with freeDraws := s.freeDraws + 1 }.runTask b).runTask a := by
  rw [State.advance_of_tasks h]
  refine runFreely_pair hne hab ?_ ?_ s.countAdvance
  · cases a <;> rfl
  · cases b <;> rfl

/-- Settles O34: the tests of an advance one by one or in pairs, and the rows of tests that are not
among them. -/
theorem pulsesMakeTravelAdvances : Obligations.PulsesMakeTravelAdvances := by
  intro s hr
  have hadv := exec_travelAdvance hr
  refine ⟨fun h => ?_, fun h => ?_, ⟨_, hadv, ?_⟩, fun c hc => ?_⟩
  · rw [exec_encPulse hr, State.pulse, if_pos h]
  · rw [exec_encPulse hr, hadv, State.pulse, if_neg (by omega)]
  · have hkept := s.kept_advance
    generalize s.advance = t at *
    simp only [State.kept, Kept.mk.injEq] at hkept
    obtain ⟨htravel, hres, hcount, hspeed, hempty, hleft, hparams, hclasses, hestop, -, hinputs,
      hlink, -⟩ := hkept
    exact ⟨htravel, hres, hcount, hspeed, hempty, hleft, hparams, hclasses, hestop, hinputs, hlink⟩
  · have hc' : c = s.countAdvance := hc
    clear hc
    subst hc'
    have hrun : s.countAdvance.resetPhase = .running := hr
    have hdrawn : ({ s.countAdvance with freeDraws := s.freeDraws + 1 } : State).resetPhase =
        .running := hr
    have hpool : s.PoolSound → s.countAdvance.PoolSound := id
    refine ⟨fun h => ?_, fun l k h => ?_, fun st h => ?_, fun l h => ?_, fun l tag hp h => ?_,
      fun l k m tag t hp h ht hlane => ?_, fun l m tag hp h => ?_, fun l k m h => ?_,
      fun hfull l st ho hof hs => ?_, fun l k h => ?_, fun st h => ?_, fun l h => ?_,
      fun tag h => ?_⟩
    · rw [hadv, State.advance_of_tasks h]
      rfl
    · rw [hadv, State.advance_of_one h, exec_edgeAccepted hrun]
      rfl
    · rw [hadv, State.advance_of_one h, exec_runHoldExpiry hrun]
      rfl
    · rw [hadv, State.advance_of_one h, exec_release hrun]
      rfl
    · obtain ⟨honly, htag⟩ := State.onlyIn_of_deadline (hpool hp) (m := l) (tag := tag) (by simp [h])
      rw [hadv, State.advance_of_one h, exec_deadlinePass_ofNat hrun htag,
        State.passDeadline_of_lane (.inr honly.laneWithTag)]
      rfl
    · obtain ⟨-, htag⟩ := State.onlyIn_of_deadline (hpool hp) (m := m) (tag := tag) (by simp [h])
      rw [exec_edgeAccepted hrun] at ht
      cases ht
      rw [hadv, State.advance_of_edge_deadline h,
        exec_deadlinePass_ofNat (State.running_of_kept (State.kept_acceptIfDue _ l k) hrun) htag,
        State.passDeadline_of_lane hlane]
    · obtain ⟨honly, htag⟩ := State.onlyIn_of_deadline (hpool hp) (m := m) (tag := tag) (by simp [h])
      replace honly : ({ s.countAdvance with freeDraws := s.freeDraws + 1 } : State).OnlyIn m tag :=
        ⟨honly.counter, honly.here, honly.nowhere⟩
      have hpass {u : State} (hu : u.resetPhase = .running) (ho : u.OnlyIn m tag) :
          exec (.deadlinePass (BitVec.ofNat 16 tag)) u = .next (u.expireIfDue m tag) := by
        rw [exec_deadlinePass_ofNat hu htag, State.passDeadline_of_lane (.inr ho.laneWithTag)]
      have hpair := State.advance_of_pair AdvanceTask.noConfusion rfl h
      rw [hadv]
      generalize ({ s.countAdvance with freeDraws := s.freeDraws + 1 } : State) = u at *
      rcases hpair with e | e <;> rw [e]
      · exact ⟨_, .inl rfl, (runAll_pair (exec_release hdrawn l)
          (hpass (State.running_of_kept (u.kept_testRelease l) hdrawn) (honly.testRelease l))).symm⟩
      · exact ⟨_, .inr rfl, (runAll_pair (hpass hdrawn honly)
          (exec_release (State.running_of_kept (u.kept_expireIfDue m tag) hdrawn) l)).symm⟩
    · have hpair := State.advance_of_pair AdvanceTask.noConfusion rfl h
      rw [hadv]
      generalize ({ s.countAdvance with freeDraws := s.freeDraws + 1 } : State) = u at *
      rcases hpair with e | e <;> rw [e]
      · exact ⟨_, .inl rfl, (runAll_pair (exec_edgeAccepted hdrawn l k)
          (exec_release (State.running_of_kept (u.kept_acceptIfDue l k) hdrawn) m)).symm⟩
      · exact ⟨_, .inr rfl, (runAll_pair (exec_release hdrawn m)
          (exec_edgeAccepted (State.running_of_kept (u.kept_testRelease m) hdrawn) l k)).symm⟩
    · exact (State.mem_advanceTasks_releaseTest _ l).2
        (State.testMatters_of_full (s := s.countAdvance) hfull ho hof hs)
    · rw [exec_edgeAccepted hrun, State.acceptIfDue_of_not_due fun x hx hd => h ?_]
      exact (State.mem_advanceTasks_edge _ l k).2 ((State.mem_dueEyes _ (l, k)).2 ⟨x, hx, hd⟩)
    · rw [exec_runHoldExpiry hrun, State.testHold_of_not_over]
      exact Bool.eq_false_iff.2 fun ho => h ((State.mem_advanceTasks_hold _ st).2 ho)
    · rw [exec_release hrun, State.testRelease_of_not_matters]
      exact Bool.eq_false_iff.2 fun ho => h ((State.mem_advanceTasks_releaseTest _ l).2 ho)
    · rw [exec_deadlinePass hrun, State.passDeadline_of_not_due h]

end Sys2Proof.Machine
end

section
/-!
PROOFS. The relations for statement O57: what a change from `s` to `t` keeps of fold interfaces,
stacking units and the class table. `State.KeepsDelivery` speaks of what the part does while it runs,
`State.KeepsUnit` of whole rows, in a reset too. Both are transitive, so that the meaning of a row is
settled from those of its parts.
-/

namespace Sys2Proof.Machine

/-! ### The relations -/

/-- What a change keeps of fold interfaces, stacking units, the class table and the counts and
targets of stacks. -/
structure State.KeepsPieces (s t : State) : Prop where
  folders : s.FoldersSound → t.FoldersSound
  stackers : s.StackersSound → t.StackersSound
  classes : s.ClassesSound → t.ClassesSound
  piles : s.ClassesSound → s.PilesSound → t.PilesSound

/-- The same, for a change that begins and ends no reset. -/
structure State.KeepsDelivery (s t : State) : Prop extends State.KeepsPieces s t where
  phase : t.resetPhase = s.resetPhase

/-- The same, with what a reset holds (R183). -/
structure State.KeepsUnit (s t : State) : Prop extends State.KeepsPieces s t where
  reset : s.ResetSound → t.ResetSound

theorem State.KeepsPieces.trans {s t u : State} (h : s.KeepsPieces t) (g : t.KeepsPieces u) :
    s.KeepsPieces u where
  folders := g.folders ∘ h.folders
  stackers := g.stackers ∘ h.stackers
  classes := g.classes ∘ h.classes
  piles hc hp := g.piles (h.classes hc) (h.piles hc hp)

theorem State.KeepsDelivery.refl (s : State) : s.KeepsDelivery s := ⟨⟨id, id, id, fun _ => id⟩, rfl⟩

theorem State.KeepsDelivery.trans {s t u : State} (h : s.KeepsDelivery t) (g : t.KeepsDelivery u) :
    s.KeepsDelivery u :=
  ⟨h.toKeepsPieces.trans g.toKeepsPieces, g.phase.trans h.phase⟩

theorem State.KeepsUnit.refl (s : State) : s.KeepsUnit s := ⟨⟨id, id, id, fun _ => id⟩, id⟩

theorem State.KeepsUnit.trans {s t u : State} (h : s.KeepsUnit t) (g : t.KeepsUnit u) :
    s.KeepsUnit u :=
  ⟨h.toKeepsPieces.trans g.toKeepsPieces, g.reset ∘ h.reset⟩

/-- Outside a reset `State.ResetSound` says nothing. -/
theorem State.KeepsDelivery.keepsUnit {s t : State} (h : s.KeepsDelivery t)
    (hr : s.resetPhase = .running) : s.KeepsUnit t :=
  ⟨h.toKeepsPieces, fun _ ht => absurd (h.phase.trans hr) ht⟩

/-- What each task keeps, the tasks taken in order keep. -/
theorem State.keepsDelivery_forEach {τ : Type} {run : τ → State → State}
    (h : ∀ t (s : State), s.KeepsDelivery (run t s)) (tasks : List τ) (s : State) :
    s.KeepsDelivery (forEach run tasks s) :=
  forEach_keeps (P := s.KeepsDelivery) (fun t u hu => hu.trans (h t u)) tasks s (.refl s)

/-! ### Lane by lane -/

/-- What a change of one lane keeps, with ESTOP as it was before and as it is after; a stack is
measured by class entries that are in their ranges. -/
structure Lane.KeepsDelivery (ranges : Prop) (before after : Bool) (ln ln' : Lane) : Prop where
  folder : ln.folder.Sound → ln'.folder.Sound
  stacker : ln.stacker.Sound before → ln'.stacker.Sound after
  pile : ranges → ln.stacker.state.inRange = true → ln'.stacker.state.inRange = true

theorem Lane.KeepsDelivery.of_same {ranges : Prop} {e : Bool} {ln ln' : Lane}
    (hf : ln'.folder = ln.folder) (hs : ln'.stacker = ln.stacker) :
    Lane.KeepsDelivery ranges e e ln ln' := by
  constructor
  · rw [hf]; exact id
  · rw [hs]; exact id
  · rw [hs]; exact fun _ => id

theorem State.keepsPieces_of_lanes {s t : State} (hc : t.classes = s.classes)
    (hl : ∀ l, Lane.KeepsDelivery s.ClassesSound s.estop t.estop (s.lane l) (t.lane l)) :
    s.KeepsPieces t where
  folders h l := (hl l).folder (h l)
  stackers h l := (hl l).stacker (h l)
  classes h c := by rw [hc]; exact h c
  piles hr h l := (hl l).pile hr (h l)

/-- A change of one lane. -/
theorem State.keepsDelivery_modLane {s : State} {l : LaneNo} {f : Lane → Lane}
    (h : Lane.KeepsDelivery s.ClassesSound s.estop s.estop (s.lane l) (f (s.lane l))) :
    s.KeepsDelivery (s.modLane l f) := by
  refine ⟨State.keepsPieces_of_lanes rfl fun m => ?_, rfl⟩
  rw [State.lane_modLane]
  split
  · next e => subst e; exact h
  · exact .of_same rfl rfl

/-! ### Changes of what no invariant here reads -/

/-- What the invariants read of a lane. -/
structure LaneDelivery where
  folder : Folder
  stacker : Stacker

def Lane.delivery (ln : Lane) : LaneDelivery := ⟨ln.folder, ln.stacker⟩

/-- What the invariants read, with the phase of a reset. -/
structure Delivery where
  lanes : Quad LaneDelivery
  classes : Vector ClassEntry 16
  estop : Bool
  resetPhase : ResetPhase

def State.delivery (s : State) : Delivery :=
  ⟨s.lanes.map Lane.delivery, s.classes, s.estop, s.resetPhase⟩

theorem State.delivery_lane {s t : State} (h : t.delivery = s.delivery) (l : LaneNo) :
    (t.lane l).delivery = (s.lane l).delivery := by
  have hl := congrArg (fun x => x.lanes.get l) h
  simpa only [State.delivery, Quad.get_map, State.lane] using hl

theorem State.keepsDelivery_of_same {s t : State} (h : t.delivery = s.delivery) :
    s.KeepsDelivery t := by
  have hestop : t.estop = s.estop := congrArg Delivery.estop h
  refine ⟨State.keepsPieces_of_lanes (congrArg Delivery.classes h) fun l => ?_,
    congrArg Delivery.resetPhase h⟩
  have hl := State.delivery_lane h l
  rw [hestop]
  exact .of_same (congrArg LaneDelivery.folder hl) (congrArg LaneDelivery.stacker hl)

/-- What no arbiter and no internal operation writes includes all of it. -/
theorem State.delivery_of_steady {s t : State} (h : t.steady = s.steady) (hk : t.kept = s.kept) :
    t.delivery = s.delivery := by
  have hlanes : t.lanes.map Lane.delivery = s.lanes.map Lane.delivery := by
    refine Quad.ext_get fun l => ?_
    have hl := State.steady_lane h l
    have hf : (t.lane l).folder = (s.lane l).folder := congrArg LaneSteady.folder hl
    have hs : (t.lane l).stacker = (s.lane l).stacker := congrArg LaneSteady.stacker hl
    rw [Quad.get_map, Quad.get_map]
    change (t.lane l).delivery = (s.lane l).delivery
    rw [Lane.delivery, Lane.delivery, hf, hs]
  have hclasses : t.classes = s.classes := congrArg Kept.classes hk
  have hestop : t.estop = s.estop := congrArg Kept.estop hk
  have hphase : t.resetPhase = s.resetPhase := congrArg Kept.resetPhase hk
  rw [State.delivery, State.delivery, hlanes, hclasses, hestop, hphase]

theorem State.delivery_modLane (s : State) (l : LaneNo) (f : Lane → Lane)
    (h : (f (s.lane l)).delivery = (s.lane l).delivery) : (s.modLane l f).delivery = s.delivery := by
  simp only [State.delivery, State.modLane, State.setLane, Quad.map_set_same _ _ _ _ h]

@[simp] theorem State.delivery_draw (s : State) (n : Nat) : (s.draw n).2.delivery = s.delivery :=
  State.delivery_of_steady (s.steady_draw n) (s.kept_draw n)

@[simp] theorem State.delivery_modStation (s : State) (st : StationNo) (f : Station → Station) :
    (s.modStation st f).delivery = s.delivery := rfl

@[simp] theorem State.delivery_modRecord (s : State) (l : LaneNo) (tag : Nat) (f : Record → Record) :
    (s.modRecord l tag f).delivery = s.delivery :=
  State.delivery_of_steady (s.steady_modRecord l tag f) (s.kept_modRecord l tag f)

@[simp] theorem State.delivery_dropRecord (s : State) (l : LaneNo) (tag : Nat) :
    (s.dropRecord l tag).delivery = s.delivery :=
  State.delivery_of_steady (s.steady_dropRecord l tag) (s.kept_dropRecord l tag)

@[simp] theorem State.delivery_joinForeign (s : State) (l : LaneNo) (r : Record) :
    (s.joinForeign l r).delivery = s.delivery :=
  State.delivery_of_steady (s.steady_joinForeign l r) (s.kept_joinForeign l r)

@[simp] theorem State.delivery_evalGuard (s : State) : s.evalGuard.delivery = s.delivery := rfl

@[simp] theorem State.delivery_setEye (s : State) (l : LaneNo) (k : EyeNo) (e : Eye) :
    (s.setEye l k e).delivery = s.delivery :=
  s.delivery_modLane l _ rfl

@[simp] theorem State.delivery_offer (s : State) (r : Report) :
    (s.offer r).delivery = s.delivery := by
  rw [State.offer_eq]
  rfl

/-! ### Occurrences -/

@[simp] theorem State.delivery_leaveOpen (s : State) (l : LaneNo) (a : LaneState) :
    (s.leaveOpen l a).delivery = s.delivery := by
  unfold State.leaveOpen
  split
  · rw [State.delivery_modLane _ _ _ rfl]
    split <;> simp
  · rfl

@[simp] theorem State.delivery_haltEvery (s : State) : s.haltEvery.delivery = s.delivery :=
  forEach_const State.delivery (fun l t => t.delivery_leaveOpen l .halted) _ _

@[simp] theorem State.delivery_haltFor (s : State) (src : Source) :
    (s.haltFor src).delivery = s.delivery := by
  unfold State.haltFor
  split <;> simp [State.haltLane]

@[simp] theorem State.delivery_occur (s : State) (src : Source) (c : Nat) :
    (s.occur src c).delivery = s.delivery := by
  rw [State.occur_eq]
  change ((s.latched src c).haltFor src).delivery = _
  rw [State.delivery_haltFor, State.latched_eq]
  rfl

/-! ### Arbiters and stations -/

@[simp] theorem State.delivery_decideGrant (s : State) (l : LaneNo) :
    (s.decideGrant l).delivery = s.delivery :=
  State.delivery_of_steady (s.steady_decideGrant l) (s.kept_decideGrant l)

@[simp] theorem State.delivery_work (s : State) (l : LaneNo) : (s.work l).delivery = s.delivery :=
  State.delivery_of_steady (s.steady_work l) (s.kept_work l)

@[simp] theorem State.delivery_workIf (s : State) (l : LaneNo) (y : Bool) :
    (s.workIf l y).delivery = s.delivery :=
  State.delivery_of_steady (s.steady_workIf l y) (s.kept_workIf l y)

@[simp] theorem State.delivery_giveBack (s : State) (st : StationNo) :
    (s.giveBack st).delivery = s.delivery :=
  State.delivery_of_steady (s.steady_giveBack st) (s.kept_giveBack st)

@[simp] theorem State.delivery_testRelease (s : State) (l : LaneNo) :
    (s.testRelease l).delivery = s.delivery :=
  State.delivery_of_steady (s.steady_testRelease l) (s.kept_testRelease l)

@[simp] theorem State.delivery_testHold (s : State) (st : StationNo) :
    (s.testHold st).delivery = s.delivery :=
  State.delivery_of_steady (s.steady_testHold st) (s.kept_testHold st)

@[simp] theorem State.delivery_enterWaiting (s : State) (st : StationNo) :
    (s.enterWaiting st).delivery = s.delivery :=
  State.delivery_of_steady (s.steady_enterWaiting st) (s.kept_enterWaiting st)

@[simp] theorem State.delivery_pedal (s : State) (st : StationNo) :
    (s.pedal st).delivery = s.delivery :=
  State.delivery_of_steady (s.steady_pedal st) (s.kept_pedal st)

@[simp] theorem State.delivery_resetOrders (s : State) : s.resetOrders.delivery = s.delivery :=
  State.delivery_of_steady s.steady_resetOrders s.kept_resetOrders

@[simp] theorem State.delivery_completeBatch (s : State) (st : StationNo) (c : Bool) :
    (s.completeBatch st c).delivery = s.delivery := by
  unfold State.completeBatch
  split <;> simp

@[simp] theorem State.delivery_afterClampCycle (s : State) (st : StationNo) :
    (s.afterClampCycle st).delivery = s.delivery := by
  unfold State.afterClampCycle
  (repeat' split) <;> simp

@[simp] theorem State.delivery_noticeOf (s : State) (r : Record) (d : Departure) :
    (s.noticeOf r d).delivery = s.delivery := by
  unfold State.noticeOf State.notice
  (repeat' split) <;> simp

@[simp] theorem State.delivery_openTimeOver (s : State) (st : StationNo) :
    (s.openTimeOver st).delivery = s.delivery := by
  unfold State.openTimeOver
  split <;> simp

@[simp] theorem State.delivery_dwellOver (s : State) (st : StationNo) :
    (s.dwellOver st).delivery = s.delivery := by
  unfold State.dwellOver
  split <;> simp

@[simp] theorem State.delivery_returnTimeOver (s : State) (st : StationNo) :
    (s.returnTimeOver st).delivery = s.delivery := by
  unfold State.returnTimeOver
  split <;> simp

@[simp] theorem State.delivery_stopStations (s : State) : s.stopStations.delivery = s.delivery := by
  have hone : ∀ st (t : State), (t.stopStation st).delivery = t.delivery := fun st t => by
    unfold State.stopStation
    split <;> simp
  unfold State.stopStations
  rw [inFreeOrder_const State.delivery State.delivery_draw hone]
  exact forEach_const State.delivery hone _ _

/-! ### Losses and plan changes -/

@[simp] theorem State.delivery_loseRecord (s : State) (l : LaneNo) (r : Record) (c : LostCause) :
    (s.loseRecord l r c).delivery = s.delivery := by
  have hmerged : ∀ t : State, (t.markMerged l c).delivery = t.delivery := fun t => by
    unfold State.markMerged
    split <;> simp
  have hoccur : ∀ t : State, (t.lossOccurrence l r c).delivery = t.delivery := fun t => by
    unfold State.lossOccurrence
    (repeat' split) <;> simp
  simp [State.loseRecord, hmerged, hoccur]

@[simp] theorem State.delivery_completeChange (s : State) (p : PlanPair) :
    (s.completeChange p).delivery = s.delivery := by
  rw [State.completeChange_eq, State.delivery_offer]
  rfl

@[simp] theorem State.delivery_stackTest (s : State) : s.stackTest.delivery = s.delivery := by
  unfold State.stackTest
  (repeat' split) <;> simp

end Sys2Proof.Machine
end

section
/-!
PROOFS. What fold interfaces and stacking units themselves keep: each change of one by its own
function.
-/

namespace Sys2Proof.Machine

/-! ### Fold interfaces (R122 to R126) -/

theorem Folder.sound_atReset : Folder.atReset.Sound := by decide

theorem Folder.sound_issue {f : Folder} (h : f.queue.length ≤ Config.foldSlots) : f.issue.Sound := by
  unfold Folder.issue
  split
  · next c rest hq => simpa [Folder.Sound, hq] using h
  · next hq => simp [Folder.Sound, hq]

theorem Folder.Sound.accept {f : Folder} (h : f.Sound) (hq : f.queue.length < Config.foldSlots)
    (c : FoldCommand) : (f.accept c).Sound := by
  obtain ⟨-, hidle, hstrobe, hgap⟩ := h
  have hlen : (f.queue ++ [c]).length ≤ Config.foldSlots := by
    rw [List.length_append]
    exact hq
  unfold Folder.accept
  split
  · exact Folder.sound_issue hlen
  · next hni =>
    refine ⟨hlen, fun hp => absurd hp hni, fun hp => ?_, hgap⟩
    obtain ⟨hhead, hrest⟩ := hstrobe hp
    refine ⟨?_, hrest⟩
    cases hf : f.queue with
    | nil => simp [hf] at hhead
    | cons d rest => simpa [hf] using hhead

theorem Folder.Sound.strobeOver {f : Folder} (h : f.Sound) : f.strobeOver.Sound := by
  unfold Folder.strobeOver
  split
  · have hlen : f.queue.tail.length ≤ Config.foldSlots := by
      have := h.1
      rw [List.length_tail]
      omega
    exact ⟨hlen, fun hp => (nomatch hp), fun hp => (nomatch hp), fun _ => ⟨rfl, rfl, rfl⟩⟩
  · exact h

theorem Folder.Sound.gapOver {f : Folder} (h : f.Sound) : f.gapOver.Sound := by
  unfold Folder.gapOver
  split
  · exact Folder.sound_issue h.1
  · exact h

theorem Folder.Sound.pass {f : Folder} (h : f.Sound) : f.pass.Sound := by
  simpa [Folder.Sound, Folder.pass] using h

/-! ### Stacking units (R130 to R136) -/

theorem Stacker.sound_atReset : Stacker.atReset.Sound false := by decide

/-- A discharge runs its timer with ESTOP inactive and suspends it with ESTOP active (R133). -/
theorem Stacker.sound_dischargePile (x : Stacker) (p : Pile) (r : StackReason)
    (q : Option PocketPiece) (e : Bool) (ts : Nat) : (x.dischargePile p r q e ts).Sound e := by
  cases e <;> simp [Stacker.Sound, Stacker.dischargePile, StackState.isDischarging,
    StackerTimer.isRunning, StackerTimer.isSuspended]

/-- With nothing discharged, before and after, the state may be any. -/
theorem Stacker.Sound.setState {x : Stacker} {e : Bool} (h : x.Sound e) {z : StackState}
    (hz : z.isDischarging = x.state.isDischarging) : { x with state := z }.Sound e := by
  unfold Stacker.Sound at h ⊢
  rw [hz]
  exact h

/-- Whatever ESTOP was, a unit suspended is as an active ESTOP has it (R136). -/
theorem Stacker.Sound.suspend {x : Stacker} {e : Bool} (h : x.Sound e) : x.suspend.Sound true := by
  obtain ⟨hout, hidle, -, -⟩ := h
  cases hd : x.state.isDischarging with
  | false =>
    rw [Stacker.suspend_of_still hd]
    simp [Stacker.Sound, hout, hidle.2 hd, hd, StackerTimer.isRunning, StackerTimer.isSuspended]
  | true =>
    rw [Stacker.suspend_of_discharging hd]
    cases ht : x.timer <;>
      simp_all [Stacker.Sound, StackerTimer.isRunning, StackerTimer.isSuspended]

/-- Whatever ESTOP was, a unit resumed is as an inactive ESTOP has it (R136). -/
theorem Stacker.Sound.resume {x : Stacker} {e : Bool} (h : x.Sound e) : x.resume.Sound false := by
  obtain ⟨hout, hidle, -, -⟩ := h
  cases hd : x.state.isDischarging with
  | false =>
    rw [Stacker.resume_of_still hd]
    simp [Stacker.Sound, hout, hidle.2 hd, hd, StackerTimer.isRunning, StackerTimer.isSuspended]
  | true =>
    rw [Stacker.resume_of_discharging hd]
    cases ht : x.timer <;>
      simp_all [Stacker.Sound, StackerTimer.isRunning, StackerTimer.isSuspended]

theorem Stacker.Sound.pass {x : Stacker} {e : Bool} (h : x.Sound e) : x.pass.Sound e := by
  cases ht : x.timer <;>
    simp_all [Stacker.Sound, Stacker.pass, StackerTimer.isRunning, StackerTimer.isSuspended]

/-- The timer of a discharge runs out (R135). -/
theorem Stacker.Sound.expire {x : Stacker} {e : Bool} {ms : Nat} (h : x.Sound e)
    (ht : x.timer = .running ms) : { x with timer := .expired }.Sound e := by
  simp_all [Stacker.Sound, StackerTimer.isRunning, StackerTimer.isSuspended]

/-! ### Stacks -/

theorem Stacker.inRange_dischargePile {p : Pile} {q : Option PocketPiece}
    (hp : 1 ≤ p.count ∧ p.count ≤ 100) (hq : ∀ y ∈ q, 1 ≤ y.target ∧ y.target ≤ 100) (x : Stacker)
    (r : StackReason) (e : Bool) (ts : Nat) : (x.dischargePile p r q e ts).state.inRange = true := by
  cases q with
  | none => simpa [Stacker.dischargePile, StackState.inRange] using hp
  | some y => simpa [Stacker.dischargePile, StackState.inRange] using ⟨hp, hq y rfl⟩

/-- A stack that a piece has joined, as `State.putPile` leaves it (R131). -/
def Stacker.put (x : Stacker) (p : Pile) (e : Bool) (ts : Nat) : Stacker :=
  if p.target ≤ p.count then x.dischargePile p .full none e ts else { x with state := .building p }

theorem State.putPile_eq (s : State) (l : LaneNo) (p : Pile) :
    s.putPile l p = s.modStacker l fun x => x.put p s.estop s.params.ts := by
  unfold State.putPile Stacker.put
  split
  · rw [State.beginDischarge_building]
    rfl
  · rfl

theorem Stacker.Sound.put {x : Stacker} {e : Bool} (h : x.Sound e)
    (hn : x.state.isDischarging = false) (p : Pile) (ts : Nat) : (x.put p e ts).Sound e := by
  unfold Stacker.put
  split
  · exact Stacker.sound_dischargePile _ _ _ _ _ _
  · exact h.setState hn.symm

theorem Stacker.inRange_put {p : Pile} (hp : 1 ≤ p.count ∧ p.count ≤ 100) (ht : p.target ≤ 100)
    (x : Stacker) (e : Bool) (ts : Nat) : (x.put p e ts).state.inRange = true := by
  unfold Stacker.put
  split
  · exact Stacker.inRange_dischargePile hp (by simp) _ _ _ _
  · simp [StackState.inRange]
    omega

/-- A stack started with one piece, as `State.startPile` leaves it: `closes` where a plan change is
closing the lane (R131, R138). -/
def Stacker.start (x : Stacker) (piece : PocketPiece) (closes e : Bool) (ts : Nat) : Stacker :=
  if 1 < piece.target ∧ closes then
    x.dischargePile ⟨piece.batch, piece.cls, 1, piece.target⟩ .plan none e ts
  else x.put ⟨piece.batch, piece.cls, 1, piece.target⟩ e ts

theorem State.startPile_eq (s : State) (l : LaneNo) (piece : PocketPiece) : s.startPile l piece =
    s.modStacker l fun x => x.start piece (s.planCloses l) s.estop s.params.ts := by
  unfold State.startPile Stacker.start
  split
  · next h =>
    unfold State.putPile
    rw [if_neg (by simpa using h.1), State.beginDischarge_building]
    rfl
  · exact s.putPile_eq l _

theorem Stacker.Sound.start {x : Stacker} {e : Bool} (h : x.Sound e)
    (hn : x.state.isDischarging = false) (piece : PocketPiece) (closes : Bool) (ts : Nat) :
    (x.start piece closes e ts).Sound e := by
  unfold Stacker.start
  split
  · exact Stacker.sound_dischargePile _ _ _ _ _ _
  · exact h.put hn _ _

theorem Stacker.inRange_start {piece : PocketPiece} (ht : piece.target ≤ 100) (x : Stacker)
    (closes e : Bool) (ts : Nat) : (x.start piece closes e ts).state.inRange = true := by
  unfold Stacker.start
  split
  · exact Stacker.inRange_dischargePile ⟨le_refl 1, Nat.le_of_ble_eq_true rfl⟩ (by simp) _ _ _ _
  · exact Stacker.inRange_put ⟨le_refl 1, Nat.le_of_ble_eq_true rfl⟩ ht _ _ _

end Sys2Proof.Machine
end

section
/-!
PROOFS. What the operations of the delivery path and of the tracker keep of `State.KeepsDelivery`.
-/

namespace Sys2Proof.Machine

/-! ### Fold interfaces -/

theorem State.keepsDelivery_modFolder {s : State} {l : LaneNo} {f : Folder → Folder}
    (h : (s.lane l).folder.Sound → (f (s.lane l).folder).Sound) :
    s.KeepsDelivery (s.modFolder l f) :=
  State.keepsDelivery_modLane ⟨h, id, fun _ => id⟩

theorem State.keepsDelivery_foldArrival (s : State) (l : LaneNo) (c : FoldCommand) :
    s.KeepsDelivery (s.foldArrival l c) := by
  unfold State.foldArrival
  split
  · next hq => exact State.keepsDelivery_modFolder fun h => h.accept hq c
  · exact State.keepsDelivery_of_same (by simp)

theorem State.keepsDelivery_emptyFolder (s : State) (l : LaneNo) :
    s.KeepsDelivery (s.emptyFolder l) :=
  State.keepsDelivery_modFolder fun _ => Folder.sound_atReset

/-! ### Stacking units -/

theorem State.keepsDelivery_modStacker {s : State} {l : LaneNo} {f : Stacker → Stacker}
    (hs : (s.lane l).stacker.Sound s.estop → (f (s.lane l).stacker).Sound s.estop)
    (hp : s.ClassesSound → (s.lane l).stacker.state.inRange = true →
      (f (s.lane l).stacker).state.inRange = true) : s.KeepsDelivery (s.modStacker l f) :=
  State.keepsDelivery_modLane ⟨id, hs, hp⟩

theorem State.keepsDelivery_beginDischarge {s : State} {l : LaneNo} {q : Option PocketPiece}
    (r : StackReason) (hq : s.ClassesSound → ∀ y ∈ q, 1 ≤ y.target ∧ y.target ≤ 100) :
    s.KeepsDelivery (s.beginDischarge l r q) := by
  unfold State.beginDischarge
  split
  · next p hp =>
    refine State.keepsDelivery_modStacker (fun _ => Stacker.sound_dischargePile _ _ _ _ _ _)
      fun hc hr => Stacker.inRange_dischargePile ?_ (hq hc) _ _ _ _
    rw [hp, StackState.inRange, decide_eq_true_eq] at hr
    omega
  · exact .refl s

/-- A class entry has a target of 1..100, entry 0 too (section 2.1, R20). -/
theorem State.ClassesSound.target {s : State} (h : s.ClassesSound) (c : ClassNo) :
    1 ≤ (s.classEntry c).target ∧ (s.classEntry c).target ≤ 100 := by
  unfold State.classEntry
  split
  · decide
  · obtain ⟨-, -, -, -, -, ht⟩ := h c
    exact ht

theorem State.keepsDelivery_putPile {s : State} {l : LaneNo} {p : Pile}
    (hn : (s.lane l).stacker.state.isDischarging = false)
    (hp : (s.lane l).stacker.state.inRange = true →
      (1 ≤ p.count ∧ p.count ≤ 100) ∧ p.target ≤ 100) : s.KeepsDelivery (s.putPile l p) := by
  rw [State.putPile_eq]
  exact State.keepsDelivery_modStacker (fun h => h.put hn _ _)
    fun _ hr => Stacker.inRange_put (hp hr).1 (hp hr).2 _ _ _

theorem State.keepsDelivery_startPile {s : State} {l : LaneNo} {piece : PocketPiece}
    (hn : (s.lane l).stacker.state.isDischarging = false)
    (ht : s.ClassesSound → piece.target ≤ 100) : s.KeepsDelivery (s.startPile l piece) := by
  rw [State.startPile_eq]
  exact State.keepsDelivery_modStacker (fun h => h.start hn _ _ _)
    fun hc _ => Stacker.inRange_start (ht hc) _ _ _ _

theorem State.keepsDelivery_stackGood (s : State) (l : LaneNo) (batch : Nat) (cls : ClassNo) :
    s.KeepsDelivery (s.stackGood l batch cls).2 := by
  unfold State.stackGood
  split
  · next he => exact State.keepsDelivery_startPile (by rw [he]; rfl) fun hc => (hc.target cls).2
  · next p hp =>
    split
    · refine State.keepsDelivery_putPile (by rw [hp]; rfl) fun hr => ?_
      rw [hp, StackState.inRange, decide_eq_true_eq] at hr
      dsimp only
      omega
    · exact State.keepsDelivery_beginDischarge .batch fun hc y hy => by
        cases hy
        exact hc.target cls
  · next out ho =>
    refine State.keepsDelivery_modStacker
      (f := fun x => { x with
        state := .discharging out (some ⟨batch, cls, (s.classEntry cls).target⟩) })
      (fun h => h.setState (by rw [ho]; rfl)) fun hc hr => ?_
    rw [ho, StackState.inRange, decide_eq_true_eq] at hr
    rw [StackState.inRange, decide_eq_true_eq]
    exact ⟨hr, hc.target cls⟩
  · exact State.keepsDelivery_of_same (by simp)

theorem State.keepsDelivery_receivePiece (s : State) (l : LaneNo) (r : Record) :
    s.KeepsDelivery (s.receivePiece l r).2 := by
  unfold State.receivePiece
  split
  · exact State.keepsDelivery_modStacker (f := Stacker.countReject) id fun _ => id
  · exact s.keepsDelivery_stackGood l _ _

theorem State.keepsDelivery_stackerTimedOut (s : State) (l : LaneNo) :
    s.KeepsDelivery (s.stackerTimedOut l) := by
  unfold State.stackerTimedOut
  split
  · next ms ht =>
    exact (State.keepsDelivery_modStacker (f := fun x => { x with timer := .expired })
      (fun h => h.expire ht) fun _ => id).trans (State.keepsDelivery_of_same (by simp))
  · exact .refl s

/-! ### Plan changes (R138, R151, R152) -/

theorem State.keepsDelivery_trackTest (s : State) : s.KeepsDelivery s.trackTest := by
  unfold State.trackTest
  split
  · refine State.KeepsDelivery.trans (t := { s with phase := .stack })
      (State.keepsDelivery_of_same rfl) (State.keepsDelivery_forEach (fun l t => ?_) _ _)
    unfold State.askDischarge
    split
    · exact State.keepsDelivery_beginDischarge .plan fun _ _ h => (nomatch h)
    · exact .refl t
  · exact .refl s

theorem State.keepsDelivery_stackTest (s : State) : s.KeepsDelivery s.stackTest :=
  State.keepsDelivery_of_same s.delivery_stackTest

theorem State.keepsDelivery_planTest (s : State) : s.KeepsDelivery s.planTest :=
  s.keepsDelivery_trackTest.trans (State.keepsDelivery_stackTest _)

/-! ### CLEAR_l (R134) -/

theorem State.lane_modStacker (s : State) (l m : LaneNo) (f : Stacker → Stacker) :
    (s.modStacker l f).lane m =
      if m = l then { s.lane m with stacker := f (s.lane m).stacker } else s.lane m :=
  s.lane_modLane l m _

/-- A unit with its stack gone. -/
def Stacker.emptied (x : Stacker) : Stacker :=
  { x with state := .empty, timer := .idle, discharge := false }

/-- A discharge ended, with its report. -/
def State.discharged (s : State) (l : LaneNo) (out : Outgoing) : State :=
  (s.modStacker l Stacker.emptied).offer
    (.stackDone l out.batch out.cls out.count out.reason)

theorem State.lane_discharged (s : State) (l m : LaneNo) (out : Outgoing) :
    (s.discharged l out).lane m =
      if m = l then { s.lane m with stacker := (s.lane m).stacker.emptied } else s.lane m := by
  rw [← State.lane_modStacker, State.discharged, State.offer_eq]
  rfl

theorem State.kept_discharged (s : State) (l : LaneNo) (out : Outgoing) :
    (s.discharged l out).kept = s.kept := by
  unfold State.discharged
  rw [State.kept_offer, State.kept_modStacker]

/-- A unit with nothing in it is sound, whatever ESTOP is. -/
theorem Stacker.sound_emptied (x : Stacker) (e : Bool) :
    x.emptied.Sound e := by
  simp [Stacker.Sound, Stacker.emptied, StackState.isDischarging, StackerTimer.isRunning,
    StackerTimer.isSuspended]

theorem State.keepsDelivery_discharged (s : State) (l : LaneNo) (out : Outgoing) :
    s.KeepsDelivery (s.discharged l out) :=
  (State.keepsDelivery_modStacker (fun _ => Stacker.sound_emptied _ _) fun _ _ => rfl).trans
    (State.keepsDelivery_of_same (State.delivery_offer _ _))

/-- The pocket piece was in its range while the discharge went on, and starts a stack. -/
theorem State.keepsDelivery_pocketStarts {s : State} {l : LaneNo} {out : Outgoing}
    {piece : PocketPiece} (h : (s.lane l).stacker.state = .discharging out (some piece)) :
    s.KeepsDelivery ((s.discharged l out).startPile l piece) := by
  have hkept := s.kept_discharged l out
  have hestop : (s.discharged l out).estop = s.estop := congrArg Kept.estop hkept
  have hlane := s.lane_discharged l
  rw [State.startPile_eq]
  refine ⟨State.keepsPieces_of_lanes (congrArg Kept.classes hkept) fun m => ?_,
    congrArg Kept.resetPhase hkept⟩
  have he : ((s.discharged l out).modStacker l fun x => x.start piece
      ((s.discharged l out).planCloses l) (s.discharged l out).estop
      (s.discharged l out).params.ts).estop = s.estop := hestop
  rw [he, hestop, State.lane_modStacker, hlane]
  split
  · next hm =>
    subst hm
    refine ⟨id, fun _ => (Stacker.sound_emptied _ _).start rfl _ _ _, fun _ hr => ?_⟩
    rw [h, StackState.inRange, decide_eq_true_eq] at hr
    exact Stacker.inRange_start hr.2.2 _ _ _ _
  · exact .of_same rfl rfl

theorem State.keepsDelivery_clearStack (s : State) (l : LaneNo) :
    s.KeepsDelivery (s.clearStack l) := by
  unfold State.clearStack
  split
  · next out pocket h =>
    refine State.KeepsDelivery.trans ?_ (State.keepsDelivery_stackTest _)
    cases pocket with
    | none => exact s.keepsDelivery_discharged l out
    | some piece => exact State.keepsDelivery_pocketStarts h
  · exact .refl s

/-! ### The tracker -/

theorem State.keepsDelivery_expireFor (s : State) (l : LaneNo) (tag : Nat)
    (due : Record → Option LostCause) : s.KeepsDelivery (s.expireFor l tag due) := by
  unfold State.expireFor
  split
  · exact .refl s
  · split
    · exact .refl s
    · exact (State.keepsDelivery_of_same (State.delivery_loseRecord _ _ _ _)).trans
        (State.keepsDelivery_planTest _)

theorem State.keepsDelivery_entryLeading (s : State) (l : LaneNo) (x : Pos) :
    s.KeepsDelivery (s.entryLeading l x) := by
  have hforeign : s.KeepsDelivery (s.foreignSheet l x) := by
    unfold State.foreignSheet
    split
    · exact State.KeepsDelivery.trans (t := ((s.joinForeign l (s.foreignRecord l x)).work l).evalGuard)
        (State.keepsDelivery_of_same (by simp)) (State.keepsDelivery_expireFor _ _ _ _)
    · exact State.keepsDelivery_of_same (by simp)
  unfold State.entryLeading
  split
  · split
    · exact (State.keepsDelivery_of_same (by simp)).trans (State.keepsDelivery_expireFor _ _ _ _)
    · exact hforeign
  · exact hforeign

theorem State.keepsDelivery_entryTrailing (s : State) (l : LaneNo) (x : Pos) :
    s.KeepsDelivery (s.entryTrailing l x) := by
  unfold State.entryTrailing
  split
  · exact .refl s
  · split
    · exact (State.keepsDelivery_of_same (by simp)).trans (State.keepsDelivery_expireFor _ _ _ _)
    · exact State.keepsDelivery_of_same (by simp)

theorem State.keepsDelivery_eyeLeading {s : State} (l : LaneNo) (k : EyeNo) (eye : NextEye) (x : Pos)
    {hit : Record → State} (h : ∀ r, s.KeepsDelivery (hit r)) :
    s.KeepsDelivery (s.eyeLeading l k eye x hit) := by
  have hstray : s.KeepsDelivery (s.occur (.stray l) (causeStrayUnmatched k)) :=
    State.keepsDelivery_of_same (State.delivery_occur _ _ _)
  unfold State.eyeLeading
  split
  · split
    · exact h _
    · exact hstray
  · exact hstray

/-- A record changed by a match, and the deadline set at it tested. -/
theorem State.keepsDelivery_matched (s : State) (l : LaneNo) (tag : Nat) (f : Record → Record) :
    s.KeepsDelivery ((s.modRecord l tag f).expireIfSetPast l tag) :=
  (State.keepsDelivery_of_same (State.delivery_modRecord _ _ _ _)).trans
    (State.keepsDelivery_expireFor _ _ _ _)

theorem State.keepsDelivery_matchE2 (s : State) (l : LaneNo) (r : Record) :
    s.KeepsDelivery (s.matchE2 l r) :=
  (((State.keepsDelivery_of_same (State.delivery_modRecord _ _ _ _)).trans
    (State.keepsDelivery_foldArrival _ l _)).trans
      (State.keepsDelivery_of_same (State.delivery_evalGuard _))).trans
        (State.keepsDelivery_expireFor _ _ _ _)

theorem State.keepsDelivery_stackTrailing (s : State) (l : LaneNo) :
    s.KeepsDelivery (s.stackTrailing l) := by
  unfold State.stackTrailing
  split
  · next r _ =>
    have hpiece : s.KeepsDelivery ((s.dropRecord l r.tag).receivePiece l r).2 :=
      (State.keepsDelivery_of_same (s.delivery_dropRecord l r.tag)).trans
        (State.keepsDelivery_receivePiece _ l r)
    unfold State.retire
    dsimp only
    generalize (s.dropRecord l r.tag).receivePiece l r = piece at hpiece
    exact (hpiece.trans (State.keepsDelivery_of_same (by simp))).trans
      (State.keepsDelivery_planTest _)
  · exact .refl s

theorem State.keepsDelivery_takeEdge (s : State) (l : LaneNo) (k : EyeNo) (leading : Bool)
    (x : Pos) : s.KeepsDelivery (s.takeEdge l k leading x) := by
  unfold State.takeEdge
  split
  · exact s.keepsDelivery_entryLeading l x
  · exact s.keepsDelivery_entryTrailing l x
  · exact State.keepsDelivery_eyeLeading l 1 .e1 x fun r => s.keepsDelivery_matched l r.tag _
  · exact State.keepsDelivery_eyeLeading l 2 .e2 x fun r => s.keepsDelivery_matchE2 l r
  · exact State.keepsDelivery_eyeLeading l 3 .e3 x fun r => s.keepsDelivery_matched l r.tag _
  · exact s.keepsDelivery_stackTrailing l
  · exact .refl s

theorem State.keepsDelivery_purgeLane (s : State) (l : LaneNo) : s.KeepsDelivery (s.purgeLane l) :=
  ((State.keepsDelivery_forEach
      (fun r t => State.keepsDelivery_of_same (t.delivery_loseRecord l r .purged)) _ s).trans
    (State.keepsDelivery_emptyFolder _ l)).trans (State.keepsDelivery_planTest _)

/-! ### The field side -/

theorem State.keepsDelivery_deliver (s : State) (l : LaneNo) (k : EyeNo) (leading : Bool)
    (x : Pos) : s.KeepsDelivery (s.deliver l k leading x) := by
  unfold State.deliver
  split
  · exact .refl s
  · exact s.keepsDelivery_takeEdge l k leading x

theorem State.keepsDelivery_acceptIfDue (s : State) (l : LaneNo) (k : EyeNo) :
    s.KeepsDelivery (s.acceptIfDue l k) := by
  unfold State.acceptIfDue
  split
  · split
    · exact (State.keepsDelivery_of_same (State.delivery_setEye _ _ _ _)).trans
        (State.keepsDelivery_deliver _ l k _ _)
    · exact .refl s
  · exact .refl s

theorem State.keepsDelivery_rawChange (s : State) (l : LaneNo) (k : EyeNo) (covered : Bool) :
    s.KeepsDelivery (s.rawChange l k covered) := by
  have hset : ∀ e, s.KeepsDelivery (s.setEye l k e) := fun e =>
    State.keepsDelivery_of_same (s.delivery_setEye l k e)
  unfold State.rawChange
  split
  · exact hset _
  · split
    · exact (hset _).trans (State.keepsDelivery_deliver _ l k _ _)
    · exact hset _

theorem State.keepsDelivery_runTask (t : AdvanceTask) (s : State) : s.KeepsDelivery (s.runTask t) := by
  cases t
  case edge l k => exact s.keepsDelivery_acceptIfDue l k
  case hold st => exact State.keepsDelivery_of_same (s.delivery_testHold st)
  case releaseTest l => exact State.keepsDelivery_of_same (s.delivery_testRelease l)
  case deadline l tag => exact s.keepsDelivery_expireFor l tag _

theorem State.keepsDelivery_advance (s : State) : s.KeepsDelivery s.advance :=
  State.KeepsDelivery.trans (t := s.countAdvance) (State.keepsDelivery_of_same rfl)
    (runFreely_keeps (P := s.countAdvance.KeepsDelivery)
      (fun u n hu => hu.trans (State.keepsDelivery_of_same (u.delivery_draw n)))
      (fun t u hu => hu.trans (u.keepsDelivery_runTask t)) _ _ _ (.refl _))

theorem State.keepsDelivery_pulse (s : State) : s.KeepsDelivery s.pulse := by
  unfold State.pulse
  split
  · exact State.keepsDelivery_of_same rfl
  · exact s.keepsDelivery_advance

theorem State.delivery_gateOver (s : State) : s.gateOver.delivery = s.delivery := by
  have hcompare : ∀ (t : State) n, (t.compareSpeed n).delivery = t.delivery := fun t n => by
    unfold State.compareSpeed
    (repeat' split) <;> simp
  unfold State.gateOver State.workAll
  rw [inFreeOrder_const State.delivery State.delivery_draw fun l t => t.delivery_work l,
    forEach_const State.delivery fun l t => t.delivery_work l, State.delivery_evalGuard, hcompare]
  rfl

theorem State.delivery_scorchOver (s : State) : s.scorchOver.delivery = s.delivery := by
  unfold State.scorchOver
  split
  · exact State.delivery_occur _ _ _
  · rfl

end Sys2Proof.Machine
end

section
/-!
PROOFS. Statement O57: the emergency stop, the reset, the requests, every command and the clock.
-/

namespace Sys2Proof.Machine

/-! ### ESTOP (R18, R126, R136) -/

theorem State.keepsDelivery_activateEstop (s : State) : s.KeepsDelivery s.activateEstop := by
  have hkept := s.kept_activateEstop
  simp only [State.kept, Kept.mk.injEq] at hkept
  obtain ⟨-, -, -, -, -, -, -, hclasses, hestop, -, -, -, hphase, -⟩ := hkept
  have hstopped : s.estopOccurred.stopStations.delivery = s.estopFlags.delivery := by
    rw [State.delivery_stopStations, State.estopOccurred, State.delivery_occur]
  refine ⟨State.keepsPieces_of_lanes hclasses fun l => ?_, hphase⟩
  have hl : (s.estopOccurred.stopStations.lane l).stacker = (s.lane l).stacker :=
    congrArg LaneDelivery.stacker (State.delivery_lane hstopped l)
  rw [hestop, State.activateEstop_eq, State.lane_mapLanes]
  refine ⟨fun _ => Folder.sound_atReset, fun h => ?_, fun _ h => ?_⟩
  · rw [Lane.stopped, hl]
    exact h.suspend
  · rw [Lane.stopped, hl, Stacker.suspend_state]
    exact h

theorem State.keepsDelivery_deactivateEstop (s : State) : s.KeepsDelivery s.deactivateEstop := by
  have hlane := s.lane_deactivateEstop
  rw [State.deactivateEstop_eq] at hlane ⊢
  refine ⟨State.keepsPieces_of_lanes rfl fun l => ?_, rfl⟩
  rw [hlane]
  refine ⟨id, Stacker.Sound.resume, fun _ h => ?_⟩
  rw [Stacker.resume_state]
  exact h

/-! ### Reset (R183) -/

theorem ClassEntry.inRange_unwritten : ClassEntry.unwritten.InRange := by decide

theorem State.keepsUnit_resetBlocks (s : State) (phase : ResetPhase) :
    s.KeepsUnit (s.resetBlocks phase) := by
  have hclasses : (s.resetBlocks phase).ClassesSound := fun c => by
    have hc : (s.resetBlocks phase).classes[c] = .unwritten := Vector.getElem_replicate c.isLt
    rw [hc]
    exact ClassEntry.inRange_unwritten
  refine ⟨⟨fun _ l => ?_, fun _ l => ?_, fun _ => hclasses, fun _ _ l => ?_⟩, fun _ _ => rfl⟩
  all_goals
    obtain ⟨raw, hl⟩ := s.lane_resetBlocks phase l
    rw [hl]
  · exact Folder.sound_atReset
  · exact Stacker.sound_atReset
  · rfl

/-- Inputs, free values and waiting commands, which a reset does not hold (log entry 17). -/
theorem State.keepsUnit_outside (s : State) (inputs : Inputs) (draws : Nat) (pending : List Instr) :
    s.KeepsUnit { s with inputs := inputs, freeDraws := draws, pending := pending } where
  folders := id
  stackers := id
  classes := id
  piles _ := id
  reset h hr := congrArg
    (fun u : State => { u with inputs := inputs, freeDraws := draws, pending := pending }) (h hr)

theorem State.keepsUnit_draw (s : State) (n : Nat) : s.KeepsUnit (s.draw n).2 := by
  rcases s.draw_two n with h | h <;> rw [h]
  · exact .refl s
  · exact s.keepsUnit_outside _ _ _

/-- A reset goes on in another phase. -/
theorem State.keepsUnit_resetGoes {s : State} (hr : s.resetPhase ≠ .running) (phase : ResetPhase) :
    s.KeepsUnit { s with resetPhase := phase } where
  folders := id
  stackers := id
  classes := id
  piles _ := id
  reset h _ := congrArg (fun u : State => { u with resetPhase := phase }) (h hr)

/-- In a reset an eye follows its raw input (R12, R183). -/
theorem State.keepsUnit_settleEye {s : State} (hr : s.resetPhase ≠ .running) (l : LaneNo)
    (k : EyeNo) (covered : Bool) : s.KeepsUnit (s.setEye l k (.settled covered)) := by
  refine ⟨(State.keepsDelivery_of_same (s.delivery_setEye l k _)).toKeepsPieces, fun h _ => ?_⟩
  have hset := congrArg (fun u : State => u.setEye l k (.settled covered)) (h hr)
  have hblocks : (s.resetBlocks s.resetPhase).setEye l k (.settled covered) =
      (s.setEye l k (.settled covered)).resetBlocks s.resetPhase := by
    fin_cases l <;> fin_cases k <;> rfl
  exact hset.trans hblocks

theorem State.keepsPieces_resetOver (s : State) : s.KeepsPieces s.resetOver := by
  refine State.keepsPieces_of_lanes rfl fun l => ?_
  rw [State.lane_resetOver]
  exact .of_same rfl rfl

theorem State.keepsUnit_endReset (s : State) : s.KeepsUnit s.endReset := by
  have hover := s.keepsPieces_resetOver
  have hrun : s.resetOver.resetPhase = .running := rfl
  unfold State.endReset
  split
  · change s.KeepsUnit (if s.inputs.estop then s.resetOver.activateEstop else s.resetOver)
    split
    · have hstop := s.resetOver.keepsDelivery_activateEstop
      exact ⟨hover.trans hstop.toKeepsPieces, fun _ h => absurd (hstop.phase.trans hrun) h⟩
    · exact ⟨hover, fun _ h => absurd hrun h⟩
  · exact .refl s

/-! ### Settings -/

theorem classEntryOf_inRange (o : ClassOperands) (w : Width) : (classEntryOf o w).InRange := by
  refine ⟨?_, ?_, ?_, ?_, ?_, ?_⟩ <;> simp only [classEntryOf, clampTo] <;> omega

theorem State.classes_setClass (s : State) (c d : ClassNo) (e : ClassEntry) :
    (s.setClass c e).classes[d] = if d = c then e else s.classes[d] := by
  simp only [State.setClass, Fin.getElem_fin, Vector.getElem_set, Fin.ext_iff, eq_comm]

theorem State.keepsDelivery_setClass (s : State) (c : ClassNo) {e : ClassEntry} (h : e.InRange) :
    s.KeepsDelivery (s.setClass c e) := by
  refine ⟨⟨id, id, fun hc d => ?_, fun _ => id⟩, rfl⟩
  rw [State.classes_setClass]
  split
  · exact h
  · exact hc d

theorem State.keepsDelivery_withOperand {α : Type} {x : Option α} {s : State} {f : α → Answer}
    (h : ∀ a, s.KeepsDelivery (f a).state) : s.KeepsDelivery (withOperand x s f).state := by
  unfold withOperand
  split
  · exact .refl s
  · exact h _

/-- A request carried out leaves the state its effects give. -/
theorem carryOut_state (c : Bool) (data : List Byte) (s : State) : (carryOut c data s).state = s := rfl

theorem State.keepsDelivery_answerClassSet (o : ClassOperands) (s : State) :
    s.KeepsDelivery (answerClassSet o s).state := by
  unfold answerClassSet
  split
  · split
    · exact .refl s
    · exact s.keepsDelivery_setClass _ (classEntryOf_inRange _ _)
  · exact .refl s

theorem State.keepsDelivery_answerStationSet (o : StationOperands) (s : State) :
    s.KeepsDelivery (answerStationSet o s).state := by
  unfold answerStationSet
  split
  · split
    · refine State.keepsDelivery_of_same ?_
      change (s.writeStation _ _).delivery = _
      unfold State.writeStation
      split <;> simp
    · exact .refl s
  · exact .refl s

theorem State.keepsDelivery_answerGeometrySet (o : GeometryOperands) (s : State) :
    s.KeepsDelivery (answerGeometrySet o s).state := by
  unfold answerGeometrySet
  split
  · exact .refl s
  · next l _ =>
    split
    · split
      · exact State.keepsDelivery_of_same
          (s.delivery_modLane l (fun ln => { ln with geometry := geometryOf o }) rfl)
      · exact .refl s
    · exact .refl s

theorem State.delivery_refreshAttn (s : State) : s.refreshAttn.delivery = s.delivery := rfl

theorem State.delivery_linePut (s : State) (p : LineParams) :
    (s.linePut p).delivery = s.delivery := by
  have horders : (s.linedOrders p).delivery = s.delivery := by
    unfold State.linedOrders
    split
    · rfl
    · exact (s.putParams p).delivery_resetOrders
  unfold State.linePut
  rw [State.delivery_refreshAttn]
  split
  · exact horders
  · exact horders

theorem State.keepsDelivery_inFreeOrder {τ : Type} [DecidableEq τ] {run : τ → State → State}
    (h : ∀ t (s : State), s.KeepsDelivery (run t s)) (tasks : List τ) (s : State) :
    s.KeepsDelivery (inFreeOrder run tasks s) :=
  inFreeOrder_keeps (P := s.KeepsDelivery)
    (fun u n hu => hu.trans (State.keepsDelivery_of_same (u.delivery_draw n)))
    (fun t u hu => hu.trans (h t u)) tasks s (.refl s)

theorem State.keepsDelivery_writeLine (s : State) (p : LineParams) :
    s.KeepsDelivery (s.writeLine p) := by
  have hput : s.KeepsDelivery (s.linePut p) := State.keepsDelivery_of_same (s.delivery_linePut p)
  rw [State.writeLine_eq]
  split
  · exact hput
  · exact hput.trans (State.keepsDelivery_inFreeOrder
      (fun (e : LaneNo × EyeNo) t => t.keepsDelivery_acceptIfDue e.1 e.2) _ _)

theorem State.keepsDelivery_answerLineSet (o : LineOperands) (s : State) :
    s.KeepsDelivery (answerLineSet o s).state := by
  unfold answerLineSet
  split
  · split
    · exact .refl s
    · split
      · exact .refl s
      · exact s.keepsDelivery_writeLine _
  · exact .refl s

theorem Lane.delivery_drain (ln : Lane) : ln.drain.delivery = ln.delivery := by
  unfold Lane.drain
  split <;> rfl

theorem Lane.delivery_undrain (ln : Lane) : ln.undrain.delivery = ln.delivery := by
  unfold Lane.undrain
  split <;> rfl

/-- Four lanes changed alike in nothing that is read here. -/
theorem State.delivery_mapLanes (s : State) {f : Lane → Lane}
    (h : ∀ ln, (f ln).delivery = ln.delivery) : (s.mapLanes f).delivery = s.delivery := by
  have hlanes : (s.lanes.map f).map Lane.delivery = s.lanes.map Lane.delivery :=
    Quad.ext_get fun l => by rw [Quad.get_map, Quad.get_map, Quad.get_map, h]
  simp only [State.delivery, State.mapLanes, hlanes]

theorem State.keepsDelivery_beginChange (s : State) (pair : PlanPair) :
    s.KeepsDelivery (s.beginChange pair) := by
  have hchanging : (s.changing pair).delivery = s.delivery := by
    have hhalt := s.delivery_haltEvery
    unfold State.changing
    generalize s.haltEvery = u at hhalt ⊢
    exact (State.delivery_mapLanes { u with planNext := some pair } Lane.delivery_drain).trans hhalt
  rw [State.beginChange_eq]
  exact (State.keepsDelivery_of_same hchanging).trans (State.keepsDelivery_planTest _)

theorem State.keepsDelivery_withdrawChange (s : State) : s.KeepsDelivery s.withdrawChange := by
  rw [State.withdrawChange_eq]
  exact State.keepsDelivery_of_same
    (State.delivery_mapLanes { s with planNext := none, phase := .noChange } Lane.delivery_undrain)

theorem State.keepsDelivery_answerPlanSet (o : PlanOperands) (s : State) :
    s.KeepsDelivery (answerPlanSet o s).state := by
  refine State.keepsDelivery_withOperand fun pair => ?_
  split
  · unfold answerPlanTested
    split
    · change s.KeepsDelivery (if pair = s.planNow then s else s.beginChange pair)
      split
      · exact .refl s
      · exact s.keepsDelivery_beginChange pair
    · split
      · rw [carryOut_state]
        exact s.keepsDelivery_withdrawChange
      · exact .refl s
    · exact .refl s
  · exact .refl s

/-! ### Commands of the host -/

theorem State.keepsDelivery_answerBatchLoad (o : BatchOperands) (s : State) :
    s.KeepsDelivery (answerBatchLoad o s).state := by
  refine State.keepsDelivery_of_same ?_
  unfold answerBatchLoad answerLoadTested
  (repeat' split) <;> rfl

theorem State.keepsDelivery_answerBatchCancelCurrent (station : Byte) (s : State) :
    s.KeepsDelivery (answerBatchCancelCurrent station s).state := by
  refine State.keepsDelivery_withOperand fun st => State.keepsDelivery_of_same ?_
  cases (s.station st).state
  case waiting | loaded | armed => exact s.delivery_completeBatch st true
  all_goals rfl

/-- A lane that enters OPEN, with the decision of its arbiter (R145). -/
theorem State.delivery_openLane (s : State) (l : LaneNo) : (s.openLane l).delivery = s.delivery := by
  rw [State.openLane, State.delivery_decideGrant]
  exact s.delivery_modLane l (fun ln => { ln with state := .opened }) rfl

theorem State.keepsDelivery_answerResume (lane : Byte) (s : State) :
    s.KeepsDelivery (answerResume lane s).state := by
  refine State.keepsDelivery_withOperand fun l => State.keepsDelivery_of_same ?_
  cases (s.lane l).state
  case halted =>
    dsimp only
    split
    · exact s.delivery_openLane l
    · rfl
  all_goals rfl

theorem State.keepsDelivery_answerHalt (lane : Byte) (s : State) :
    s.KeepsDelivery (answerHalt lane s).state := by
  refine State.keepsDelivery_withOperand fun l => State.keepsDelivery_of_same ?_
  cases (s.lane l).state
  case opened => exact s.delivery_leaveOpen l .halted
  all_goals rfl

theorem State.keepsDelivery_answerPurge (lane : Byte) (s : State) :
    s.KeepsDelivery (answerPurge lane s).state := by
  refine State.keepsDelivery_withOperand fun l => ?_
  have hpurge : s.KeepsDelivery (if s.inputs.ironerRun then refuse .state s
      else carryOut false [] (s.purgeLane l)).state := by
    split
    · exact .refl s
    · exact s.keepsDelivery_purgeLane l
  split
  · exact hpurge
  · exact hpurge
  all_goals exact .refl s

theorem State.keepsDelivery_answerFlush (lane : Byte) (s : State) :
    s.KeepsDelivery (answerFlush lane s).state := by
  refine State.keepsDelivery_withOperand fun l => ?_
  split
  · exact State.keepsDelivery_beginDischarge .host (by simp)
  all_goals exact .refl s

theorem State.delivery_clearLatch (s : State) (src : Source) :
    (s.clearLatch src).delivery = s.delivery := by
  unfold State.clearLatch
  rw [State.releaseLines_eq]
  rfl

theorem State.keepsDelivery_answerRejectMark (tag : BitVec 16) (s : State) :
    s.KeepsDelivery (answerRejectMark tag s).state := by
  refine State.keepsDelivery_withOperand fun l => State.keepsDelivery_withOperand fun r => ?_
  unfold answerMarkRecord
  split
  · exact .refl s
  · exact State.keepsDelivery_of_same (s.delivery_modRecord l _ _)

/-- What a request keeps by its answer (R33). -/
theorem State.keepsDelivery_answer (i : Instr) (s : State) : s.KeepsDelivery (answer i s).state := by
  cases i
  case reportFetch max => exact State.keepsDelivery_of_same rfl
  case sheetsRead => exact State.keepsDelivery_withOperand fun _ => .refl s
  case stationRead => exact State.keepsDelivery_withOperand fun _ => .refl s
  case laneRead => exact State.keepsDelivery_withOperand fun _ => .refl s
  case classSet o => exact s.keepsDelivery_answerClassSet o
  case stationSet o => exact s.keepsDelivery_answerStationSet o
  case geometrySet o => exact s.keepsDelivery_answerGeometrySet o
  case lineSet o => exact s.keepsDelivery_answerLineSet o
  case planSet o => exact s.keepsDelivery_answerPlanSet o
  case alarmSet kind mask level =>
    refine State.keepsDelivery_of_same ?_
    change (answerAlarmSet kind mask level s).state.delivery = _
    unfold answerAlarmSet
    split <;> rfl
  case batchLoad o => exact s.keepsDelivery_answerBatchLoad o
  case batchCancelNext =>
    exact State.keepsDelivery_withOperand fun _ => State.keepsDelivery_of_same rfl
  case batchCancelCurrent station => exact s.keepsDelivery_answerBatchCancelCurrent station
  case laneCmdResume lane => exact s.keepsDelivery_answerResume lane
  case laneCmdHalt lane => exact s.keepsDelivery_answerHalt lane
  case laneCmdPurge lane => exact s.keepsDelivery_answerPurge lane
  case laneCmdFlush lane => exact s.keepsDelivery_answerFlush lane
  case haltAll =>
    change s.KeepsDelivery (carryOut false [] s.haltEvery).state
    rw [carryOut_state]
    exact State.keepsDelivery_of_same s.delivery_haltEvery
  case alarmAck kind index =>
    refine State.keepsDelivery_withOperand fun src => State.keepsDelivery_of_same ?_
    split
    · rw [carryOut_state, State.delivery_clearLatch]
    · rfl
  case rejectMark tag => exact s.keepsDelivery_answerRejectMark tag
  all_goals exact .refl s

/-! ### Rows (R183) -/

theorem State.KeepsDelivery.whenRunning {s : State} {f : State → State} (h : s.KeepsDelivery (f s)) :
    s.KeepsUnit (s.whenRunning f) := by
  unfold State.whenRunning
  split
  · next hr => exact h.keepsUnit (of_decide_eq_true hr)
  · exact .refl s

/-- A change of what no invariant here reads, of a unit that is not in a reset. -/
theorem State.keepsUnit_whenRunning_of_same {s : State} {f : State → State}
    (h : (f s).delivery = s.delivery) : s.KeepsUnit (s.whenRunning f) :=
  (State.keepsDelivery_of_same h).whenRunning

theorem State.keepsUnit_request {s : State} {code : Byte} {f : State → Answer}
    (h : s.KeepsDelivery (f s).state) : s.KeepsUnit (s.request code f) := by
  by_cases hr : s.resetPhase = .running
  · refine State.KeepsDelivery.keepsUnit ?_ hr
    rcases s.request_cases code f with e | e | ⟨-, e⟩ <;> rw [e]
    · exact State.keepsDelivery_of_same rfl
    · exact .refl s
    · exact h.trans (State.keepsDelivery_of_same rfl)
  · rw [State.request_ignored code (.inl hr)]
    exact .refl s

theorem State.keepsDelivery_setReceiver (s : State) (r : Receiver) :
    s.KeepsDelivery (s.setReceiver r) :=
  State.keepsDelivery_of_same rfl

/-- A complete frame handed on to a unit that is not in a reset. -/
theorem State.keepsUnit_handOn {s : State} (hr : s.resetPhase = .running) (f : RxFrame) :
    s.KeepsUnit (s.handOn f) := by
  unfold State.handOn
  split
  · unfold State.takeBroadcast
    split_ifs
    · exact (State.keepsDelivery_of_same s.delivery_haltEvery).keepsUnit hr
    · exact s.keepsUnit_resetBlocks _
    · exact .refl s
    · exact .refl s
  · refine State.keepsUnit_request ?_
    unfold answerFrame
    split
    · exact .refl s
    · exact s.keepsDelivery_answer _

theorem State.keepsUnit_hear {s : State} (hr : s.resetPhase = .running) (bits : BitVec 11) :
    s.KeepsUnit (s.hear bits) := by
  have hset : ∀ r, s.KeepsUnit (s.setReceiver r) := fun r =>
    (s.keepsDelivery_setReceiver r).keepsUnit hr
  unfold State.hear
  split_ifs
  · exact hset _
  · exact hset _
  · split
    · exact .refl s
    · next f _ =>
      unfold State.takeData
      split
      · split
        · exact (hset _).trans (State.keepsUnit_handOn (s := s.setReceiver .hunting) hr f)
        · exact hset _
      · exact hset _

theorem State.delivery_lineBreak (s : State) : s.lineBreak.delivery = s.delivery := by
  unfold State.lineBreak
  split <;> rfl

theorem State.delivery_startReply (s : State) : s.startReply.delivery = s.delivery := by
  unfold State.startReply
  (repeat' split) <;> rfl

theorem State.keepsUnit_endReply {s : State} (hr : s.resetPhase = .running) :
    s.KeepsUnit s.endReply := by
  unfold State.endReply
  split
  · next r _ =>
    have hshown : s.KeepsUnit (s.clearShown r) :=
      (State.keepsDelivery_of_same (s := s) (t := s.clearShown r) rfl).keepsUnit hr
    split_ifs
    · exact hshown.trans (State.keepsUnit_resetBlocks _ _)
    · exact hshown
    · exact .refl s
  · exact .refl s

theorem State.keepsUnit_setEstopInput (s : State) (active : Bool) :
    s.KeepsUnit (s.setEstopInput active) :=
  s.keepsUnit_outside _ _ _

theorem State.keepsUnit_eyeRawChange (s : State) (l : LaneNo) (k : EyeNo) (covered : Bool) :
    s.KeepsUnit (if covered = (s.eye l k).raw then s
      else if s.isRunning then s.rawChange l k covered
      else s.setEye l k (.settled covered)) := by
  split_ifs with _ hr
  · exact .refl s
  · exact (s.keepsDelivery_rawChange l k covered).keepsUnit (of_decide_eq_true hr)
  · exact State.keepsUnit_settleEye (fun h => hr (decide_eq_true h)) l k covered

/-- What a command makes keeps what `State.KeepsUnit` says. -/
theorem exec_keepsUnit (c : Instr) (s : State) : ∃ t, exec c s = .next t ∧ s.KeepsUnit t := by
  have hreq : ∀ code i, s.KeepsUnit (s.request code (answer i)) := fun _ i =>
    State.keepsUnit_request (s.keepsDelivery_answer i)
  cases c with
  | resetPin => exact ⟨_, rfl, s.keepsUnit_resetBlocks _⟩
  | resetPinRelease =>
    refine ⟨_, rfl, ?_⟩
    split
    · next h => exact State.keepsUnit_resetGoes (by rw [h]; exact ResetPhase.noConfusion) _
    · exact .refl s
  | resetEnd => exact ⟨_, rfl, s.keepsUnit_endReset⟩
  | encPulse => exact ⟨_, rfl, s.keepsDelivery_pulse.whenRunning⟩
  | travelAdvance => exact ⟨_, rfl, s.keepsDelivery_advance.whenRunning⟩
  | gateEnd => exact ⟨_, rfl, State.keepsUnit_whenRunning_of_same s.delivery_gateOver⟩
  | eyeRawChange l k covered => exact ⟨_, rfl, s.keepsUnit_eyeRawChange l k covered⟩
  | edgeAccepted l k => exact ⟨_, rfl, (s.keepsDelivery_acceptIfDue l k).whenRunning⟩
  | deadlinePass tag =>
    refine ⟨_, rfl, State.KeepsDelivery.whenRunning ?_⟩
    split
    · exact s.keepsDelivery_expireFor _ _ _
    · exact .refl s
  | runHoldExpiry st => exact ⟨_, rfl, State.keepsUnit_whenRunning_of_same (s.delivery_testHold st)⟩
  | release l => exact ⟨_, rfl, State.keepsUnit_whenRunning_of_same (s.delivery_testRelease l)⟩
  | pedalEdge st => exact ⟨_, rfl, State.keepsUnit_whenRunning_of_same (s.delivery_pedal st)⟩
  | openTimeExpiry st =>
    exact ⟨_, rfl, State.keepsUnit_whenRunning_of_same (s.delivery_openTimeOver st)⟩
  | dwellExpiry st => exact ⟨_, rfl, State.keepsUnit_whenRunning_of_same (s.delivery_dwellOver st)⟩
  | returnTimeExpiry st =>
    exact ⟨_, rfl, State.keepsUnit_whenRunning_of_same (s.delivery_returnTimeOver st)⟩
  | foldStrobeEnd l =>
    exact ⟨_, rfl, (State.keepsDelivery_modFolder Folder.Sound.strobeOver).whenRunning⟩
  | foldGapEnd l => exact ⟨_, rfl, (State.keepsDelivery_modFolder Folder.Sound.gapOver).whenRunning⟩
  | clearEdge l => exact ⟨_, rfl, (s.keepsDelivery_clearStack l).whenRunning⟩
  | stackerTimeout l => exact ⟨_, rfl, (s.keepsDelivery_stackerTimedOut l).whenRunning⟩
  | scorchTimerExpiry => exact ⟨_, rfl, State.keepsUnit_whenRunning_of_same s.delivery_scorchOver⟩
  | estopActivation =>
    refine ⟨_, rfl, (s.keepsUnit_setEstopInput true).trans (State.KeepsDelivery.whenRunning ?_)⟩
    split
    · exact State.keepsDelivery_of_same rfl
    · exact State.keepsDelivery_activateEstop _
  | estopInactiveEdge =>
    refine ⟨_, rfl, ?_⟩
    split
    · refine (s.keepsUnit_setEstopInput false).trans (State.keepsUnit_whenRunning_of_same ?_)
      split <;> rfl
    · exact .refl s
  | estopDeactivation =>
    refine ⟨_, rfl, State.KeepsDelivery.whenRunning ?_⟩
    split
    · exact s.keepsDelivery_deactivateEstop
    · exact .refl s
  | linkCharacter bits =>
    refine ⟨_, rfl, ?_⟩
    split
    · next h =>
      simp only [State.takesCharacter, Bool.and_eq_true] at h
      exact State.keepsUnit_hear (of_decide_eq_true h.1.1) bits
    · exact .refl s
  | linkBreak => exact ⟨_, rfl, State.keepsUnit_whenRunning_of_same s.delivery_lineBreak⟩
  | frameGapTimeout => exact ⟨_, rfl, (s.keepsDelivery_setReceiver _).whenRunning⟩
  | replyStart => exact ⟨_, rfl, State.keepsUnit_whenRunning_of_same s.delivery_startReply⟩
  | replyEnd =>
    refine ⟨_, rfl, ?_⟩
    unfold State.whenRunning
    split
    · next hr => exact State.keepsUnit_endReply (of_decide_eq_true hr)
    · exact .refl s
  | lineRestedHigh => exact ⟨_, rfl, State.keepsUnit_whenRunning_of_same rfl⟩
  | poll => exact ⟨_, rfl, hreq _ .poll⟩
  | reportFetch max => exact ⟨_, rfl, hreq _ (.reportFetch max)⟩
  | sheetsRead lane start => exact ⟨_, rfl, hreq _ (.sheetsRead lane start)⟩
  | stationRead station => exact ⟨_, rfl, hreq _ (.stationRead station)⟩
  | laneRead lane => exact ⟨_, rfl, hreq _ (.laneRead lane)⟩
  | alarmRead => exact ⟨_, rfl, hreq _ .alarmRead⟩
  | classSet o => exact ⟨_, rfl, hreq _ (.classSet o)⟩
  | stationSet o => exact ⟨_, rfl, hreq _ (.stationSet o)⟩
  | geometrySet o => exact ⟨_, rfl, hreq _ (.geometrySet o)⟩
  | lineSet o => exact ⟨_, rfl, hreq _ (.lineSet o)⟩
  | planSet o => exact ⟨_, rfl, hreq _ (.planSet o)⟩
  | alarmSet kind mask level => exact ⟨_, rfl, hreq _ (.alarmSet kind mask level)⟩
  | batchLoad o => exact ⟨_, rfl, hreq _ (.batchLoad o)⟩
  | batchCancelNext station => exact ⟨_, rfl, hreq _ (.batchCancelNext station)⟩
  | batchCancelCurrent station => exact ⟨_, rfl, hreq _ (.batchCancelCurrent station)⟩
  | laneCmdResume lane => exact ⟨_, rfl, hreq _ (.laneCmdResume lane)⟩
  | laneCmdHalt lane => exact ⟨_, rfl, hreq _ (.laneCmdHalt lane)⟩
  | laneCmdPurge lane => exact ⟨_, rfl, hreq _ (.laneCmdPurge lane)⟩
  | laneCmdFlush lane => exact ⟨_, rfl, hreq _ (.laneCmdFlush lane)⟩
  | haltAll broadcast =>
    refine ⟨_, rfl, ?_⟩
    split
    · exact State.keepsUnit_whenRunning_of_same s.delivery_haltEvery
    · exact hreq _ (.haltAll broadcast)
  | alarmAck kind index => exact ⟨_, rfl, hreq _ (.alarmAck kind index)⟩
  | rejectMark tag => exact ⟨_, rfl, hreq _ (.rejectMark tag)⟩
  | unitReset broadcast =>
    refine ⟨_, rfl, ?_⟩
    split
    · unfold State.whenRunning
      split
      · exact s.keepsUnit_resetBlocks _
      · exact .refl s
    · exact hreq _ (.unitReset broadcast)

/-! ### The clock -/

theorem State.keepsDelivery_passTimers (s : State) : s.KeepsDelivery s.passTimers := by
  refine ⟨State.keepsPieces_of_lanes rfl fun l => ?_, rfl⟩
  have hlane : s.passTimers.lane l = (s.lane l).pass := Quad.get_map _ _ l
  rw [hlane]
  exact ⟨Folder.Sound.pass, Stacker.Sound.pass, fun _ => id⟩

theorem State.keepsUnit_sampleInputs (s : State) : s.KeepsUnit s.sampleInputs :=
  s.keepsUnit_outside _ _ _

theorem State.keepsUnit_passMs (s : State) : s.KeepsUnit s.passMs := by
  unfold State.passMs
  split
  · next h => exact (s.keepsDelivery_passTimers.keepsUnit h).trans (State.keepsUnit_sampleInputs _)
  · exact s.keepsUnit_sampleInputs
  · next h =>
    exact (State.keepsUnit_resetGoes (by rw [h]; exact ResetPhase.noConfusion) _).trans
      (State.keepsUnit_sampleInputs _)

theorem step_keepsUnit {s t : State} (h : step s = .next t) : s.KeepsUnit t := by
  unfold step at h
  split at h
  · next c rest _ =>
    obtain ⟨u, hu, hk⟩ := exec_keepsUnit c { s with pending := rest }
    cases hu.symm.trans h
    exact (s.keepsUnit_outside s.inputs s.freeDraws rest).trans hk
  · have hdraw := s.keepsUnit_draw s.dueRows.length
    unfold idleStep at h
    split at h
    next i s' hd =>
    rw [hd] at hdraw
    split at h
    · next row _ =>
      obtain ⟨u, hu, hk⟩ := exec_keepsUnit row s'
      cases hu.symm.trans h
      exact hdraw.trans hk
    · cases h
      exact s.keepsUnit_passMs

/-- Settles O57: every command and every millisecond keeps what `State.KeepsUnit` says, of which the
statement's clauses are the parts. -/
theorem everyStepKeepsFoldersStackersAndReset : Obligations.EveryStepKeepsFoldersStackersAndReset := by
  intro s t h
  have hk := step_keepsUnit h
  exact ⟨fun hf hs hr => ⟨hk.folders hf, hk.stackers hs, hk.reset hr⟩,
    fun hc hp => ⟨hk.classes hc, hk.piles hc hp⟩⟩

end Sys2Proof.Machine
end

section
/-!
PROOFS. Statements O14 and O16: CLASS_SET and GEOMETRY_SET, by their operands, their refusals and what
they write.
-/

namespace Sys2Proof.Machine

/-- The result of a request that is carried out, by what its values must meet not to be clamped. -/
theorem clampedResult_eq {c : Bool} {p : Prop} [Decidable p] (h : c = false ↔ p) :
    (if c then Result.clamped else .ok) = if p then .ok else .clamped := by
  cases c
  · rw [if_pos (h.1 rfl)]
    rfl
  · rw [if_neg fun hp => Bool.false_ne_true (h.2 hp).symm]
    rfl

/-! ### CLASS_SET (R21, R22) -/

theorem widthOperand_code {b : Byte} {w : Width}
    (h : b.toNat = match w with
      | .full => 1
      | .half => 2
      | .quarter => 3) : widthOperand b = some w := by
  cases w
  · have hb : b = 1 := BitVec.eq_of_toNat_eq h
    rw [hb]
    rfl
  · have hb : b = 2 := BitVec.eq_of_toNat_eq h
    rw [hb]
    rfl
  · have hb : b = 3 := BitVec.eq_of_toNat_eq h
    rw [hb]
    rfl

theorem widthOperand_none {b : Byte} (h : b.toNat = 0 ∨ 4 ≤ b.toNat) : widthOperand b = none := by
  unfold widthOperand
  rw [if_neg (by rintro rfl; simp at h), if_neg (by rintro rfl; simp at h),
    if_neg (by rintro rfl; simp at h)]

theorem slotNames_iff (slot : Option Batch) (c : ClassNo) :
    slotNames slot c = true ↔ ∃ b, b.cls = c ∧ slot = some b := by
  cases slot <;> simp [slotNames]

theorem State.classInUse_iff (s : State) (c : ClassNo) : s.classInUse c = true ↔
    ∃ (st : StationNo) (b : Batch), b.cls = c ∧
      ((s.station st).current = some b ∨ (s.station st).next = some b) := by
  simp only [State.classInUse, List.any_eq_true, mem_allFour, true_and, Bool.or_eq_true,
    slotNames_iff, and_or_left, exists_or]

theorem State.classEntry_of_ne_zero (s : State) {c : ClassNo} (h : c ≠ 0) :
    s.classEntry c = s.classes[c] := if_neg h

theorem classEntryOf_eq (o : ClassOperands) (w : Width) : classEntryOf o w =
    { valid := true, lnom := max 200 (min o.lnom.toNat 6000),
      tol := min o.tol.toNat 1000, leadGap := min o.leadGap.toNat 3000,
      trailGap := min o.trailGap.toNat 3000, width := w,
      fold := max 1 (min o.fold.toNat 7),
      target := max 1 (min o.target.toNat 100) } := by
  simp only [classEntryOf, clampTo, Nat.zero_max]

theorem classClamps_iff (o : ClassOperands) : classClamps o = false ↔
    (200 ≤ o.lnom.toNat ∧ o.lnom.toNat ≤ 6000 ∧ o.tol.toNat ≤ 1000 ∧
      o.leadGap.toNat ≤ 3000 ∧ o.trailGap.toNat ≤ 3000 ∧ 1 ≤ o.fold.toNat ∧
      o.fold.toNat ≤ 7 ∧ 1 ≤ o.target.toNat ∧ o.target.toNat ≤ 100) := by
  simp only [classClamps, needsClamp, Bool.or_eq_false_iff, decide_eq_false_iff_not]
  omega

theorem exec_classSet {o : ClassOperands} {s : State} (hr : s.Ready) :
    exec (.classSet o) s = .next (State.respond codeClassSet (answerClassSet o s)) :=
  congrArg Host.Outcome.next (State.request_ready codeClassSet hr (answerClassSet o))

theorem answerClassSet_badOperand {o : ClassOperands} (s : State)
    (h : o.cls.toNat = 0 ∨ 16 ≤ o.cls.toNat ∨ o.width.toNat = 0 ∨ 4 ≤ o.width.toNat) :
    answerClassSet o s = refuse .badValue s := by
  unfold answerClassSet
  rw [← or_assoc] at h
  rcases h with h | h
  · rw [classOperand_none h]
  · rw [widthOperand_none h]
    cases classOperand o.cls <;> rfl

theorem answerClassSet_operands {o : ClassOperands} {c : ClassNo} {w : Width}
    (hc : classOperand o.cls = some c) (hw : widthOperand o.width = some w) (s : State) :
    answerClassSet o s =
      if w ≠ (s.classEntry c).width ∧ s.classInUse c then refuse .busy s
      else carryOut (classClamps o) [] (s.setClass c (classEntryOf o w)) := by
  rw [answerClassSet, hc, hw]

/-- Settles O14: the operands by `classOperand` and `widthOperand`, the refusal with BUSY by
`State.classInUse`, and the entry written by `classEntryOf`. -/
theorem classSetWritesOneClassWhole : Obligations.ClassSetWritesOneClassWhole := by
  intro o s hready
  have hexec := exec_classSet (o := o) hready
  refine ⟨fun h => ?_, fun c w hc h0 hw => ?_⟩
  · rw [hexec, answerClassSet_badOperand s h]
    exact congrArg _ (State.respond_refuse s _ (by decide))
  · rw [answerClassSet_operands (classOperand_val hc h0) (widthOperand_code hw),
      s.classEntry_of_ne_zero h0] at hexec
    rw [← s.classInUse_iff]
    refine ⟨fun hbusy => ?_, fun hfree => ?_⟩
    · rw [hexec, if_pos hbusy]
      exact congrArg _ (State.respond_refuse s _ (by decide))
    · rw [hexec, if_neg hfree, State.respond_carryOut _ _ (by decide),
        clampedResult_eq (classClamps_iff o), classEntryOf_eq]
      rfl

/-! ### GEOMETRY_SET (R28, R29) -/

theorem State.geometryFree_iff (s : State) (l : LaneNo) : s.geometryFree l = true ↔
    ((s.lane l).state = .halted ∨ (s.lane l).state = .closed) ∧ s.queue l = [] := by
  simp only [State.geometryFree, Bool.and_eq_true, Bool.or_eq_true, decide_eq_true_eq,
    List.isEmpty_iff]

theorem Geometry.inOrder_iff (g : Geometry) :
    g.inOrder = true ↔ g.pos1 < g.pos2 ∧ g.pos2 < g.pos3 := by
  simp only [Geometry.inOrder, Bool.and_eq_true, decide_eq_true_eq]

/-- Nothing is clamped where every value is taken as sent. -/
theorem geometryClamps_iff (o : GeometryOperands) : geometryClamps o = false ↔
    (geometryOf o).pos1 = o.pos1.toNat ∧ (geometryOf o).pos2 = o.pos2.toNat ∧
      (geometryOf o).pos3 = o.pos3.toNat ∧ (geometryOf o).w0 = o.w0.toNat ∧
      (geometryOf o).w1 = o.w1.toNat ∧ (geometryOf o).w2 = o.w2.toNat ∧
      (geometryOf o).w3 = o.w3.toNat := by
  have hone : ∀ {lo hi : Nat}, lo ≤ hi → ∀ x,
      needsClamp lo hi x = false ↔ clampTo lo hi x = x := fun h x => by
    rw [← Bool.not_eq_true, needsClamp_iff_ne h, not_not]
  have hpos := hone (show 500 ≤ 65000 by omega)
  have hwindow := hone (show 5 ≤ 2000 by omega)
  simp only [geometryClamps, geometryOf, Bool.or_eq_false_iff, hpos, hwindow, and_assoc]

theorem exec_geometrySet {o : GeometryOperands} {s : State} (hr : s.Ready) :
    exec (.geometrySet o) s = .next (State.respond codeGeometrySet (answerGeometrySet o s)) :=
  congrArg Host.Outcome.next (State.request_ready codeGeometrySet hr (answerGeometrySet o))

theorem answerGeometrySet_badLane {o : GeometryOperands} (s : State) (h : 4 ≤ o.lane.toNat) :
    answerGeometrySet o s = refuse .badValue s := by
  rw [answerGeometrySet, laneOperand_none h]

theorem answerGeometrySet_lane {o : GeometryOperands} {l : LaneNo} (h : laneOperand o.lane = some l)
    (s : State) : answerGeometrySet o s =
      if (geometryOf o).inOrder then
        if s.geometryFree l then
          carryOut (geometryClamps o) [] (s.modLane l fun ln => { ln with geometry := geometryOf o })
        else refuse .state s
      else refuse .badValue s := by
  rw [answerGeometrySet, h]

/-- Settles O16: the tests of the request in their order, with the geometry it names. -/
theorem geometrySetWritesALanesGeometry : Obligations.GeometrySetWritesALanesGeometry := by
  intro o s hready
  have hexec := exec_geometrySet (o := o) hready
  refine ⟨fun h => ?_, fun l g hl hg => ?_⟩
  · rw [hexec, answerGeometrySet_badLane s h]
    exact congrArg _ (State.respond_refuse s _ (by decide))
  · obtain rfl : g = geometryOf o := hg
    rw [hexec, answerGeometrySet_lane (laneOperand_val hl)]
    by_cases horder : (geometryOf o).pos1 < (geometryOf o).pos2 ∧
        (geometryOf o).pos2 < (geometryOf o).pos3
    · rw [if_pos ((geometryOf o).inOrder_iff.2 horder), if_neg (not_not_intro horder)]
      by_cases hfree : ((s.lane l).state = .halted ∨ (s.lane l).state = .closed) ∧ s.queue l = []
      · rw [if_pos (s.geometryFree_iff l |>.2 hfree), if_pos hfree,
          State.respond_carryOut _ _ (by decide), clampedResult_eq (geometryClamps_iff o)]
        rfl
      · rw [if_neg fun h => hfree ((s.geometryFree_iff l).1 h), if_neg hfree]
        exact congrArg _ (State.respond_refuse s _ (by decide))
    · rw [if_neg fun h => horder ((geometryOf o).inOrder_iff.1 h), if_pos horder]
      exact congrArg _ (State.respond_refuse s _ (by decide))

end Sys2Proof.Machine
end

section
/-!
PROOFS. Statement O18: what a PLAN_SET names, which classes fit a plan, and every PLAN_SET that begins
no change.
-/

namespace Sys2Proof.Machine

/-! ### What a PLAN_SET names (R24, R26) -/

/-- The code of a plan, which is the number of its lanes (section 2.2). -/
def PlanCode.size : PlanCode → Nat
  | .p1 => 1
  | .p2 => 2
  | .p4 => 4

theorem PlanCode.hasLane_iff (p : PlanCode) (l : LaneNo) : p.hasLane l = true ↔ l.val < p.size := by
  cases p
  · exact decide_eq_true_iff
  · exact decide_eq_true_iff
  · exact iff_of_true rfl l.isLt

theorem planOperand_iff (b : Byte) (p : PlanCode) : planOperand b = some p ↔ b.toNat = p.size := by
  have hcode : ∀ n : Byte, b = n ↔ b.toNat = n.toNat := fun n => BitVec.toNat_inj.symm
  unfold planOperand
  simp only [hcode]
  cases p <;> simp only [PlanCode.size] <;> split_ifs <;> simp_all

theorem laneOperand_iff (b : Byte) (l : LaneNo) : laneOperand b = some l ↔ b.toNat = l.val := by
  refine ⟨fun h => ?_, laneOperand_val⟩
  rcases lt_or_ge b.toNat 4 with hb | hb
  · rw [laneOperand_val (l := ⟨b.toNat, hb⟩) rfl] at h
    cases h
    rfl
  · rw [laneOperand_none hb] at h
    cases h

theorem planLaneOperand_iff (p : PlanCode) (b : Byte) (l : LaneNo) :
    planLaneOperand p b = some l ↔ b.toNat = l.val ∧ l.val < p.size := by
  rw [← laneOperand_iff, ← PlanCode.hasLane_iff]
  unfold planLaneOperand
  cases laneOperand b with
  | none => simp
  | some m =>
    by_cases hm : p.hasLane m = true
    · simp only [hm, if_true, iff_self_and, Option.some.injEq]
      rintro rfl
      exact hm
    · simp only [hm, if_false, reduceCtorEq, false_iff, not_and, Option.some.injEq]
      rintro rfl
      exact hm

theorem planOperands_iff (o : PlanOperands) (pair : PlanPair) : planOperands o = some pair ↔
    planOperand o.plan = some pair.plan ∧
      planLaneOperand pair.plan o.lane0 = some pair.map.q0 ∧
      planLaneOperand pair.plan o.lane1 = some pair.map.q1 ∧
      planLaneOperand pair.plan o.lane2 = some pair.map.q2 ∧
      planLaneOperand pair.plan o.lane3 = some pair.map.q3 := by
  refine ⟨fun h => ?_, fun ⟨hp, h0, h1, h2, h3⟩ => ?_⟩
  · unfold planOperands at h
    split at h
    · cases h
    · next p hp =>
      split at h
      · next h0 h1 h2 h3 =>
        cases h
        exact ⟨hp, h0, h1, h2, h3⟩
      · cases h
  · simp only [planOperands, hp, h0, h1, h2, h3]

/-! ### Which classes fit a plan (R24) -/

theorem Width.fits_iff (w : Width) (p : PlanCode) : w.fits p = true ↔ match p with
    | .p1 => True
    | .p2 => w = .half ∨ w = .quarter
    | .p4 => w = .quarter := by
  cases p <;> cases w <;> decide

theorem State.classFits_iff (s : State) (c : ClassNo) (p : PlanCode) :
    s.classFits c p = true ↔ c ≠ 0 ∧ s.classes[c].width.fits p = true := by
  rw [State.classFits, Bool.and_eq_true, decide_eq_true_eq]
  exact and_congr_right fun h => by rw [s.classEntry_of_ne_zero h]

theorem State.slotFits_iff (s : State) (slot : Option Batch) (p : PlanCode) :
    s.slotFits slot p = true ↔ ∀ b, slot = some b → s.classFits b.cls p = true := by
  cases slot <;> simp [State.slotFits]

theorem State.slotsFit_iff (s : State) (p : PlanCode) : s.slotsFit p = true ↔
    ∀ (st : StationNo) (b : Batch),
      ((s.station st).current = some b ∨ (s.station st).next = some b) →
        s.classFits b.cls p = true := by
  simp only [State.slotsFit, List.all_eq_true, mem_allFour, true_imp_iff, Bool.and_eq_true,
    State.slotFits_iff, or_imp, forall_and]

/-! ### The request -/

theorem Lane.undrain_eq (ln : Lane) : ln.undrain =
    { ln with state := if ln.state = .draining then .halted else ln.state } := by
  unfold Lane.undrain
  split <;> rfl

theorem exec_planSet {o : PlanOperands} {s : State} (hr : s.Ready) :
    exec (.planSet o) s = .next (State.respond codePlanSet (answerPlanSet o s)) :=
  congrArg Host.Outcome.next (State.request_ready codePlanSet hr (answerPlanSet o))

theorem answerPlanSet_pair {o : PlanOperands} {pair : PlanPair} (h : planOperands o = some pair)
    (s : State) : answerPlanSet o s =
      if s.slotsFit pair.plan then answerPlanTested pair s else refuse .state s :=
  withOperand_some s h _

theorem answerPlanTested_stack {s : State} (h : s.phase = .stack) (pair : PlanPair) :
    answerPlanTested pair s = refuse .busy s := by
  rw [answerPlanTested, h]

theorem answerPlanTested_track {s : State} (h : s.phase = .track) (pair : PlanPair) :
    answerPlanTested pair s =
      if pair = s.planNow then carryOut false [] s.withdrawChange else refuse .busy s := by
  rw [answerPlanTested, h]

theorem answerPlanTested_noChange {s : State} (h : s.phase = .noChange) (pair : PlanPair) :
    answerPlanTested pair s =
      carryOut false [] (if pair = s.planNow then s else s.beginChange pair) := by
  rw [answerPlanTested, h]

/-- A PLAN_SET whose operands name a plan that a class in a slot does not fit. -/
theorem exec_planSet_unfit {o : PlanOperands} {pair : PlanPair} {s : State} (hr : s.Ready)
    (h : planOperands o = some pair) (hfit : ¬ s.slotsFit pair.plan = true) :
    exec (.planSet o) s = .next (s.answered 0x14 .state [] false) := by
  rw [exec_planSet hr, answerPlanSet_pair h, if_neg hfit]
  exact congrArg _ (State.respond_refuse s _ (by decide))

/-- A PLAN_SET that has passed the tests of R26. -/
theorem exec_planSet_tested {o : PlanOperands} {pair : PlanPair} {s : State} (hr : s.Ready)
    (h : planOperands o = some pair) (hfit : s.slotsFit pair.plan = true) :
    exec (.planSet o) s = .next (State.respond codePlanSet (answerPlanTested pair s)) := by
  rw [exec_planSet hr, answerPlanSet_pair h, if_pos hfit]

/-- Settles O18: the operands by `planOperands_iff`, the fit of a class by its width, and the request
by the phase it meets. -/
theorem planSetIsRefusedOrWithdrawsAChange : Obligations.PlanSetIsRefusedOrWithdrawsAChange := by
  refine ⟨fun o pair => ?_, fun s c p => ?_, fun o s hready => ⟨fun h => ?_, fun pair hpair =>
    ⟨fun hunfit => ?_, fun hfits => ?_⟩⟩⟩
  · simp only [planOperands_iff, planOperand_iff, planLaneOperand_iff]
    constructor
    · rintro ⟨hp, ⟨h0, g0⟩, ⟨h1, g1⟩, ⟨h2, g2⟩, ⟨h3, g3⟩⟩
      refine ⟨hp, h0, h1, h2, h3, fun st => ?_⟩
      fin_cases st
      · exact g0
      · exact g1
      · exact g2
      · exact g3
    · rintro ⟨hp, h0, h1, h2, h3, hlanes⟩
      exact ⟨hp, ⟨h0, hlanes 0⟩, ⟨h1, hlanes 1⟩, ⟨h2, hlanes 2⟩, ⟨h3, hlanes 3⟩⟩
  · rw [s.classFits_iff]
    refine and_congr_right fun _ => ?_
    cases p
    · exact Width.fits_iff _ .p1
    · exact Width.fits_iff _ .p2
    · exact Width.fits_iff _ .p4
  · rw [exec_planSet hready, answerPlanSet, withOperand_none s h]
    exact congrArg _ (State.respond_refuse s _ (by decide))
  · refine exec_planSet_unfit hready hpair fun hall => ?_
    obtain ⟨st, b, hb, hno⟩ := hunfit
    rw [(s.slotsFit_iff _).1 hall st b hb] at hno
    cases hno
  · rw [exec_planSet_tested hready hpair ((s.slotsFit_iff _).2 hfits)]
    refine ⟨fun h => ?_, fun h hne => ?_, fun h he => ?_, fun h he => ?_⟩
    · rw [answerPlanTested_stack h]
      exact congrArg _ (State.respond_refuse s _ (by decide))
    · rw [answerPlanTested_track h, if_neg hne]
      exact congrArg _ (State.respond_refuse s _ (by decide))
    · rw [answerPlanTested_track h, if_pos he, State.respond_carryOut _ _ (by decide),
        State.withdrawChange_eq, funext Lane.undrain_eq]
      rfl
    · rw [answerPlanTested_noChange h, if_pos he, State.respond_carryOut _ _ (by decide)]
      rfl

end Sys2Proof.Machine
end

section
/-!
SUPPORT. An arbiter's decision as the statements name it: the station chosen is the one decided, a
decision is the release row of the state in which the station chosen holds the grant, and what a
grant given back brings.
-/

namespace Sys2Proof.Machine

/-! ### The station chosen (R61) -/

theorem State.isCandidate_iff {s : State} {l : LaneNo} {st : StationNo} :
    s.isCandidate l st = true ↔ s.laneOf st = l ∧ (s.station st).state = .loaded := by
  simp [State.isCandidate]

/-- A search finds the element that passes and has none that passes before it. -/
theorem find?_of_none_before {α : Type} [DecidableEq α] {p : α → Bool} {xs : List α} {x : α}
    (hx : x ∈ xs) (hp : p x = true)
    (h : ∀ y ∈ xs.takeWhile (fun y => decide (y ≠ x)), ¬ p y = true) : xs.find? p = some x := by
  induction xs with
  | nil => cases hx
  | cons y rest ih =>
    by_cases hy : y = x
    · rw [hy]
      exact List.find?_cons_of_pos hp
    · have hcons : (y :: rest).takeWhile (fun y => decide (y ≠ x)) =
          y :: rest.takeWhile (fun y => decide (y ≠ x)) :=
        List.takeWhile_cons_of_pos (decide_eq_true hy)
      rw [hcons] at h
      rw [List.find?_cons_of_neg (h y (by simp))]
      exact ih ((List.mem_cons.1 hx).resolve_left (Ne.symm hy))
        fun z hz => h z (List.mem_cons_of_mem y hz)

theorem lt_of_before_allFour :
    ∀ st su : StationNo, su ∈ allFour.takeWhile (fun y => decide (y ≠ st)) → su < st := by decide

/-- In an OPEN lane with its grant free, the station chosen is the one the arbiter decides for. -/
theorem State.decided_of_chosen {s : State} {l : LaneNo} {st : StationNo}
    (ho : (s.lane l).state = .opened) (hg : (s.lane l).grant = none) (hc : s.Chosen l st) :
    s.decided l = some st := by
  obtain ⟨hof, hload, hfirst⟩ := hc
  have hcand : s.isCandidate l st = true := State.isCandidate_iff.2 ⟨hof, hload⟩
  rw [State.decided, if_pos ⟨ho, hg⟩]
  rcases hfirst with ⟨hmode, hbefore⟩ | ⟨hmode, hmem, hbefore⟩ <;> rw [hmode]
  · exact find?_of_none_before (mem_allFour st) hcand fun su hsu h =>
      hbefore su (lt_of_before_allFour st su hsu) (State.isCandidate_iff.1 h).1
        (State.isCandidate_iff.1 h).2
  · exact find?_of_none_before hmem hcand fun su hsu h =>
      hbefore su hsu (State.isCandidate_iff.1 h).1 (State.isCandidate_iff.1 h).2

/-- The only LOADED station of a lane is the one chosen, where the order list of the lane has it. -/
theorem State.chosen_of_alone {s : State} {l : LaneNo} {st : StationNo} (hof : s.laneOf st = l)
    (hload : (s.station st).state = .loaded)
    (hmode : s.params.mode = .fixed ∨ st ∈ (s.lane l).order)
    (halone : ∀ su, su ≠ st → s.laneOf su = l → (s.station su).state ≠ .loaded) :
    s.Chosen l st := by
  refine ⟨hof, hload, ?_⟩
  cases hm : s.params.mode with
  | fixed => exact .inl ⟨rfl, fun su hsu => halone su (ne_of_lt hsu)⟩
  | rotating =>
    refine .inr ⟨rfl, hmode.resolve_left (by rw [hm]; decide), fun su hsu => halone su ?_⟩
    exact of_decide_eq_true (List.mem_takeWhile_imp (p := fun y => decide (y ≠ st)) hsu)

/-! ### Enough decisions -/

theorem State.planNow_of_steady {s t : State} (h : t.steady = s.steady) : t.planNow = s.planNow :=
  congrArg Steady.planNow h

/-- The station given the grant is ARMED or has released: it is not LOADED. -/
theorem State.not_loaded_grantTo (s : State) (l : LaneNo) (st : StationNo) :
    (((s.grantTo l st).workAndTest l st).station st).state ≠ .loaded := by
  have harmed : (((s.grantTo l st).workPoint l st).station st).state = .armed := by
    change (((s.modLane l _).setStation st _).station st).state = .armed
    rw [State.station_setStation_self]
  unfold State.workAndTest State.releaseIfMet State.releaseStep
  (repeat' split)
  · rw [State.state_releaseOf]
    decide
  · rw [harmed]
    decide
  · rw [harmed]
    decide

/-- The LOADED stations mapped to a lane. -/
def State.candidates (s : State) (l : LaneNo) : Finset StationNo :=
  Finset.univ.filter fun st => s.isCandidate l st = true

theorem State.mem_candidates {s : State} {l : LaneNo} {st : StationNo} : st ∈ s.candidates l ↔
    s.laneOf st = l ∧ (s.station st).state = .loaded := by
  simp [State.candidates, State.isCandidate_iff]

/-- Each decision that gives the grant uses up a LOADED station. -/
theorem State.candidates_granted {s : State} {l : LaneNo} {st : StationNo}
    (h : s.decided l = some st) :
    ((s.grantTo l st).workAndTest l st).candidates l ⊂ s.candidates l := by
  obtain ⟨hof, hload, -, -⟩ := State.decided_loaded h
  have hother : ∀ su, su ≠ st →
      ((s.grantTo l st).workAndTest l st).station su = s.station su := fun su hsu =>
    ((State.arbiterOnly_workAndTest _ l st).2.2 su hsu).trans (State.station_setStation_ne _ hsu _)
  have hplan : ((s.grantTo l st).workAndTest l st).planNow = s.planNow :=
    State.planNow_of_steady ((State.steady_workAndTest _ l st).trans (s.steady_grantTo l st))
  have hself : st ∉ ((s.grantTo l st).workAndTest l st).candidates l := fun hm =>
    s.not_loaded_grantTo l st (State.mem_candidates.1 hm).2
  refine (Finset.ssubset_iff_of_subset fun su hsu => ?_).2
    ⟨st, State.mem_candidates.2 ⟨hof, hload⟩, hself⟩
  have hne : su ≠ st := fun e => hself (e ▸ hsu)
  rw [State.mem_candidates, State.laneOf_of_kept hplan, hother su hne] at hsu
  exact State.mem_candidates.2 hsu

/-- With a decision for each LOADED station there is nothing left for one more. -/
theorem State.decideUpTo_enough {s : State} {l : LaneNo} {n : Nat}
    (h : (s.candidates l).card ≤ n) : s.decideUpTo l (n + 1) = s.decideUpTo l n := by
  induction n generalizing s with
  | zero =>
    have hnone : s.candidates l = ∅ := Finset.card_eq_zero.1 (Nat.le_zero.1 h)
    refine State.decideUpTo_of_none (State.decided_of_noCandidate fun st hof hload => ?_) 1
    simpa [hnone] using (State.mem_candidates (s := s)).2 ⟨hof, hload⟩
  | succ n ih =>
    unfold State.decideUpTo
    split
    · rfl
    · next st hst =>
      exact ih (Nat.le_of_lt_succ
        ((Finset.card_lt_card (State.candidates_granted hst)).trans_le h))

/-! ### A decision as a release row (R60, R61, R72) -/

theorem State.grantTo_eq (s : State) (l : LaneNo) (st : StationNo) : s.grantTo l st =
    (s.setStation st { s.station st with state := .armed }).setLane l
      { s.lane l with grant := some st } := rfl

theorem State.workedPoint_grantTo (s : State) (l : LaneNo) (st : StationNo) :
    (s.grantTo l st).workedPoint l st = s.workedPoint l st := by
  have hlane : (s.grantTo l st).lane l = { s.lane l with grant := some st } := by
    rw [State.grantTo_eq, State.lane_setLane_self]
  have hstation : (s.grantTo l st).station st = { s.station st with state := .armed } :=
    State.station_setStation_self _ _ _
  simp only [State.workedPoint, State.youngest, State.queue, State.lead, hlane, hstation]
  rfl

/-- The grant given and the point worked out: the station ARMED with its lane's grant and point. -/
theorem State.workPoint_grantTo (s : State) (l : LaneNo) (st : StationNo) :
    (s.grantTo l st).workPoint l st = s.granted l st (s.workedPoint l st) := by
  rw [State.workPoint, State.workedPoint_grantTo, State.modLane_eq, State.grantTo_eq,
    State.lane_setLane_self, State.setLane_setLane]
  rfl

theorem State.lane_granted_self (s : State) (l : LaneNo) (st : StationNo) (p : Option Pos) :
    (s.granted l st p).lane l = { s.lane l with grant := some st, releasePoint := p } :=
  State.lane_setLane_self _ _ _

theorem State.station_granted_self (s : State) (l : LaneNo) (st : StationNo) (p : Option Pos) :
    (s.granted l st p).station st = { s.station st with state := .armed } :=
  State.station_setStation_self _ _ _

/-- In an OPEN lane the release test of the station granted is that of the lane. -/
theorem State.testRelease_granted {s : State} {l : LaneNo} (ho : (s.lane l).state = .opened)
    (st : StationNo) (p : Option Pos) : (s.granted l st p).testRelease l =
      ((s.granted l st p).releaseIfMet l st).decideGrant l := by
  have harmed : (s.granted l st p).armedStation l = some st := by
    rw [State.armedStation_eq_some, State.lane_granted_self, State.station_granted_self]
    exact ⟨ho, rfl, rfl⟩
  rw [State.testRelease, harmed]

/-- A decision that gives the grant is the release test of the lane with the station granted. -/
theorem State.decideGrant_of_decided {s : State} {l : LaneNo} {st : StationNo}
    (h : s.decided l = some st) :
    s.decideGrant l = (s.granted l st (s.workedPoint l st)).testRelease l := by
  have hfew : (((s.grantTo l st).workAndTest l st).candidates l).card ≤ 3 := by
    have hlt := Finset.card_lt_card (State.candidates_granted h)
    have hall : (s.candidates l).card ≤ 4 := Finset.card_le_univ _
    omega
  have hstep : s.decideGrant l = ((s.grantTo l st).workAndTest l st).decideUpTo l 3 := by
    rw [State.decideGrant, State.decideUpTo, h]
  obtain ⟨-, -, hopen, -⟩ := State.decided_loaded h
  rw [hstep, ← State.decideUpTo_enough hfew, State.testRelease_granted hopen,
    ← State.workPoint_grantTo]
  rfl

theorem exec_release_of_chosen {s : State} {l : LaneNo} {st : StationNo}
    (hr : s.resetPhase = .running) (ho : (s.lane l).state = .opened)
    (hg : (s.lane l).grant = none) (hc : s.Chosen l st) :
    exec (.release l) (s.granted l st (s.workedPoint l st)) = .next (s.decideGrant l) := by
  rw [exec_release (s := s.granted l st _) hr,
    State.decideGrant_of_decided (State.decided_of_chosen ho hg hc)]

/-! ### A grant given back (R64) -/

/-- A lane with its grant free and no release point. -/
def State.ungranted (s : State) (l : LaneNo) : State :=
  s.setLane l { s.lane l with grant := none, releasePoint := none }

theorem State.lane_ungranted_self (s : State) (l : LaneNo) :
    (s.ungranted l).lane l = { s.lane l with grant := none, releasePoint := none } :=
  State.lane_setLane_self _ _ _

theorem State.chosen_ungranted {s : State} {l : LaneNo} {st : StationNo} :
    (s.ungranted l).Chosen l st ↔ s.Chosen l st := by
  unfold State.Chosen
  rw [State.lane_ungranted_self]
  exact Iff.rfl

theorem State.granted_ungranted (s : State) (l : LaneNo) (st : StationNo) :
    (s.ungranted l).granted l st ((s.ungranted l).workedPoint l st) =
      s.granted l st (s.workedPoint l st) := by
  have hpoint : (s.ungranted l).workedPoint l st = s.workedPoint l st := by
    simp only [State.workedPoint, State.youngest, State.queue, State.lane_ungranted_self]
    rfl
  rw [hpoint, State.granted, State.lane_ungranted_self]
  change ((s.setStation st _).setLane l _).setLane l _ = _
  rw [State.setLane_setLane]
  rfl

theorem State.giveBack_of_holding {s : State} {st : StationNo} {l : LaneNo} (hl : s.laneOf st = l)
    (h : (s.lane l).grant = some st) : s.giveBack st = (s.ungranted l).decideGrant l := by
  subst hl
  exact if_pos (State.holdsGrant_iff.2 h)

theorem State.giveBack_of_not_granted {s : State} {st : StationNo}
    (h : (s.lane (s.laneOf st)).grant ≠ some st) : s.giveBack st = s :=
  State.giveBack_of_not_holding (decide_eq_false h)

/-- With the lane not OPEN or no station LOADED the grant given back stays free. -/
theorem State.decideGrant_ungranted_of_idle {s : State} {l : LaneNo}
    (h : (s.lane l).state ≠ .opened ∨ ∀ su, s.laneOf su = l → (s.station su).state ≠ .loaded) :
    (s.ungranted l).decideGrant l = s.ungranted l := by
  refine State.decideGrant_of_none (h.elim (fun h => State.decided_of_shut ?_) fun h =>
    State.decided_of_noCandidate h)
  rw [State.lane_ungranted_self]
  exact h

theorem exec_release_of_ungranted {s : State} {l : LaneNo} {st : StationNo}
    (hr : s.resetPhase = .running) (ho : (s.lane l).state = .opened)
    (hc : (s.ungranted l).Chosen l st) :
    exec (.release l) ((s.ungranted l).granted l st ((s.ungranted l).workedPoint l st)) =
      .next ((s.ungranted l).decideGrant l) :=
  exec_release_of_chosen (s := s.ungranted l) hr (by rw [State.lane_ungranted_self]; exact ho)
    (by rw [State.lane_ungranted_self]) hc

/-- What a grant given back brings is as `State.GaveBack` has it. -/
theorem State.giveBack_of_gaveBack {s t : State} {st : StationNo} (hr : s.resetPhase = .running)
    (h : (s.lane (s.laneOf st)).grant = some st) (hg : s.GaveBack (s.laneOf st) t) :
    s.giveBack st = t := by
  rw [State.giveBack_of_holding rfl h]
  obtain ⟨_, rfl, ⟨hidle, rfl⟩ | ⟨su, ho, hc, ht⟩⟩ := hg
  · exact State.decideGrant_ungranted_of_idle hidle
  · have hnext := (exec_release_of_ungranted hr ho hc).symm.trans ht
    exact Host.Outcome.next.inj hnext

/-! ### What a grant given back leaves -/

theorem State.ArbiterOnly.queue_prefix {s t : State} {l : LaneNo} {may : StationNo → Prop}
    (h : State.ArbiterOnly l may s t) (m : LaneNo) : s.queue m <+: t.queue m := by
  obtain ⟨hlanes, hqueue, -⟩ := h
  by_cases hm : m = l
  · exact hm ▸ hqueue
  · rw [State.queue, State.queue, hlanes m hm]

/-- A release step leaves the grant with the station or takes it back. -/
theorem State.grant_releaseIfMet (s : State) (l : LaneNo) (st : StationNo) :
    ((s.releaseIfMet l st).lane l).grant = (s.lane l).grant ∨
      ((s.releaseIfMet l st).lane l).grant = none := by
  unfold State.releaseIfMet State.releaseStep
  (repeat' split)
  · next b _ =>
    have hjoin : ((s.joinTail l (s.releasedRecord l st b (s.predictedEntry st))).lane l).grant =
        (s.lane l).grant := by
      rw [State.lane_joinTail, if_pos rfl]
    unfold State.releaseOf Lane.afterRelease
    rw [State.lane_modLane, if_pos rfl, State.lane_setStation]
    cases (s.station st).params.mode
    · exact .inr rfl
    · exact .inl hjoin
  · exact .inl rfl
  · exact .inl rfl

/-- Decisions do not give the grant to a station that is not LOADED. -/
theorem State.grant_decideUpTo {s : State} {l : LaneNo} {st : StationNo}
    (hs : (s.station st).state ≠ .loaded) (hg : (s.lane l).grant ≠ some st) (n : Nat) :
    ((s.decideUpTo l n).lane l).grant ≠ some st := by
  induction n generalizing s with
  | zero => exact hg
  | succ n ih =>
    unfold State.decideUpTo
    split
    · exact hg
    · next su hd =>
      obtain ⟨-, hload, -, -⟩ := State.decided_loaded hd
      have hne : st ≠ su := fun e => hs (e ▸ hload)
      have hstation : ((s.grantTo l su).workAndTest l su).station st = s.station st :=
        ((State.arbiterOnly_workAndTest _ l su).2.2 st hne).trans
          (State.station_setStation_ne _ hne _)
      refine ih (by rw [hstation]; exact hs) ?_
      have hgranted : (((s.grantTo l su).workPoint l su).lane l).grant = some su := by
        rw [State.workPoint_grantTo, State.lane_granted_self]
      rcases ((s.grantTo l su).workPoint l su).grant_releaseIfMet l su with h | h <;>
        rw [State.workAndTest, h]
      · rw [hgranted]
        exact fun e => hne (Option.some.inj e).symm
      · exact Option.some_ne_none st |>.symm

theorem State.arbiterOnly_giveBack (s : State) (st : StationNo) :
    State.ArbiterOnly (s.laneOf st) (fun u => (s.station u).state = .loaded) s (s.giveBack st) := by
  unfold State.giveBack
  split
  · exact (State.arbiterOnly_modLane s _ _ (List.prefix_refl _) _).trans
      ((State.arbiterOnly_decideGrant _ _).mono fun _ h => h.2)
  · exact State.ArbiterOnly.refl _ _ _

theorem State.station_giveBack {s : State} {st su : StationNo}
    (hs : (s.station su).state ≠ .loaded) : (s.giveBack st).station su = s.station su := by
  obtain ⟨-, -, hstations⟩ := s.arbiterOnly_giveBack st
  exact hstations su hs

/-- A station that is not LOADED has no grant once it has given it back. -/
theorem State.grant_giveBack {s : State} {st : StationNo} (hs : (s.station st).state ≠ .loaded) :
    ((s.giveBack st).lane (s.laneOf st)).grant ≠ some st := by
  by_cases h : (s.lane (s.laneOf st)).grant = some st
  · rw [State.giveBack_of_holding rfl h]
    refine State.grant_decideUpTo (s := s.ungranted _) hs ?_ 4
    rw [State.lane_ungranted_self]
    exact (Option.some_ne_none st).symm
  · rw [State.giveBack_of_not_granted h]
    exact h

theorem State.alarms_giveBack (s : State) (st : StationNo) : (s.giveBack st).alarms = s.alarms :=
  congrArg Steady.alarms (s.steady_giveBack st)

theorem State.reports_giveBack (s : State) (st : StationNo) : (s.giveBack st).reports = s.reports :=
  congrArg Steady.reports (s.steady_giveBack st)

end Sys2Proof.Machine
end

section
/-!
PROOFS. Statements O46, O48 and O49: the run-hold test, the pedal and the clamp cycle, each with the
decision of the arbiter that follows it.
-/

namespace Sys2Proof.Machine

/-! ### The run-hold test (R50) -/

theorem State.runHoldOver_iff {s : State} {st : StationNo} : s.runHoldOver st = true ↔
    (s.station st).state = .waiting ∧ (s.station st).params.mode = .run ∧
      (s.lane (s.laneOf st)).grant = some st ∧
      (s.travel - ((s.station st).holdOrigin +
        BitVec.ofNat 32 (s.station st).params.hold)).msb = false := by
  simp only [State.runHoldOver, Bool.and_eq_true, decide_eq_true_eq, State.holdsGrant_iff, atOrPast,
    posAdd, Bool.not_eq_true', and_assoc]

theorem State.testHold_of_over {s : State} {st : StationNo} (h : s.runHoldOver st = true) :
    s.testHold st = s.giveBack st := if_pos h

/-- Settles O46: the test by `State.runHoldOver_iff`, and the decision after it as the release row
of the station chosen. -/
theorem aRunHoldEndsByGivingTheGrantBack : Obligations.ARunHoldEndsByGivingTheGrantBack := by
  rintro st l s hr rfl
  rw [exec_runHoldExpiry hr]
  refine ⟨fun h => ?_, fun hwait hrun hgrant hover => ?_⟩
  · refine congrArg _ (State.testHold_of_not_over (Bool.eq_false_iff.2 fun ho => ?_))
    obtain ⟨hwait, hrun, hgrant, hover⟩ := State.runHoldOver_iff.1 ho
    simp [hwait, hrun, hgrant, hover] at h
  · rw [State.testHold_of_over (State.runHoldOver_iff.2 ⟨hwait, hrun, hgrant, hover⟩)]
    have hload : (s.station st).state ≠ .loaded := by
      rw [hwait]
      decide
    obtain ⟨hlanes, hqueue, hstations⟩ := s.arbiterOnly_giveBack st
    refine ⟨fun h => ?_, fun su ho hc => ?_, s.giveBack st, rfl, State.grant_giveBack hload,
      hstations st hload, hqueue, hlanes, s.alarms_giveBack st, s.reports_giveBack st, hstations⟩
    · rw [State.giveBack_of_holding rfl hgrant, State.decideGrant_ungranted_of_idle h.symm]
      rfl
    · rw [State.giveBack_of_holding rfl hgrant, ← State.granted_ungranted]
      exact (exec_release_of_ungranted hr ho (State.chosen_ungranted.2 hc)).symm

/-! ### The release point (R65 to R69) -/

theorem State.workedPoint_of_empty {s : State} {l : LaneNo} (h : s.queue l = []) (st : StationNo) :
    s.workedPoint l st = none := by
  rw [State.workedPoint, State.youngest, h]
  rfl

theorem State.workedPoint_of_youngest {s : State} {l : LaneNo} {st : StationNo} {b : Batch}
    {y : Record} (hb : (s.station st).current = some b) (hy : (s.queue l).getLast? = some y) :
    s.workedPoint l st = some (y.trailingEdge + BitVec.ofNat 32 (s.requiredGap y b) -
      BitVec.ofNat 32 ((s.station st).params.drop + s.lead st)) := by
  rw [State.workedPoint, State.youngest, hy, hb]
  rfl

theorem Record.trailingEdge_eq (y : Record) : y.trailingEdge =
    match y.te0, y.le0, y.predLe0 with
    | some te, _, _ => te
    | none, some le, _ => le + BitVec.ofNat 32 (y.lnom + y.tol)
    | none, none, some pred => pred + BitVec.ofNat 32 (y.lnom + y.tol)
    | none, none, none => BitVec.ofNat 32 (y.lnom + y.tol) := by
  unfold Record.trailingEdge posAdd
  split <;> simp_all

/-! ### The pedal (R36, R51, R54) -/

theorem exec_pedalEdge {s : State} (hr : s.resetPhase = .running) (st : StationNo) :
    exec (.pedalEdge st) s = .next (s.pedal st) :=
  congrArg Host.Outcome.next (if_pos (decide_eq_true hr))

/-- The station LOADED by its pedal. -/
def State.loadedBy (s : State) (st : StationNo) : State :=
  s.setStation st { s.station st with state := .loaded }

theorem State.pedal_ignored {s : State} {st : StationNo}
    (h : (s.station st).state ≠ .waiting ∨ s.estop = true) : s.pedal st = s := by
  refine if_neg fun ⟨he, hw⟩ => ?_
  simp [he, hw] at h

theorem State.pedal_of_holding {s : State} {st : StationNo} (he : s.estop = false)
    (hw : (s.station st).state = .waiting) (hg : (s.lane (s.laneOf st)).grant = some st) :
    s.pedal st = (s.loadedBy st).armHolder (s.laneOf st) st := by
  rw [State.pedal, if_pos ⟨he, hw⟩, if_pos (State.holdsGrant_iff.2 hg)]
  rfl

theorem State.pedal_of_not_holding {s : State} {st : StationNo} (he : s.estop = false)
    (hw : (s.station st).state = .waiting) (hg : (s.lane (s.laneOf st)).grant ≠ some st) :
    s.pedal st = (s.loadedBy st).decideGrant (s.laneOf st) := by
  rw [State.pedal, if_pos ⟨he, hw⟩, if_neg fun h => hg (State.holdsGrant_iff.1 h)]
  rfl

theorem State.granted_loadedBy (s : State) (l : LaneNo) (st : StationNo) (p : Option Pos) :
    (s.loadedBy st).granted l st p = s.granted l st p := by
  rw [State.granted, State.loadedBy, State.setStation_setStation, State.station_setStation_self]
  rfl

theorem State.workedPoint_loadedBy (s : State) (l : LaneNo) (st : StationNo) :
    (s.loadedBy st).workedPoint l st = s.workedPoint l st := by
  have hstation : (s.loadedBy st).station st = { s.station st with state := .loaded } :=
    State.station_setStation_self _ _ _
  simp only [State.workedPoint, State.lead, hstation]
  rfl

/-- The holder of its lane's grant becomes ARMED, with the release test of its lane (R51). -/
theorem State.armHolder_eq {s : State} {l : LaneNo} {st : StationNo}
    (ho : (s.lane l).state = .opened) (hg : (s.lane l).grant = some st) :
    s.armHolder l st = (s.granted l st (s.workedPoint l st)).testRelease l := by
  have hgranted : s.grantTo l st = s.modStation st fun x => { x with state := .armed } := by
    have hlane : ({ s.lane l with grant := some st } : Lane) = s.lane l := by
      rw [← hg]
    rw [State.grantTo_eq, hlane]
    exact (s.setStation st { s.station st with state := .armed }).setLane_lane l
  rw [State.testRelease_granted ho, ← State.workPoint_grantTo, hgranted]
  rfl

/-- A station granted in an OPEN lane waits with its point, where that is ahead or the pool is
full. -/
theorem State.testRelease_granted_waits {s : State} {l : LaneNo} {st : StationNo} {p : Option Pos}
    (ho : (s.lane l).state = .opened)
    (h : 96 ≤ s.records.length ∨ ∃ q, p = some q ∧ (s.travel - q).msb = true) :
    (s.granted l st p).testRelease l = s.granted l st p := by
  have hrecords : (s.granted l st p).records = s.records :=
    State.records_of_queues fun m => by
      rw [State.granted, State.lane_setLane]
      split
      · next e => rw [e]
      · rfl
  have hunmet : ¬ (s.granted l st p).testMet l = true := by
    rw [State.testMet, Bool.and_eq_true]
    rintro ⟨hpoint, hslot⟩
    rcases h with hfull | ⟨q, rfl, hahead⟩
    · have hlt : (s.granted l st p).records.length < 96 := of_decide_eq_true hslot
      rw [hrecords] at hlt
      omega
    · rw [State.pointReached, State.lane_granted_self] at hpoint
      change (!(s.travel - q).msb) = true at hpoint
      rw [hahead] at hpoint
      cases hpoint
  have hheld : ((s.granted l st p).lane l).grant ≠ none := by
    rw [State.lane_granted_self]
    exact Option.some_ne_none st
  rw [State.testRelease_granted ho, State.releaseIfMet, if_neg hunmet,
    State.decideGrant_of_none (State.decided_of_held hheld)]

/-- The pedal of a station that is alone LOADED in an OPEN lane with a free grant, or that holds the
grant, arms it. -/
theorem State.pedal_arms {s : State} {st : StationNo} (he : s.estop = false)
    (hw : (s.station st).state = .waiting) (ho : (s.lane (s.laneOf st)).state = .opened)
    (h : ((s.lane (s.laneOf st)).grant = none ∧
        (s.params.mode = .fixed ∨ st ∈ (s.lane (s.laneOf st)).order) ∧
        ∀ su, s.laneOf su = s.laneOf st → (s.station su).state ≠ .loaded) ∨
      (s.lane (s.laneOf st)).grant = some st) :
    s.pedal st = (s.granted (s.laneOf st) st (s.workedPoint (s.laneOf st) st)).testRelease
      (s.laneOf st) := by
  rcases h with ⟨hfree, hmode, hnone⟩ | hg
  · have hchosen : (s.loadedBy st).Chosen (s.laneOf st) st := by
      refine State.chosen_of_alone rfl ?_ hmode fun su hsu hof => ?_
      · rw [State.loadedBy, State.station_setStation_self]
      · rw [State.loadedBy, State.station_setStation_ne _ hsu]
        exact hnone su hof
    rw [State.pedal_of_not_holding he hw (by rw [hfree]; exact (Option.some_ne_none st).symm),
      State.decideGrant_of_decided (State.decided_of_chosen (s := s.loadedBy st) ho hfree hchosen),
      State.granted_loadedBy, State.workedPoint_loadedBy]
  · rw [State.pedal_of_holding he hw hg, State.armHolder_eq (s := s.loadedBy st) ho hg,
      State.granted_loadedBy, State.workedPoint_loadedBy]

/-- Settles O48: the release point by its working, and the pedal by the holder of the grant and the
station chosen. -/
theorem aPedalEdgeLoadsOrArmsAStation : Obligations.APedalEdgeLoadsOrArmsAStation := by
  rintro st l x s rfl
  refine ⟨fun h => State.workedPoint_of_empty h st, ?_, ?_⟩
  · rintro b y te gap lead hb hy rfl rfl rfl
    rw [State.workedPoint_of_youngest hb hy, y.trailingEdge_eq]
    rfl
  · rintro hr rfl
    refine ⟨fun h => ?_, fun hw he => ⟨fun hg h => ?_, ?_, fun ho h b p _ hp => ?_⟩⟩
    · rw [exec_pedalEdge hr, State.pedal_ignored h]
    · rw [exec_pedalEdge hr, State.pedal_of_not_holding he hw hg]
      exact congrArg _ (State.decideGrant_of_none (s := s.loadedBy st)
        (h.elim (fun h => State.decided_of_shut h) fun h => State.decided_of_held h))
    · rintro _ su rfl ho hfree hc
      rw [exec_pedalEdge hr, State.pedal_of_not_holding he hw
        (by rw [hfree]; exact (Option.some_ne_none st).symm)]
      exact (exec_release_of_chosen (s := s.loadedBy st) hr ho hfree hc).symm
    · rw [exec_pedalEdge hr, State.pedal_arms he hw ho h, ← hp]
      exact ⟨fun h => congrArg _ (State.testRelease_granted_waits ho h),
        fun _ _ => (exec_release (s := s.granted _ st p) hr _).symm⟩

/-! ### The clamp cycle (R38 to R40) -/

theorem exec_openTimeExpiry {s : State} (hr : s.resetPhase = .running) (st : StationNo) :
    exec (.openTimeExpiry st) s = .next (s.openTimeOver st) :=
  congrArg Host.Outcome.next (if_pos (decide_eq_true hr))

theorem exec_dwellExpiry {s : State} (hr : s.resetPhase = .running) (st : StationNo) :
    exec (.dwellExpiry st) s = .next (s.dwellOver st) :=
  congrArg Host.Outcome.next (if_pos (decide_eq_true hr))

theorem exec_returnTimeExpiry {s : State} (hr : s.resetPhase = .running) (st : StationNo) :
    exec (.returnTimeExpiry st) s = .next (s.returnTimeOver st) :=
  congrArg Host.Outcome.next (if_pos (decide_eq_true hr))

theorem Station.promote_eq (x : Station) : x.promote =
    { x with current := x.next, next := none,
             state := if x.next = none then .noBatch else .waiting } := by
  unfold Station.promote
  cases x.next <;> rfl

theorem Station.promote_not_loaded (x : Station) : x.promote.state ≠ .loaded := by
  rw [x.promote_eq]
  change (if x.next = none then StationState.noBatch else .waiting) ≠ .loaded
  split <;> decide

/-- A batch ended: its station has moved on to another value, and BATCH_END is offered (R43). -/
def State.ended (s : State) (st : StationNo) (x : Station) (r : Report) : State :=
  (s.setStation st x).offer r

theorem State.ended_eq (s : State) (st : StationNo) (x : Station) (r : Report) : s.ended st x r =
    { s.setStation st x with
      reports := s.reports.offered r,
      attn := s.alarms.current.isSome ||
        (s.params.attention && !(s.reports.offered r).queue.isEmpty) } := State.offer_eq _ _

section

variable {s : State} {st : StationNo} {x : Station} {r : Report}

theorem State.station_ended : (s.ended st x r).station st = x := by
  rw [State.ended_eq]
  exact State.station_setStation_self _ _ _

/-- What the grant given back at the end of a batch leaves: the station moved on, the reports and
alarms, and every queue but for records that join its tail. -/
theorem State.ended_giveBack (hx : x.state ≠ .loaded) :
    ((s.ended st x r).giveBack st).station st = x ∧
      ((s.ended st x r).giveBack st).reports = (s.ended st x r).reports ∧
      ((s.ended st x r).giveBack st).alarms = s.alarms ∧
      (∀ m, s.queue m <+: ((s.ended st x r).giveBack st).queue m) ∧
      (((s.ended st x r).giveBack st).lane (s.laneOf st)).grant ≠ some st := by
  have hload : ((s.ended st x r).station st).state ≠ .loaded := by
    rw [State.station_ended]
    exact hx
  have hgrant := State.grant_giveBack hload
  refine ⟨(State.station_giveBack hload).trans State.station_ended, State.reports_giveBack _ _,
    (State.alarms_giveBack _ _).trans ?_, fun m => ?_, ?_⟩
  · rw [State.ended_eq]
    rfl
  · have hqueue := ((s.ended st x r).arbiterOnly_giveBack st).queue_prefix m
    rwa [show (s.ended st x r).queue m = s.queue m by rw [State.ended_eq]; rfl] at hqueue
  · rwa [show (s.ended st x r).laneOf st = s.laneOf st by rw [State.ended_eq]; rfl] at hgrant

theorem State.ended_giveBack_of_free (hg : (s.lane (s.laneOf st)).grant ≠ some st) :
    (s.ended st x r).giveBack st = s.ended st x r := by
  refine State.giveBack_of_not_granted ?_
  rw [State.ended_eq]
  exact hg

theorem State.ended_giveBack_of_gaveBack {t : State} (hr : s.resetPhase = .running)
    (hg : (s.lane (s.laneOf st)).grant = some st) (h : (s.ended st x r).GaveBack (s.laneOf st) t) :
    (s.ended st x r).giveBack st = t := by
  have hlane : (s.ended st x r).laneOf st = s.laneOf st := by
    rw [State.ended_eq]
    rfl
  refine State.giveBack_of_gaveBack ?_ ?_ (hlane ▸ h) <;> rw [State.ended_eq]
  · exact hr
  · exact hg

end

section

variable {s : State} {st : StationNo} {b : Batch}

theorem State.returnTimeOver_waits (hs : (s.station st).state = .returning)
    (hb : (s.station st).current = some b) (hr : 0 < b.remaining) : s.returnTimeOver st =
      (s.setStation st { (s.station st).atRest with state := .waiting }).testHold st := by
  rw [State.returnTimeOver, if_pos hs, State.modStation_eq, State.afterClampCycle,
    State.station_setStation_self, show (s.station st).atRest.current = some b from hb]
  simp only [gt_iff_lt, hr, if_true, State.enterWaiting, State.modStation_eq,
    State.station_setStation_self, State.setStation_setStation]

theorem State.returnTimeOver_finishes (hs : (s.station st).state = .returning)
    (hb : (s.station st).current = some b) (hr : b.remaining = 0)
    (ho : 0 < (s.station st).outstanding) : s.returnTimeOver st =
      s.setStation st { (s.station st).atRest with state := .finishing } := by
  rw [State.returnTimeOver, if_pos hs, State.modStation_eq, State.afterClampCycle,
    State.station_setStation_self, show (s.station st).atRest.current = some b from hb]
  simp only [gt_iff_lt, hr, Nat.lt_irrefl, if_false,
    show 0 < (s.station st).atRest.outstanding from ho, if_true, State.modStation_eq,
    State.station_setStation_self, State.setStation_setStation]

theorem State.returnTimeOver_completes (hs : (s.station st).state = .returning)
    (hb : (s.station st).current = some b) (hr : b.remaining = 0)
    (ho : (s.station st).outstanding = 0) : s.returnTimeOver st =
      (s.ended st (s.station st).atRest.promote
        (.batchEnd st b.id b.pieces b.pieces false)).giveBack st := by
  have hrest : (s.setStation st (s.station st).atRest).station st = (s.station st).atRest :=
    State.station_setStation_self _ _ _
  rw [State.returnTimeOver, if_pos hs, State.modStation_eq, State.afterClampCycle, hrest,
    show (s.station st).atRest.current = some b from hb]
  simp only [gt_iff_lt, hr, Nat.lt_irrefl, if_false,
    show (s.station st).atRest.outstanding = 0 from ho]
  rw [State.completeBatch_eq (b := b) false (by rw [hrest]; exact hb), hrest, hr,
    State.offer_setStation, State.setStation_setStation, State.ended, State.offer_setStation]
  rfl

end

/-- Settles O49: each row by the branch of its own state, and the end of the last by the batch's
counts. -/
theorem theClampCycleRunsOn : Obligations.TheClampCycleRunsOn := by
  rintro st x s hr rfl
  refine ⟨fun h => ?_, fun h => ?_, fun b hs hb => ?_⟩
  · rw [exec_openTimeExpiry hr, State.openTimeOver, if_pos h]
    rfl
  · rw [exec_dwellExpiry hr, State.dwellOver, if_pos h]
    rfl
  · rw [exec_returnTimeExpiry hr]
    refine ⟨fun hleft => ?_, fun hnone hout => ?_, fun hnone hout => ?_⟩
    · rw [State.returnTimeOver_waits hs hb hleft]
      refine ⟨fun h => ?_, fun _ _ _ => ?_⟩
      · refine congrArg _ (State.testHold_of_not_over (Bool.eq_false_iff.2 fun hover => ?_))
        rw [State.runHoldOver_iff, State.station_setStation_self] at hover
        obtain ⟨-, hrun, hgrant, hpast⟩ := hover
        rcases h with h | h | h
        · exact absurd (h.symm.trans hrun) (by decide)
        · exact h hgrant
        · exact absurd (h.symm.trans hpast) (by decide)
      · exact (exec_runHoldExpiry (s := s.setStation st _) hr st).symm
    · rw [State.returnTimeOver_finishes hs hb hnone hout]
      rfl
    · rw [State.returnTimeOver_completes hs hb hnone hout]
      obtain ⟨hstation, hreports, halarms, hqueue, hgrant⟩ :=
        State.ended_giveBack (s := s) (st := st) (r := .batchEnd st b.id b.pieces b.pieces false)
          (s.station st).atRest.promote_not_loaded
      exact ⟨_, _, by rw [Station.promote_eq]; rfl, rfl, hstation.trans State.station_ended.symm,
        hreports, halarms, hqueue, hgrant, State.ended_giveBack_of_free,
        fun h g hg => congrArg _ (State.ended_giveBack_of_gaveBack hr h hg)⟩

end Sys2Proof.Machine
end

section
/-!
PROOFS. Statements O12 and O15: the requests that read, and STATION_SET with the grant it gives
back.
-/

namespace Sys2Proof.Machine

/-! ### Requests that read (R57, R94, R159, R166) -/

/-- The row of a request the unit takes leaves what answering it gives. -/
theorem next_request {s t : State} (hr : s.Ready) {code : Byte} {f : State → Answer}
    (h : State.respond code (f s) = t) :
    (.next (s.request code f) : Host.Outcome State Fault Refusal) = .next t :=
  congrArg Host.Outcome.next ((State.request_ready code hr f).trans h)

/-- A request whose operand names nothing is refused with BAD_VALUE (R32). -/
theorem State.respond_withOperand_none {α : Type} {x : Option α} (h : x = none) (code : Byte)
    (s : State) (f : α → Answer) :
    State.respond code (withOperand x s f) = s.answered code .badValue [] false := by
  rw [withOperand_none s h]
  exact State.respond_refuse s code (by decide)

/-- A request whose operand names something, carried out with no value clamped. -/
theorem State.respond_withOperand_some {α : Type} {x : Option α} {a : α} (h : x = some a)
    {code : Byte} (hc : code ≠ codeUnitReset) {s t : State} {data : List Byte} {f : α → Answer}
    (hf : f a = carryOut false data t) :
    State.respond code (withOperand x s f) = t.answered code .ok data false := by
  rw [withOperand_some s h, hf]
  exact State.respond_carryOut t code hc false data

/-- Settles O12: each reading request is answered with its data from the state as it stands, or
refused where its operand names no lane or station. -/
theorem readingRequestsAnswerAndChangeNothing :
    Obligations.ReadingRequestsAnswerAndChangeNothing := by
  intro s hr
  refine ⟨?_, ?_, fun b start l hb => ?_, fun b st hb => ?_, fun b l hb => ?_,
    fun b hb => ⟨fun start => ?_, ?_, ?_⟩⟩
  · exact next_request hr (State.respond_carryOut s codePoll (by decide) false _)
  · exact next_request hr (State.respond_carryOut s codeAlarmRead (by decide) false _)
  · exact next_request hr (State.respond_withOperand_some (laneOperand_val hb) (by decide) rfl)
  · exact next_request hr (State.respond_withOperand_some (stationOperand_val hb) (by decide) rfl)
  · exact next_request hr (State.respond_withOperand_some (laneOperand_val hb) (by decide) rfl)
  · exact next_request hr (State.respond_withOperand_none (laneOperand_none hb) _ s _)
  · exact next_request hr (State.respond_withOperand_none (stationOperand_none hb) _ s _)
  · exact next_request hr (State.respond_withOperand_none (laneOperand_none hb) _ s _)

/-! ### The operands of STATION_SET (R55) -/

theorem feedModeOperand_code {b : Byte} {m : FeedMode}
    (h : b.toNat = match m with
      | .single => 0
      | .run => 1) : feedModeOperand b = some m := by
  cases m
  · have hb : b = 0 := BitVec.eq_of_toNat_eq h
    rw [hb]
    rfl
  · have hb : b = 1 := BitVec.eq_of_toNat_eq h
    rw [hb]
    rfl

theorem feedModeOperand_none {b : Byte} (h : 2 ≤ b.toNat) : feedModeOperand b = none := by
  unfold feedModeOperand
  rw [if_neg (by rintro rfl; simp at h), if_neg (by rintro rfl; simp at h)]

theorem stationParamsOf_eq (o : StationOperands) (m : FeedMode) : stationParamsOf o m =
    { drop := min o.drop.toNat 5000, openMs := max 10 (min o.openMs.toNat 2000),
      dwellMs := o.dwellMs.toNat, returnMs := max 10 (min o.returnMs.toNat 5000),
      mode := m, hold := min o.hold.toNat 20000 } := by
  simp only [stationParamsOf, clampTo, Nat.zero_max]

theorem stationClamps_iff (o : StationOperands) : stationClamps o = false ↔
    (o.drop.toNat ≤ 5000 ∧ 10 ≤ o.openMs.toNat ∧ o.openMs.toNat ≤ 2000 ∧
      10 ≤ o.returnMs.toNat ∧ o.returnMs.toNat ≤ 5000 ∧ o.hold.toNat ≤ 20000) := by
  simp only [stationClamps, needsClamp, Bool.or_eq_false_iff, decide_eq_false_iff_not]
  omega

theorem StationState.idle_iff (x : StationState) : x.idle = true ↔ x = .noBatch ∨ x = .waiting := by
  cases x <;> decide

theorem exec_stationSet {o : StationOperands} {s : State} (hr : s.Ready) :
    exec (.stationSet o) s = .next (State.respond codeStationSet (answerStationSet o s)) :=
  congrArg Host.Outcome.next (State.request_ready codeStationSet hr (answerStationSet o))

theorem answerStationSet_badOperand {o : StationOperands} (s : State)
    (h : 4 ≤ o.station.toNat ∨ 2 ≤ o.mode.toNat) : answerStationSet o s = refuse .badValue s := by
  unfold answerStationSet
  rcases h with h | h
  · rw [stationOperand_none h]
  · rw [feedModeOperand_none h]
    cases stationOperand o.station <;> rfl

theorem answerStationSet_operands {o : StationOperands} {st : StationNo} {m : FeedMode}
    (hst : stationOperand o.station = some st) (hm : feedModeOperand o.mode = some m) (s : State) :
    answerStationSet o s =
      if (s.station st).state.idle then
        carryOut (stationClamps o) [] (s.writeStation st (stationParamsOf o m))
      else refuse .busy s := by
  rw [answerStationSet, hst, hm]

/-! ### The parameters written, and the grant given back (R50, R56) -/

/-- A station with its parameters written. -/
def State.withParams (s : State) (st : StationNo) (p : StationParams) : State :=
  s.setStation st { s.station st with params := p }

/-- What asks for the grant back once the parameters are written: SINGLE mode, or a hold that is
over (R50, R56). -/
def State.endsGrant (s : State) (st : StationNo) (p : StationParams) : Prop :=
  p.mode = .single ∨ ((s.station st).state = .waiting ∧
    (s.travel - ((s.station st).holdOrigin + BitVec.ofNat 32 p.hold)).msb = false)

section

variable {s : State} {st : StationNo} {p : StationParams}

theorem State.station_withParams :
    (s.withParams st p).station st = { s.station st with params := p } :=
  State.station_setStation_self _ _ _

theorem State.state_withParams (su : StationNo) :
    ((s.withParams st p).station su).state = (s.station su).state := by
  rw [State.withParams, State.station_setStation]
  split
  · next e => rw [e]
  · rfl

/-- The grant goes back where the station has it and its parameters ask for it. -/
theorem State.writeStation_of_ends (h : s.endsGrant st p) :
    s.writeStation st p = (s.withParams st p).giveBack st := by
  unfold State.writeStation
  split
  · rfl
  · next hm =>
    obtain ⟨hwait, hover⟩ := h.resolve_left (by rw [hm]; decide)
    by_cases hg : (s.lane (s.laneOf st)).grant = some st
    · refine State.testHold_of_over (s := s.withParams st p) (State.runHoldOver_iff.2 ?_)
      rw [State.station_withParams]
      exact ⟨hwait, hm, hg, hover⟩
    · rw [State.giveBack_of_not_granted (s := s.withParams st p) hg]
      refine State.testHold_of_not_over (s := s.withParams st p) (Bool.eq_false_iff.2 fun ho => ?_)
      obtain ⟨-, -, hgrant, -⟩ := State.runHoldOver_iff.1 ho
      exact hg hgrant

theorem State.writeStation_of_not_ends (h : ¬ s.endsGrant st p) :
    s.writeStation st p = s.withParams st p := by
  unfold State.writeStation
  split
  · next hm => exact absurd (.inl hm) h
  · refine State.testHold_of_not_over (s := s.withParams st p) (Bool.eq_false_iff.2 fun ho => ?_)
    rw [State.runHoldOver_iff, State.station_withParams] at ho
    obtain ⟨hwait, -, -, hover⟩ := ho
    exact h (.inr ⟨hwait, hover⟩)

theorem State.not_endsGrant_of_run (hm : p.mode = .run)
    (h : (s.station st).state = .noBatch ∨
      (s.travel - ((s.station st).holdOrigin + BitVec.ofNat 32 p.hold)).msb = true) :
    ¬ s.endsGrant st p := by
  rintro (hs | ⟨hwait, hover⟩)
  · exact absurd (hs.symm.trans hm) (by decide)
  · simp [hwait, hover] at h

theorem State.writeStation_of_holding (hg : (s.lane (s.laneOf st)).grant = some st)
    (h : s.endsGrant st p) : s.writeStation st p =
      ((s.withParams st p).ungranted (s.laneOf st)).decideGrant (s.laneOf st) := by
  rw [State.writeStation_of_ends h]
  exact State.giveBack_of_holding (s := s.withParams st p) rfl hg

/-- The grant given back finds no station to go to. -/
theorem State.writeStation_of_idle (hg : (s.lane (s.laneOf st)).grant = some st)
    (h : s.endsGrant st p) (hidle : (s.lane (s.laneOf st)).state ≠ .opened ∨
      ∀ su, s.laneOf su = s.laneOf st → (s.station su).state ≠ .loaded) :
    s.writeStation st p = (s.withParams st p).ungranted (s.laneOf st) := by
  rw [State.writeStation_of_holding hg h]
  refine State.decideGrant_ungranted_of_idle (s := s.withParams st p) ?_
  simp only [State.state_withParams]
  exact hidle

theorem State.writeStation_cases : s.writeStation st p = s.withParams st p ∨
    s.writeStation st p = (s.withParams st p).giveBack st := by
  by_cases h : s.endsGrant st p
  · exact .inr (State.writeStation_of_ends h)
  · exact .inl (State.writeStation_of_not_ends h)

theorem State.writeStation_of_free (hg : (s.lane (s.laneOf st)).grant ≠ some st) :
    s.writeStation st p = s.withParams st p := by
  rcases State.writeStation_cases (s := s) (st := st) (p := p) with h | h
  · exact h
  · rw [h, State.giveBack_of_not_granted (s := s.withParams st p) hg]

/-- Neither the write nor the decisions after it touch another station's parameters, or what no
arbiter writes. -/
theorem State.writeStation_frame : (s.writeStation st p).kept = s.kept ∧
    (s.writeStation st p).steady = (s.withParams st p).steady := by
  rcases State.writeStation_cases (s := s) (st := st) (p := p) with h | h <;> rw [h]
  · exact ⟨rfl, rfl⟩
  · exact ⟨State.kept_giveBack _ _, State.steady_giveBack _ _⟩

theorem State.station_writeStation (hs : (s.station st).state ≠ .loaded) :
    (s.writeStation st p).station st = { s.station st with params := p } := by
  rw [← State.station_withParams]
  rcases State.writeStation_cases (s := s) (st := st) (p := p) with h | h <;> rw [h]
  refine State.station_giveBack ?_
  rw [State.station_withParams]
  exact hs

end

/-- Settles O15: the operands by their own lemmas, the grant kept or given back by
`State.endsGrant`, and the decision as the release row of the station chosen. -/
theorem stationSetWritesAStationsParameters : Obligations.StationSetWritesAStationsParameters := by
  intro o s hready
  have hrunning : s.resetPhase = .running := hready.1
  have hexec := exec_stationSet (o := o) hready
  refine ⟨fun h => ?_, ?_⟩
  · rw [hexec, answerStationSet_badOperand s h]
    exact congrArg _ (State.respond_refuse s _ (by decide))
  · rintro st _ m p r hst rfl hm hp rfl
    rw [answerStationSet_operands (stationOperand_val hst) (feedModeOperand_code hm),
      stationParamsOf_eq, ← hp] at hexec
    have hmode : p.mode = m := by rw [hp]
    refine ⟨fun ⟨hno, hwait⟩ => ?_, fun hidle => ?_⟩
    · rw [hexec, if_neg fun h => ((StationState.idle_iff _).1 h).elim hno hwait]
      exact congrArg _ (State.respond_refuse s _ (by decide))
    rw [if_pos ((StationState.idle_iff _).2 hidle), State.respond_carryOut _ _ (by decide),
      clampedResult_eq (stationClamps_iff o)] at hexec
    have hload : (s.station st).state ≠ .loaded := by
      rcases hidle with h | h <;> rw [h] <;> decide
    rw [hexec, ← hmode]
    refine ⟨fun h => ?_, fun hg hends v hv => ?_, s.writeStation st p, rfl, ?_⟩
    · rcases h with hg | ⟨hrun, hhold⟩
      · rw [State.writeStation_of_free hg]
        rfl
      · rw [State.writeStation_of_not_ends (State.not_endsGrant_of_run hrun hhold)]
        rfl
    · obtain rfl : v = (s.withParams st p).ungranted (s.laneOf st) := hv
      refine ⟨fun hidle => ?_, fun su ho hc => ?_⟩
      · rw [State.writeStation_of_idle hg hends hidle]
        rfl
      · rw [State.writeStation_of_holding hg hends]
        exact ⟨_, exec_release_of_ungranted (s := s.withParams st p) hrunning ho hc, rfl⟩
    · obtain ⟨hkept, hsteady⟩ := State.writeStation_frame (s := s) (st := st) (p := p)
      have hstation := State.station_writeStation (p := p) hload
      refine ⟨by rw [hstation], by rw [hstation], fun hends => ?_, fun su hsu => ?_,
        congrArg Kept.params hkept, congrArg Kept.classes hkept, congrArg Kept.travel hkept,
        congrArg Steady.alarms hsteady, congrArg Steady.reports hsteady, congrArg Kept.link hkept⟩
      · rw [State.writeStation_of_ends hends]
        refine State.grant_giveBack (s := s.withParams st p) ?_
        rw [State.state_withParams]
        exact hload
      · have hother := congrArg StationSteady.params (State.steady_station hsteady su)
        rwa [State.withParams, State.station_setStation_ne _ hsu] at hother

end Sys2Proof.Machine
end

section
/-!
PROOFS. Statements O23 and O24: BATCH_LOAD and BATCH_CANCEL on every operand.
-/

namespace Sys2Proof.Machine

/-! ### BATCH_LOAD (R41, R42) -/

theorem batchOf_eq (o : BatchOperands) (c : ClassNo) : batchOf o c =
    { id := o.id.toNat, cls := c, pieces := max 1 (min o.pieces.toNat 9999),
      remaining := max 1 (min o.pieces.toNat 9999),
      foldOverride := if o.fold.toNat = 0 then none else some (min o.fold.toNat 7) } := by
  have hfold : (if o.fold = 0 then none else some (clampTo 1 7 o.fold.toNat)) =
      if o.fold.toNat = 0 then none else some (min o.fold.toNat 7) := by
    have hzero : o.fold = 0 ↔ o.fold.toNat = 0 :=
      ⟨fun h => by rw [h]; rfl, fun h => BitVec.eq_of_toNat_eq h⟩
    simp only [hzero]
    split
    · rfl
    · unfold clampTo
      congr 1
      omega
  rw [batchOf, hfold]
  rfl

theorem batchClamps_iff (o : BatchOperands) : batchClamps o = false ↔
    (1 ≤ o.pieces.toNat ∧ o.pieces.toNat ≤ 9999 ∧ o.fold.toNat ≤ 7) := by
  simp only [batchClamps, needsClamp, Bool.or_eq_false_iff, decide_eq_false_iff_not]
  omega

theorem Station.load_of_empty {x : Station} (h : x.current = none) (b : Batch) :
    x.load b = { x with current := some b, state := .waiting } ∧ x.loadSlot = 0 := by
  rw [Station.load, Station.loadSlot, h]
  exact ⟨rfl, rfl⟩

theorem Station.load_of_filled {x : Station} (h : x.current ≠ none) (b : Batch) :
    x.load b = { x with next := some b } ∧ x.loadSlot = 1 := by
  refine ⟨?_, if_pos (Option.isSome_iff_ne_none.2 h)⟩
  unfold Station.load
  split
  · next hnone => exact absurd hnone h
  · rfl

theorem answerBatchLoad_badOperand {o : BatchOperands} (s : State)
    (h : 4 ≤ o.station.toNat ∨ o.id.toNat = 0 ∨ o.cls.toNat = 0 ∨ 16 ≤ o.cls.toNat) :
    answerBatchLoad o s = refuse .badValue s := by
  unfold answerBatchLoad
  rcases h with h | h | h
  · rw [stationOperand_none h]
  · have hid : o.id = 0 := BitVec.eq_of_toNat_eq h
    split
    · exact if_neg fun h => h.1 hid
    · rfl
  · rw [classOperand_none h]
    cases stationOperand o.station <;> rfl

section

variable {o : BatchOperands} {st : StationNo} {c : ClassNo} {s : State}

theorem answerBatchLoad_operands (hst : stationOperand o.station = some st)
    (hc : classOperand o.cls = some c) (hid : o.id.toNat ≠ 0) : answerBatchLoad o s =
      if (s.classEntry c).valid then answerLoadTested st (batchOf o c) (batchClamps o) s
      else refuse .badValue s := by
  have hne : o.id ≠ 0 := fun h => hid (by rw [h]; rfl)
  rw [answerBatchLoad, hst, hc]
  simp only [ne_eq, hne, not_false_eq_true, true_and]

variable {b : Batch} {x : Bool}

theorem answerLoadTested_unfit (h : ¬ s.Fits b.cls) :
    answerLoadTested st b x s = refuse .state s :=
  if_neg fun hf => h (State.fitsPlans_iff.1 hf)

theorem answerLoadTested_current (h : s.Fits b.cls) (hc : (s.station st).current = none) :
    answerLoadTested st b x s = carryOut x [0]
      (s.setStation st { s.station st with current := some b, state := .waiting }) := by
  obtain ⟨hload, hslot⟩ := Station.load_of_empty hc b
  rw [answerLoadTested, if_pos (State.fitsPlans_iff.2 h), if_neg (by simp [hc]),
    State.modStation_eq, hload, hslot]

theorem answerLoadTested_next (h : s.Fits b.cls) (hc : (s.station st).current ≠ none)
    (hn : (s.station st).next = none) : answerLoadTested st b x s = carryOut x [1]
      (s.setStation st { s.station st with next := some b }) := by
  obtain ⟨hload, hslot⟩ := Station.load_of_filled hc b
  rw [answerLoadTested, if_pos (State.fitsPlans_iff.2 h), if_neg (by simp [hn]),
    State.modStation_eq, hload, hslot]

theorem answerLoadTested_full (h : s.Fits b.cls) (hc : (s.station st).current ≠ none)
    (hn : (s.station st).next ≠ none) : answerLoadTested st b x s = refuse .full s := by
  rw [answerLoadTested, if_pos (State.fitsPlans_iff.2 h)]
  exact if_pos ⟨Option.isSome_iff_ne_none.2 hc, Option.isSome_iff_ne_none.2 hn⟩

end

/-- Settles O23: the operands by their own lemmas, then the tests of the load in their order. -/
theorem batchLoadFillsASlot : Obligations.BatchLoadFillsASlot := by
  intro o s hr
  refine ⟨fun h => next_request hr ?_, ?_⟩
  · rw [answerBatchLoad_badOperand s h]
    exact State.respond_refuse s _ (by decide)
  · rintro st c b r hst hc h0 hid hb rfl
    have hanswer := answerBatchLoad_operands (s := s) (stationOperand_val hst)
      (classOperand_val hc h0) hid
    rw [s.classEntry_of_ne_zero h0, batchOf_eq, ← hb] at hanswer
    have hcls : b.cls = c := by rw [hb]
    rw [← clampedResult_eq (batchClamps_iff o)]
    refine ⟨fun hinvalid => next_request hr ?_, fun hvalid => ⟨fun hunfit => next_request hr ?_,
      fun hnow hnext => ?_⟩⟩
    · rw [hanswer, hinvalid]
      exact State.respond_refuse s _ (by decide)
    · rw [hanswer, if_pos hvalid, answerLoadTested_unfit]
      · exact State.respond_refuse s _ (by decide)
      · rw [hcls]
        rintro ⟨hfit, hfits⟩
        rcases hunfit with h | ⟨pair, hpair, h⟩
        · exact absurd (h.symm.trans hfit) (by decide)
        · exact absurd (h.symm.trans (hfits pair hpair)) (by decide)
    · have hfits : s.Fits b.cls := hcls ▸ ⟨hnow, hnext⟩
      rw [if_pos hvalid] at hanswer
      refine ⟨fun hcur => next_request hr ?_, fun hcur hslot => next_request hr ?_,
        fun hcur hslot => next_request hr ?_⟩
      · rw [hanswer, answerLoadTested_current hfits hcur]
        exact State.respond_carryOut _ _ (by decide) _ _
      · rw [hanswer, answerLoadTested_next hfits hcur hslot]
        exact State.respond_carryOut _ _ (by decide) _ _
      · rw [hanswer, answerLoadTested_full hfits hcur hslot]
        exact State.respond_refuse s _ (by decide)

/-! ### BATCH_CANCEL (R44 to R46) -/

theorem wordOf_eq (n : Nat) : wordOf n = [BitVec.ofNat 8 (n / 256), BitVec.ofNat 8 n] := by
  have hhigh : (BitVec.ofNat 16 n).extractLsb' 8 8 = BitVec.ofNat 8 (n / 256) := by
    apply BitVec.eq_of_toNat_eq
    simp only [BitVec.extractLsb'_toNat, BitVec.toNat_ofNat, Nat.shiftRight_eq_div_pow]
    omega
  have hlow : (BitVec.ofNat 16 n).extractLsb' 0 8 = BitVec.ofNat 8 n := by
    apply BitVec.eq_of_toNat_eq
    simp only [BitVec.extractLsb'_toNat, BitVec.toNat_ofNat, Nat.shiftRight_zero]
    omega
  rw [wordOf, bytes2, hhigh, hlow]

/-- The report and the state of a batch cancelled, before its grant goes back (R43, R45). -/
theorem State.completeBatch_cancelled {s : State} {st : StationNo} {b : Batch}
    (hb : (s.station st).current = some b) (c : Bool) : s.completeBatch st c =
      (s.ended st (s.station st).promote
        (.batchEnd st b.id b.pieces (b.pieces - b.remaining) c)).giveBack st := by
  rw [State.completeBatch_eq c hb, State.ended, State.offer_setStation]

/-- The states in which BATCH_CANCEL of CURRENT is carried out (R45). -/
def StationState.Cancels (x : StationState) : Prop := x = .waiting ∨ x = .loaded ∨ x = .armed

theorem respond_cancelCurrent {a : Byte} {s : State} {st : StationNo} {b : Batch}
    (ha : stationOperand a = some st) (hs : (s.station st).state.Cancels)
    (hb : (s.station st).current = some b) :
    State.respond codeBatchCancel (answerBatchCancelCurrent a s) =
      (s.completeBatch st true).answered 0x21 .ok
        [BitVec.ofNat 8 (b.id / 256), BitVec.ofNat 8 b.id] false := by
  refine State.respond_withOperand_some ha (by decide) ?_
  rw [← wordOf_eq]
  rcases hs with h | h | h <;> rw [h, hb] <;> rfl

/-- Settles O24: of NEXT, the slot cleared; of CURRENT, the refusals by the station's state, and the
batch ended with the grant given back. -/
theorem batchCancelClearsASlot : Obligations.BatchCancelClearsASlot := by
  intro a s hr
  refine ⟨fun h => ⟨next_request hr (State.respond_withOperand_none (stationOperand_none h) _ s _),
    next_request hr (State.respond_withOperand_none (stationOperand_none h) _ s _)⟩,
    fun st ha => ?_⟩
  have hst := stationOperand_val ha
  refine ⟨fun hn => next_request hr ?_, fun b hn => next_request hr ?_,
    fun hs => next_request hr ?_, fun hs => next_request hr ?_, fun b hs hb => ?_⟩
  · have hclear : ({ s.station st with next := none } : Station) = s.station st := by
      rw [← hn]
    refine State.respond_withOperand_some hst (by decide) ?_
    rw [hn, State.modStation_eq, hclear, State.setStation_station, slotId, wordOf_eq]
    rfl
  · refine State.respond_withOperand_some hst (by decide) ?_
    rw [hn, ← wordOf_eq]
    rfl
  · rw [answerBatchCancelCurrent, withOperand_some s hst, hs]
    exact State.respond_refuse s _ (by decide)
  · rw [answerBatchCancelCurrent, withOperand_some s hst]
    rcases hs with h | h | h | h <;> rw [h] <;> exact State.respond_refuse s _ (by decide)
  · have hrespond := respond_cancelCurrent hst hs hb
    rw [State.completeBatch_cancelled hb true] at hrespond
    have hrunning : s.resetPhase = .running := hr.1
    obtain ⟨hstation, hreports, halarms, hqueue, hgrant⟩ :=
      State.ended_giveBack (s := s) (st := st)
        (r := .batchEnd st b.id b.pieces (b.pieces - b.remaining) true)
        (s.station st).promote_not_loaded
    refine ⟨_, next_request hr hrespond, hstation.trans (Station.promote_eq _), hgrant,
      fun hroom => ?_, hqueue, halarms, ?_, fun hfree => ?_, ?_⟩
    · rw [hreports, State.ended_eq]
      exact congrArg Reports.queue (if_pos hroom)
    · refine (congrArg Kept.params (State.kept_giveBack _ _)).trans ?_
      rw [State.ended_eq]
      rfl
    · rw [State.ended_giveBack_of_free hfree, State.ended_eq]
      exact ⟨rfl, fun su hsu => State.station_setStation_ne _ hsu _⟩
    · intro u v hu hv
      rw [← Station.promote_eq] at hu
      obtain rfl : u = s.ended st (s.station st).promote _ := hu
      refine next_request hr (hrespond.trans ?_)
      rcases hv with ⟨hfree, rfl⟩ | ⟨hheld, hgave⟩
      · rw [State.ended_giveBack_of_free hfree]
      · rw [State.ended_giveBack_of_gaveBack hrunning hheld hgave]

end Sys2Proof.Machine
end

section
/-!
PROOFS. Statements O54 and O3: rows that find nothing to do, and the clock while no command waits.
-/

namespace Sys2Proof.Machine

/-! ### Rows that find nothing to do (log entries 4 and 5) -/

/-- A row taken outside a reset alone, whose effect finds nothing to do. -/
theorem next_whenRunning_same {s : State} {f : State → State} (h : f s = s) :
    (.next (s.whenRunning f) : Host.Outcome State Fault Refusal) = .next s := by
  rw [State.whenRunning, h, ite_self]

theorem State.modFolder_same {s : State} {l : LaneNo} {f : Folder → Folder}
    (h : f (s.lane l).folder = (s.lane l).folder) : s.modFolder l f = s := by
  rw [State.modFolder, State.modLane_eq, h]
  exact s.setLane_lane l

theorem Folder.strobeOver_of_other {f : Folder} (h : f.phase ≠ .strobe) : f.strobeOver = f := by
  unfold Folder.strobeOver
  split
  · next hp => exact absurd hp h
  · rfl

theorem Folder.gapOver_of_other {f : Folder} (h : f.phase ≠ .gap) : f.gapOver = f := by
  unfold Folder.gapOver
  split
  · next hp => exact absurd hp h
  · rfl

theorem State.stackerTimedOut_of_still {s : State} {l : LaneNo}
    (h : (s.lane l).stacker.timer.isRunning = false) : s.stackerTimedOut l = s := by
  unfold State.stackerTimedOut
  split
  · next ms hms =>
    rw [hms] at h
    cases h
  · rfl

theorem State.scorchOver_of_still {s : State} (h : ∀ ms, s.scorch ≠ .running ms) :
    s.scorchOver = s := by
  unfold State.scorchOver
  split
  · next ms hms => exact absurd hms (h ms)
  · rfl

/-- No deadline of a record with the tag is passed: its row ends nothing (R90). -/
theorem State.passDeadline_of_ahead {s : State} {tag : Nat}
    (h : ∀ r ∈ s.records, r.tag = tag → (s.travel - r.deadline).msb = true ∧
      ∀ d, r.clearDeadline = some d → (s.travel - d).msb = true) : s.passDeadline tag = s := by
  refine State.passDeadline_of_not_due fun l hl => ?_
  obtain ⟨r, hr, hdue, htag⟩ := (s.mem_advanceTasks_deadline l tag).1 hl
  obtain ⟨hnext, hclear⟩ := h r (State.mem_records hr) htag
  have hnone : s.dueCause l r = none := by
    rw [State.dueCause, atOrPast, hnext]
    split
    · next h => cases h
    · split
      · next d hd =>
        rw [atOrPast, hclear d hd]
        rfl
      · rfl
  rw [hnone] at hdue
  cases hdue

theorem State.startReply_of_none {s : State} (h : s.link.reply = none) : s.startReply = s := by
  rw [State.startReply, h]

theorem State.endReply_of_none {s : State} (h : s.link.reply = none) : s.endReply = s := by
  rw [State.endReply, h]

theorem State.endReset_of_running {s : State} (h : s.resetPhase = .running) : s.endReset = s := by
  unfold State.endReset
  split
  · next ms hms => exact absurd (h.symm.trans hms) (by simp)
  · rfl

/-- Settles O54: each row by the branch of its effect in which nothing is done. -/
theorem rowsWithoutTheirConditionChangeNothing :
    Obligations.RowsWithoutTheirConditionChangeNothing := by
  intro s hr
  refine ⟨fun st h => next_whenRunning_same (if_neg h),
    fun st h => next_whenRunning_same (if_neg h),
    fun st h => next_whenRunning_same (if_neg h),
    fun l h => next_whenRunning_same (State.modFolder_same (Folder.strobeOver_of_other h)),
    fun l h => next_whenRunning_same (State.modFolder_same (Folder.gapOver_of_other h)),
    fun l h => next_whenRunning_same (State.stackerTimedOut_of_still h),
    fun h => next_whenRunning_same (State.scorchOver_of_still h),
    fun h => next_whenRunning_same (if_neg (by rw [h]; decide)), fun l k => congrArg _ (if_pos rfl),
    fun h => congrArg _ (if_neg (by rw [h]; decide)), fun hin he hhold => ?_, fun l k h => ?_,
    fun tag h => ?_, fun h => ⟨next_whenRunning_same (State.startReply_of_none h),
      next_whenRunning_same (State.endReply_of_none h)⟩,
    congrArg _ (if_neg (by rw [hr]; decide)), ?_⟩
  · have hsame : s.setEstopInput true = s := by
      rw [State.setEstopInput, ← hin]
    refine (congrArg _ (congrArg (State.whenRunning · _) hsame)).trans (next_whenRunning_same ?_)
    rw [if_pos he, ← hhold]
  · rw [exec_edgeAccepted hr]
    refine congrArg _ (State.acceptIfDue_of_not_due fun x hx hdue => ?_)
    exact absurd ((h x hx).symm.trans hdue) (by decide)
  · rw [exec_deadlinePass hr, State.passDeadline_of_ahead h]
  · exact congrArg _ (State.endReset_of_running hr)

/-! ### Which rows are due (log entry 3) -/

theorem Station.mem_dueRow {x : Station} {st : StationNo} {row : Instr} :
    row ∈ x.dueRow st ↔ x.timer = some 0 ∧
      ((x.state = .opening ∧ row = .openTimeExpiry st) ∨
        (x.state = .dwell ∧ row = .dwellExpiry st) ∨
        (x.state = .returning ∧ row = .returnTimeExpiry st)) := by
  unfold Station.dueRow
  split <;> simp_all

theorem Folder.mem_dueRow {f : Folder} {l : LaneNo} {row : Instr} :
    row ∈ f.dueRow l ↔ f.timer = some 0 ∧
      ((f.phase = .strobe ∧ row = .foldStrobeEnd l) ∨ (f.phase = .gap ∧ row = .foldGapEnd l)) := by
  unfold Folder.dueRow
  split <;> simp_all

theorem Stacker.mem_dueRow {x : Stacker} {l : LaneNo} {row : Instr} :
    row ∈ x.dueRow l ↔ x.timer = .running 0 ∧ row = .stackerTimeout l := by
  unfold Stacker.dueRow
  split <;> simp_all

theorem GuardTimer.mem_dueRow {x : GuardTimer} {row : Instr} :
    row ∈ x.dueRow ↔ x = .running 0 ∧ row = .scorchTimerExpiry := by
  unfold GuardTimer.dueRow
  split <;> simp_all

theorem State.mem_dueRunning {s : State} {row : Instr} : row ∈ s.dueRunning ↔
    (s.gateLeft = 0 ∧ row = .gateEnd) ∨
      (∃ st, (s.station st).timer = some 0 ∧
        (((s.station st).state = .opening ∧ row = .openTimeExpiry st) ∨
          ((s.station st).state = .dwell ∧ row = .dwellExpiry st) ∨
          ((s.station st).state = .returning ∧ row = .returnTimeExpiry st))) ∨
      (∃ l, (s.lane l).folder.timer = some 0 ∧
        (((s.lane l).folder.phase = .strobe ∧ row = .foldStrobeEnd l) ∨
          ((s.lane l).folder.phase = .gap ∧ row = .foldGapEnd l))) ∨
      (∃ l, (s.lane l).stacker.timer = .running 0 ∧ row = .stackerTimeout l) ∨
      (s.scorch = .running 0 ∧ row = .scorchTimerExpiry) ∨
      (s.estopHold = some 0 ∧ row = .estopDeactivation) := by
  simp only [State.dueRunning, List.mem_append, List.mem_flatMap, mem_allFour, true_and,
    List.mem_ite_nil_right, List.mem_singleton, Station.mem_dueRow, Folder.mem_dueRow,
    Stacker.mem_dueRow, GuardTimer.mem_dueRow, or_assoc]

theorem State.mem_dueRows {s : State} {row : Instr} : row ∈ s.dueRows ↔
    (s.resetPhase = .interval 0 ∧ row = .resetEnd) ∨
      (s.resetPhase = .running ∧ row ∈ s.dueRunning) := by
  rw [State.dueRows]
  cases s.resetPhase <;> simp

/-! ### The step with no command waiting -/

theorem step_of_idle {s : State} (h : s.pending = []) : step s = idleStep s := by
  rw [step, h]

theorem idleStep_of_one {s : State} {row : Instr} (h : s.dueRows = [row]) :
    idleStep s = exec row s := by
  rw [idleStep, h]
  rfl

theorem idleStep_of_none {s : State} (h : s.dueRows = []) : idleStep s = .next s.passMs := by
  rw [idleStep, h]
  rfl

theorem State.draw_lt (s : State) {n : Nat} (h : 0 < n) : (s.draw n).1 < n := by
  unfold State.draw
  split
  · exact h
  · exact Nat.mod_lt _ h

/-- Of the rows due one is taken, with at most one free value drawn for the choice. -/
theorem idleStep_of_due {s : State} (h : s.dueRows ≠ []) : ∃ row ∈ s.dueRows, ∃ n,
    n ≤ s.freeDraws + 1 ∧ idleStep s = exec row { s with freeDraws := n } := by
  have hlt := s.draw_lt (List.length_pos_iff.2 h)
  refine ⟨s.dueRows[(s.draw s.dueRows.length).1], List.getElem_mem hlt, ?_⟩
  have hrow : idleStep s =
      exec s.dueRows[(s.draw s.dueRows.length).1] (s.draw s.dueRows.length).2 := by
    rw [idleStep]
    simp only [List.getElem?_eq_getElem hlt]
  rw [hrow]
  rcases s.draw_two s.dueRows.length with hdraw | hdraw <;> rw [hdraw]
  · exact ⟨s.freeDraws, Nat.le_succ _, rfl⟩
  · exact ⟨s.freeDraws + 1, le_refl _, rfl⟩

/-! ### One millisecond -/

theorem State.passMs_of_running {s : State} (h : s.resetPhase = .running) :
    s.passMs = s.passTimers.sampleInputs := by
  rw [State.passMs, h]

theorem State.passMs_of_held {s : State} (h : s.resetPhase = .held) :
    s.passMs = s.sampleInputs := by
  rw [State.passMs, h]

theorem State.passMs_of_interval {s : State} {ms : Nat} (h : s.resetPhase = .interval ms) :
    s.passMs = { s with resetPhase := .interval (ms - 1) }.sampleInputs := by
  rw [State.passMs, h]

theorem State.station_passTimers (s : State) (st : StationNo) :
    s.passTimers.station st = (s.station st).pass := Quad.get_map _ _ _

theorem State.lane_passTimers (s : State) (l : LaneNo) :
    s.passTimers.lane l = (s.lane l).pass := Quad.get_map _ _ _

/-- Settles O3: the rows due by the blocks they belong to, and the step by the draw among them. -/
theorem idleStepEndsWhatIsDueOrPassesAMillisecond :
    Obligations.IdleStepEndsWhatIsDueOrPassesAMillisecond := by
  intro s hp
  rw [step_of_idle hp]
  refine ⟨fun row => ?_, fun row => idleStep_of_one, idleStep_of_due, fun hnone => ?_⟩
  · rw [State.mem_dueRows, State.mem_dueRunning]
  · refine ⟨s.passMs, s.passMs.inputs, idleStep_of_none hnone, ?_, fun hr => ?_, fun ms hr => ?_,
      fun hr => ?_⟩
    · unfold State.passMs
      split <;> rfl
    · rw [State.passMs_of_running hr]
      refine ⟨?_, fun st => ?_, fun l => ?_⟩
      · rfl
      · exact s.station_passTimers st
      · exact s.lane_passTimers l
    · rw [State.passMs_of_interval hr]
      rfl
    · rw [State.passMs_of_held hr]
      rfl

end Sys2Proof.Machine
end

section
/-!
PROOFS. Statement O47: the release of an ARMED station, with its record, its tag and the decision
that follows it.
-/

namespace Sys2Proof.Machine

/-! ### The tag of the next record (R83) -/

theorem State.tagHeld_iff {s : State} {n : Nat} :
    s.tagHeld n = true ↔ ∃ y ∈ s.records, y.tag = n := by
  simp [State.tagHeld]

/-- A search ends some places on, and has passed over values that are all held. -/
theorem State.freeTagFrom_eq_tagAt (s : State) {t : Nat} (ht : 1 ≤ t ∧ t ≤ Config.tagMax)
    (n : Nat) : ∃ k ≤ n, s.freeTagFrom n t = tagAt t k ∧ ∀ j < k, s.tagHeld (tagAt t j) = true := by
  induction n generalizing t with
  | zero => exact ⟨0, le_rfl, (tagAt_zero ht).symm, fun j hj => absurd hj (Nat.not_lt_zero j)⟩
  | succ n ih =>
    unfold State.freeTagFrom
    split
    · next hheld =>
      obtain ⟨k, hk, heq, hpassed⟩ := ih (tagAfter_mem t)
      refine ⟨k + 1, Nat.succ_le_succ hk, heq.trans (tagAt_tagAfter ht k), fun j hj => ?_⟩
      cases j with
      | zero => rw [tagAt_zero ht]; exact hheld
      | succ j => rw [← tagAt_tagAfter ht]; exact hpassed j (Nat.lt_of_succ_lt_succ hj)
    · exact ⟨0, Nat.zero_le _, (tagAt_zero ht).symm, fun j hj => absurd hj (Nat.not_lt_zero j)⟩

/-- With a slot free the tag of the next record is the one the statements name. -/
theorem State.nextTag_newTag {s : State} (hc : 1 ≤ s.tagCounter ∧ s.tagCounter ≤ Config.tagMax)
    (hslot : s.hasSlot = true) : s.NextTag s.newTag := by
  obtain ⟨k, hk, heq, hpassed⟩ := s.freeTagFrom_eq_tagAt hc Config.poolSlots
  refine ⟨k, hk, heq, fun y hy htag => ?_, fun j hj => State.tagHeld_iff.1 (hpassed j hj)⟩
  have hfree := State.newTag_free hc hslot
  rw [State.tagHeld_iff.2 ⟨y, hy, htag⟩] at hfree
  cases hfree

theorem State.NextTag.range {s : State} {n : Nat} (h : s.NextTag n) : 1 ≤ n ∧ n ≤ 65535 := by
  obtain ⟨k, -, hn, -, -⟩ := h
  omega

theorem State.NextTag.free {s : State} {n : Nat} (h : s.NextTag n) :
    ∀ y ∈ s.records, y.tag ≠ n := by
  obtain ⟨-, -, -, hfree, -⟩ := h
  exact hfree

/-- A counter that no record holds is the next tag itself. -/
theorem State.NextTag.eq_counter {s : State} {n : Nat} (h : s.NextTag n)
    (hc : 1 ≤ s.tagCounter ∧ s.tagCounter ≤ Config.tagMax)
    (hfree : ∀ y ∈ s.records, y.tag ≠ s.tagCounter) : n = s.tagCounter := by
  obtain ⟨k, -, hn, -, hpassed⟩ := h
  cases k with
  | zero => exact hn.trans (tagAt_zero hc)
  | succ k =>
    obtain ⟨y, hy, htag⟩ := hpassed 0 (Nat.succ_pos k)
    exact absurd (htag.trans (tagAt_zero hc)) (hfree y hy)

theorem tagAfter_of_le {n : Nat} (h : n ≤ 65535) :
    tagAfter n = if n = 65535 then 1 else n + 1 := by
  have hlast : n ≥ Config.tagMax ↔ n = 65535 := by
    simp only [Config.tagMax]
    omega
  simp only [tagAfter, hlast]

/-! ### The release test (R72) -/

theorem State.testMet_iff {s : State} {l : LaneNo} : s.testMet l = true ↔
    ((s.lane l).releasePoint = none ∨
      ∃ p, (s.lane l).releasePoint = some p ∧ (s.travel - p).msb = false) ∧
      s.records.length < 96 := by
  rw [State.testMet, Bool.and_eq_true, State.hasSlot, decide_eq_true_eq]
  refine and_congr ?_ Iff.rfl
  unfold State.pointReached
  split
  · next h => simp [h]
  · next p h => simp [h, atOrPast]

theorem State.testRelease_of_unarmed {s : State} {l : LaneNo} (h : s.armedStation l = none) :
    s.testRelease l = s := by rw [State.testRelease, h]

/-- A release test that is not met leaves the ARMED station with its grant. -/
theorem State.testRelease_of_unmet {s : State} {l : LaneNo} (h : ¬ s.testMet l = true) :
    s.testRelease l = s := by
  cases harmed : s.armedStation l with
  | none => exact State.testRelease_of_unarmed harmed
  | some st =>
    obtain ⟨-, hgrant, -⟩ := State.armedStation_eq_some.1 harmed
    have hheld : (s.lane l).grant ≠ none := by
      rw [hgrant]
      exact Option.some_ne_none st
    rw [State.testRelease, harmed]
    change (s.releaseIfMet l st).decideGrant l = s
    rw [State.releaseIfMet, if_neg h, State.decideGrant_of_none (State.decided_of_held hheld)]

/-- A lane without an ARMED station, a full pool or a point ahead makes no release (log entry 7). -/
theorem State.testRelease_of_waits {s : State} {l : LaneNo}
    (h : (s.lane l).state ≠ .opened ∨ (s.lane l).grant = none ∨
      (∃ st, (s.lane l).grant = some st ∧ (s.station st).state ≠ .armed) ∨
      96 ≤ s.records.length ∨
      ∃ p, (s.lane l).releasePoint = some p ∧ (s.travel - p).msb = true) :
    s.testRelease l = s := by
  by_cases hmet : s.testMet l = true
  · obtain ⟨hpoint, hroom⟩ := State.testMet_iff.1 hmet
    refine State.testRelease_of_unarmed (Option.eq_none_iff_forall_ne_some.2 fun su hsu => ?_)
    obtain ⟨hopen, hgrant, harmed⟩ := State.armedStation_eq_some.1 hsu
    rcases h with h | h | ⟨st, hst, h⟩ | h | ⟨p, hp, hahead⟩
    · exact h hopen
    · exact Option.some_ne_none su (hgrant.symm.trans h)
    · exact h (Option.some.inj (hst.symm.trans hgrant) ▸ harmed)
    · omega
    · simp [hp, hahead] at hpoint
  · exact State.testRelease_of_unmet hmet

/-- A release test that is met is the release of the ARMED station, and the decision after it. -/
theorem State.testRelease_of_met {s : State} {l : LaneNo} {st : StationNo} {b : Batch}
    (harmed : s.armedStation l = some st) (hb : (s.station st).current = some b)
    (hmet : s.testMet l = true) : s.testRelease l = (s.releaseOf l st b).decideGrant l := by
  rw [State.testRelease, harmed]
  change (s.releaseIfMet l st).decideGrant l = _
  rw [State.releaseIfMet, if_pos hmet, State.releaseStep, hb]

/-! ### The release (R37, R74, R75) -/

theorem State.releasedRecord_fold (s : State) (l : LaneNo) (st : StationNo) (b : Batch)
    (pred : Pos) : (s.releasedRecord l st b pred).fold =
      b.foldOverride.getD (s.classEntry b.cls).fold := by
  unfold State.releasedRecord
  cases b.foldOverride <;> rfl

/-- The lane with its new record at the tail and the point dropped, the grant back in SINGLE mode,
and the station moved to the end of the order list in ROTATING mode. -/
def Lane.released (ln : Lane) (st : StationNo) (r : Record) (feed : FeedMode) (mode : ArbMode) :
    Lane :=
  { ln with
    queue := ln.queue ++ [r], releasePoint := none,
    grant := if feed = .single then none else some st,
    order := if mode = .rotating ∧ st ∈ ln.order then ln.order.erase st ++ [st] else ln.order }

/-- What the holder of the grant leaves of its lane at a release. -/
theorem Lane.afterRelease_eq_released {ln : Lane} {st : StationNo} (hg : ln.grant = some st)
    (r : Record) (feed : FeedMode) (mode : ArbMode) :
    ({ ln with queue := ln.queue ++ [r] } : Lane).afterRelease st feed mode =
      ln.released st r feed mode := by
  unfold Lane.afterRelease Lane.released moveToEnd
  cases feed <;> cases mode <;> simp [hg]

/-- A release by the holder of the grant writes the station, the lane and the tag counter. -/
theorem State.releaseOf_eq_released {s : State} {l : LaneNo} {st : StationNo}
    (hg : (s.lane l).grant = some st) (b : Batch) : s.releaseOf l st b =
      { (s.setStation st ((s.station st).release b s.travel)).setLane l
          ((s.lane l).released st (s.releasedRecord l st b (s.predictedEntry st))
            (s.station st).params.mode s.params.mode) with
        tagCounter := tagAfter s.newTag } := by
  unfold State.releaseOf
  rw [State.modLane_eq, State.lane_setStation, State.lane_joinTail, if_pos rfl, State.queue,
    Lane.afterRelease_eq_released hg]
  change { s with
    lanes := (s.lanes.set l _).set l _, stations := s.stations.set st _, tagCounter := _ } = _
  rw [Quad.set_set]
  rfl

theorem State.lane_releaseOf_self {s : State} {l : LaneNo} {st : StationNo}
    (hg : (s.lane l).grant = some st) (b : Batch) : (s.releaseOf l st b).lane l =
      (s.lane l).released st (s.releasedRecord l st b (s.predictedEntry st))
        (s.station st).params.mode s.params.mode := by
  rw [State.releaseOf_eq_released hg]
  exact State.lane_setLane_self _ _ _

theorem State.station_releaseOf_ne (s : State) (l : LaneNo) {st su : StationNo} (h : su ≠ st)
    (b : Batch) : (s.releaseOf l st b).station su = s.station su := by
  obtain ⟨-, -, hstations⟩ := s.arbiterOnly_releaseOf l st b
  exact hstations su h

theorem State.laneOf_releaseOf (s : State) (l : LaneNo) (st su : StationNo) (b : Batch) :
    (s.releaseOf l st b).laneOf su = s.laneOf su :=
  State.laneOf_of_kept (State.planNow_of_steady (s.steady_releaseOf l st b)) su

/-! ### The decision after a release (R60, R61, R75) -/

/-- A RUN station keeps the grant, and with no other station LOADED no station takes it. -/
theorem State.decideGrant_releaseOf_of_idle {s : State} {l : LaneNo} {st : StationNo} {b : Batch}
    (hg : (s.lane l).grant = some st)
    (h : (s.station st).params.mode = .run ∨
      ∀ su, su ≠ st → s.laneOf su = l → (s.station su).state ≠ .loaded) :
    (s.releaseOf l st b).decideGrant l = s.releaseOf l st b := by
  refine State.decideGrant_of_none (h.elim (fun hrun => State.decided_of_held ?_) fun hnone =>
    State.decided_of_noCandidate fun su hof => ?_)
  · rw [State.lane_releaseOf_self hg, hrun]
    exact Option.some_ne_none st
  · by_cases hsu : su = st
    · rw [hsu, State.state_releaseOf]
      decide
    · rw [State.station_releaseOf_ne s l hsu]
      exact hnone su hsu (by rwa [State.laneOf_releaseOf] at hof)

/-- In SINGLE mode the station chosen after a release is granted, and its own test is made. -/
theorem State.exec_release_releaseOf_of_chosen {s : State} {l : LaneNo} {st su : StationNo}
    {b : Batch} (hr : s.resetPhase = .running) (ho : (s.lane l).state = .opened)
    (hg : (s.lane l).grant = some st) (hsingle : (s.station st).params.mode = .single)
    (hc : (s.releaseOf l st b).Chosen l su) :
    exec (.release l) ((s.releaseOf l st b).granted l su ((s.releaseOf l st b).workedPoint l su)) =
      .next ((s.releaseOf l st b).decideGrant l) := by
  refine exec_release_of_chosen hr ?_ ?_ hc <;> rw [State.lane_releaseOf_self hg]
  · exact ho
  · exact if_pos hsingle

/-- What a release and the decision after it leave: the station released, the records of the lane
with others perhaps behind them, the other lanes, the alarms and the reports. -/
theorem State.decideGrant_releaseOf_frame (s : State) (l : LaneNo) (st : StationNo) (b : Batch) :
    (s.releaseOf l st b).queue l <+: ((s.releaseOf l st b).decideGrant l).queue l ∧
      ((s.releaseOf l st b).decideGrant l).station st = (s.releaseOf l st b).station st ∧
      (∀ m, m ≠ l → ((s.releaseOf l st b).decideGrant l).lane m = s.lane m) ∧
      ((s.releaseOf l st b).decideGrant l).alarms = s.alarms ∧
      ((s.releaseOf l st b).decideGrant l).reports = s.reports := by
  obtain ⟨hlanes, hqueue, hstations⟩ := (s.releaseOf l st b).arbiterOnly_decideGrant l
  obtain ⟨hothers, -, -⟩ := s.arbiterOnly_releaseOf l st b
  have hsteady : ((s.releaseOf l st b).decideGrant l).steady = s.steady := by simp
  refine ⟨hqueue, hstations st fun ⟨_, hload⟩ => ?_,
    fun m hm => (hlanes m hm).trans (hothers m hm), congrArg Steady.alarms hsteady,
    congrArg Steady.reports hsteady⟩
  rw [State.state_releaseOf] at hload
  cases hload

/-- Settles O47: a test that is not met by `State.testRelease_of_unmet`; one that is met as the
release and the decision after it, with the tag by `State.nextTag_newTag`. -/
theorem aReleaseMakesARecord : Obligations.AReleaseMakesARecord := by
  refine ⟨fun s c hc => if_neg hc, fun s => ⟨rfl, rfl, rfl, rfl⟩,
    fun l s hr => ⟨fun hwaits => ?_, ?_⟩⟩
  · rw [exec_release hr, State.testRelease_of_waits hwaits]
  · rintro st b x pred ho hg rfl harmed hb hroom ⟨-, -, -, hcounter, -⟩ hpoint rfl
    have htag : s.NextTag s.newTag := State.nextTag_newTag hcounter (decide_eq_true hroom)
    have hexec : exec (.release l) s = .next ((s.releaseOf l st b).decideGrant l) := by
      rw [exec_release hr, State.testRelease_of_met (State.armedStation_eq_some.2 ⟨ho, hg, harmed⟩)
        hb (State.testMet_iff.2 ⟨hpoint, hroom⟩)]
    obtain ⟨hlow, hhigh⟩ := htag.range
    refine ⟨s.newTag, s.releasedRecord l st b (s.predictedEntry st), s.releaseOf l st b,
      ⟨hlow, hhigh, htag.free⟩, htag.eq_counter hcounter, htag, ?_, ?_, fun hidle => ?_,
      fun su hsingle hc => ?_, _, hexec, s.decideGrant_releaseOf_frame l st b⟩
    · rw [← State.releasedRecord_fold s l st b (s.predictedEntry st)]
      rfl
    · rw [State.releaseOf_eq_released hg, tagAfter_of_le hhigh]
      rfl
    · rw [hexec, State.decideGrant_releaseOf_of_idle hg hidle]
    · rw [hexec, State.exec_release_releaseOf_of_chosen hr ho hg hsingle hc]

end Sys2Proof.Machine
end

section
/-!
SUPPORT. Counting records: how many of a lane or of the pool pass a test, and how a queue that is
written, a record that is changed in its place and a record that leaves change the counts (R82, R85).
-/

namespace Sys2Proof.Machine

/-! ### Counts of the pool -/

/-- How many records of the pool pass a test. -/
def State.census (s : State) (p : Record → Bool) : Nat := s.records.countP p

theorem State.census_eq (s : State) (p : Record → Bool) : s.census p =
    (s.queue 0).countP p + (s.queue 1).countP p + (s.queue 2).countP p + (s.queue 3).countP p := by
  simp only [State.census, State.records, List.countP_append]

theorem State.mem_records_iff {s : State} {r : Record} :
    r ∈ s.records ↔ ∃ l, r ∈ s.queue l := by
  refine ⟨fun h => ?_, fun ⟨_, h⟩ => State.mem_records h⟩
  simp only [State.records, List.mem_append] at h
  rcases h with ((h | h) | h) | h
  exacts [⟨0, h⟩, ⟨1, h⟩, ⟨2, h⟩, ⟨3, h⟩]

theorem State.queue_setQueue (s : State) (l m : LaneNo) (q : List Record) :
    (s.setQueue l q).queue m = if m = l then q else s.queue m := by
  rw [State.queue, State.setQueue, State.lane_modLane]
  split
  · rfl
  · rfl

theorem State.census_setQueue (s : State) (l : LaneNo) (q : List Record) (p : Record → Bool) :
    (s.setQueue l q).census p + (s.queue l).countP p = s.census p + q.countP p := by
  rw [State.census_eq, State.census_eq]
  simp only [State.queue_setQueue]
  fin_cases l <;> simp <;> omega

/-- Lanes that count alike count alike together. -/
theorem State.census_congr {s t : State} {p : Record → Bool}
    (h : ∀ l, (t.queue l).countP p = (s.queue l).countP p) : t.census p = s.census p := by
  simp only [State.census_eq, h]

theorem State.census_mono {s t : State} {p : Record → Bool}
    (h : ∀ l, (t.queue l).countP p ≤ (s.queue l).countP p) : t.census p ≤ s.census p := by
  have h0 := h 0
  have h1 := h 1
  have h2 := h 2
  have h3 := h 3
  simp only [State.census_eq]
  omega

/-! ### The pool by its tags and lanes (R82, R83) -/

/-- What `State.PoolSound` reads of a record. -/
def Record.label (r : Record) : Nat × LaneNo := (r.tag, r.lane)

theorem State.tags_nodup_iff (s : State) : (s.records.map Record.tag).Nodup ↔
    ∀ n, s.census (fun r => decide (r.tag = n)) ≤ 1 := by
  rw [List.nodup_iff_count_le_one]
  refine forall_congr' fun n => ?_
  rw [List.count, List.countP_map]
  rfl

theorem State.poolSound_iff (s : State) : s.PoolSound ↔
    s.census (fun _ => true) ≤ Config.poolSlots ∧
      (∀ n, s.census (fun r => decide (r.tag = n)) ≤ 1) ∧
        (1 ≤ s.tagCounter ∧ s.tagCounter ≤ Config.tagMax) ∧
          ∀ l, ∀ r ∈ s.queue l, (1 ≤ r.tag ∧ r.tag ≤ Config.tagMax) ∧ r.lane = l := by
  have hcount : s.census (fun _ => true) = s.poolCount := by
    simp [State.census, State.poolCount]
  rw [hcount, ← s.tags_nodup_iff]
  constructor
  · rintro ⟨hlen, hn, htag, hc, hlane⟩
    exact ⟨hlen, hn, hc, fun l r hr => ⟨htag r (State.mem_records hr), hlane l r hr⟩⟩
  · rintro ⟨hlen, hn, hc, hall⟩
    refine ⟨hlen, hn, fun r hr => ?_, hc, fun l r hr => (hall l r hr).2⟩
    obtain ⟨l, hl⟩ := State.mem_records_iff.1 hr
    exact (hall l r hl).1

/-- A pool of which records leave, and others change in neither tag nor lane, stays sound. -/
theorem State.PoolSound.of_labels {s t : State} (h : s.PoolSound)
    (hq : ∀ l, ((t.queue l).map Record.label).Sublist ((s.queue l).map Record.label))
    (hc : t.tagCounter = s.tagCounter) : t.PoolSound := by
  have hcount : ∀ (q : List Record) (p : Nat × LaneNo → Bool),
      (q.map Record.label).countP p = q.countP fun r => p r.label := fun _ _ => List.countP_map
  have hmono : ∀ p : Nat × LaneNo → Bool,
      t.census (fun r => p r.label) ≤ s.census (fun r => p r.label) := fun p =>
    State.census_mono fun l => by rw [← hcount, ← hcount]; exact (hq l).countP_le
  rw [State.poolSound_iff] at h ⊢
  obtain ⟨hlen, htags, hcounter, hall⟩ := h
  refine ⟨(hmono fun _ => true).trans hlen,
    fun n => (hmono fun x => decide (x.1 = n)).trans (htags n), hc ▸ hcounter, fun l r hr => ?_⟩
  obtain ⟨y, hy, he⟩ := List.mem_map.1 ((hq l).subset (List.mem_map_of_mem hr))
  have hyl := hall l y hy
  simp only [Record.label, Prod.mk.injEq] at he
  rwa [he.1, he.2] at hyl

/-- A record `r` with a new tag has joined the queue of its lane, where a slot was free, and what no
arbiter writes is as it was (R83, R85). -/
structure State.Joined (l : LaneNo) (r : Record) (s t : State) : Prop where
  slot : s.hasSlot = true
  tag : r.tag = s.newTag
  lane : r.lane = l
  queue : (t.queue l).Perm (r :: s.queue l)
  other : ∀ m, m ≠ l → t.queue m = s.queue m
  counter : t.tagCounter = tagAfter r.tag
  steady : t.steady = s.steady
  kept : t.kept = s.kept

theorem State.Joined.countP {l : LaneNo} {r : Record} {s t : State} (h : State.Joined l r s t)
    (m : LaneNo) (p : Record → Bool) : (t.queue m).countP p =
      (s.queue m).countP p + if m = l ∧ p r = true then 1 else 0 := by
  by_cases e : m = l
  · rw [e, h.queue.countP_eq, List.countP_cons]
    simp
  · rw [h.other m e, if_neg fun c => e c.1]
    rfl

theorem State.Joined.census {l : LaneNo} {r : Record} {s t : State} (h : State.Joined l r s t)
    (p : Record → Bool) : t.census p = s.census p + if p r = true then 1 else 0 := by
  simp only [State.census_eq, h.countP]
  fin_cases l <;> cases p r <;> simp <;> omega

theorem State.Joined.mem {l : LaneNo} {r : Record} {s t : State} (h : State.Joined l r s t)
    {m : LaneNo} {y : Record} (hy : y ∈ t.queue m) : m = l ∧ y = r ∨ y ∈ s.queue m := by
  by_cases e : m = l
  · rw [e] at hy ⊢
    exact (List.mem_cons.1 (h.queue.subset hy)).imp_left fun hr => ⟨rfl, hr⟩
  · exact .inr (h.other m e ▸ hy)

theorem State.Joined.pool {l : LaneNo} {r : Record} {s t : State} (h : State.Joined l r s t)
    (hs : s.PoolSound) : t.PoolSound := by
  obtain ⟨-, -, -, hcounter, -⟩ := id hs
  have hnext := State.nextTag_newTag hcounter h.slot
  have hfree : s.census (fun y => decide (y.tag = s.newTag)) = 0 :=
    List.countP_eq_zero.2 fun y hy => by simpa using hnext.free y hy
  have hroom : s.census (fun _ => true) < Config.poolSlots := by
    have := of_decide_eq_true h.slot
    simpa [State.census, State.poolCount] using this
  rw [State.poolSound_iff] at hs ⊢
  obtain ⟨-, htags, -, hall⟩ := hs
  refine ⟨?_, fun n => ?_, h.counter ▸ tagAfter_mem _, fun m y hy => ?_⟩
  · rw [h.census, if_pos rfl]
    omega
  · rw [h.census]
    have hn := htags n
    split
    · next e =>
      rw [← of_decide_eq_true e, h.tag, hfree]
    · omega
  · rcases h.mem hy with ⟨rfl, rfl⟩ | hy
    · exact ⟨h.tag ▸ hnext.range, h.lane⟩
    · exact hall m y hy

/-! ### One record of a pool with distinct tags -/

section
variable {s : State} (h : (s.records.map Record.tag).Nodup) {l m : LaneNo} {r y : Record}
  (hr : r ∈ s.queue l)
include h hr

theorem State.record_unique (hy : y ∈ s.queue m) (ht : y.tag = r.tag) : y = r :=
  List.inj_on_of_nodup_map h (State.mem_records hy) (State.mem_records hr) ht

theorem State.lane_unique (hy : y ∈ s.queue m) (ht : y.tag = r.tag) : m = l := by
  have hone := (s.tags_nodup_iff.1 h) r.tag
  rw [State.census_eq] at hone
  have hl : 0 < (s.queue l).countP fun x => decide (x.tag = r.tag) :=
    List.countP_pos_iff.2 ⟨r, hr, decide_eq_true rfl⟩
  have hm : 0 < (s.queue m).countP fun x => decide (x.tag = r.tag) :=
    List.countP_pos_iff.2 ⟨y, hy, decide_eq_true ht⟩
  by_contra hne
  have htwo := Finset.add_le_sum (s := Finset.univ)
    (f := fun k : LaneNo => (s.queue k).countP fun x => decide (x.tag = r.tag))
    (fun _ _ => Nat.zero_le _) (Finset.mem_univ m) (Finset.mem_univ l) hne
  rw [Fin.sum_univ_four] at htwo
  omega

theorem State.findRecord_of_mem : s.findRecord l r.tag = some r := by
  rcases hf : s.findRecord l r.tag with _ | x
  · have hn := (s.findRecord_isSome l r.tag).2 ⟨r, hr, rfl⟩
    rw [hf] at hn
    cases hn
  · have ht : x.tag = r.tag := of_decide_eq_true
      (List.find?_some (p := fun x : Record => decide (x.tag = r.tag)) hf)
    rw [State.record_unique h hr (List.mem_of_find?_eq_some hf) ht]

theorem State.laneWithTag_of_mem : s.laneWithTag r.tag = some l := by
  unfold State.laneWithTag
  rcases hf : allFour.find? fun m => (s.findRecord m r.tag).isSome with _ | m
  · exact absurd ((s.findRecord_isSome l r.tag).2 ⟨r, hr, rfl⟩)
      (List.find?_eq_none.1 hf l (mem_allFour l))
  · obtain ⟨x, hx, ht⟩ := (s.findRecord_isSome m r.tag).1
      (List.find?_some (p := fun m => (s.findRecord m r.tag).isSome) hf)
    rw [State.lane_unique h hr hx ht]

end

theorem State.PoolSound.unique {s : State} (h : s.PoolSound) {l : LaneNo} {r y : Record}
    (hr : r ∈ s.queue l) (hy : y ∈ s.queue l) (ht : y.tag = r.tag) : y = r :=
  State.record_unique h.2.1 hr hy ht

theorem State.PoolSound.tags_nodup {s : State} (h : s.PoolSound) (l : LaneNo) :
    ((s.queue l).map Record.tag).Nodup := by
  have hsub : (s.queue l).Sublist s.records := by
    unfold State.records
    fin_cases l
    · exact ((List.sublist_append_left _ _).trans (List.sublist_append_left _ _)).trans
        (List.sublist_append_left _ _)
    · exact ((List.sublist_append_right _ _).trans (List.sublist_append_left _ _)).trans
        (List.sublist_append_left _ _)
    · exact (List.sublist_append_right _ _).trans (List.sublist_append_left _ _)
    · exact List.sublist_append_right _ _
  exact h.2.1.sublist (hsub.map Record.tag)

/-- A record stands in one place of its queue: there it changes, and from there it leaves. -/
theorem State.PoolSound.split {s : State} (h : s.PoolSound) {l : LaneNo} {r : Record}
    (hr : r ∈ s.queue l) : ∃ a b, s.queue l = a ++ r :: b ∧ (∀ y ∈ a ++ b, y.tag ≠ r.tag) ∧
      (∀ f, (s.modRecord l r.tag f).queue l = a ++ f r :: b) ∧
        (s.dropRecord l r.tag).queue l = a ++ b := by
  obtain ⟨a, b, hab⟩ := List.append_of_mem hr
  have hn := h.tags_nodup l
  rw [hab, List.map_append, List.map_cons, List.nodup_middle, List.nodup_cons, ← List.map_append]
    at hn
  have hne : ∀ y ∈ a ++ b, y.tag ≠ r.tag := fun y hy e => hn.1 (List.mem_map.2 ⟨y, hy, e⟩)
  have hother : ∀ (f : Record → Record) (q : List Record), (∀ y ∈ q, y.tag ≠ r.tag) →
      q.map (fun y => if y.tag = r.tag then f y else y) = q := fun f q hq =>
    (List.map_congr_left (g := id) fun y hy => if_neg (hq y hy)).trans (List.map_id q)
  refine ⟨a, b, hab, hne, fun f => ?_, ?_⟩
  · rw [State.modRecord, State.queue_setQueue, if_pos rfl, hab, List.map_append, List.map_cons,
      hother f a fun y hy => hne y (List.mem_append_left _ hy),
      hother f b fun y hy => hne y (List.mem_append_right _ hy), if_pos rfl]
  · rw [State.dropRecord, State.queue_setQueue, if_pos rfl, hab, List.eraseP_append_right,
      List.eraseP_cons_of_pos (p := fun y : Record => decide (y.tag = r.tag)) (decide_eq_true rfl)]
    exact fun y hy => by simpa using hne y (List.mem_append_left _ hy)

theorem State.queue_modRecord (s : State) (l m : LaneNo) (tag : Nat) (f : Record → Record) :
    (s.modRecord l tag f).queue m =
      if m = l then (s.queue l).map fun y => if y.tag = tag then f y else y else s.queue m :=
  s.queue_setQueue l m _

theorem State.queue_dropRecord_sublist (s : State) (l m : LaneNo) (tag : Nat) :
    ((s.dropRecord l tag).queue m).Sublist (s.queue m) := by
  rw [State.dropRecord, State.queue_setQueue]
  split
  · next e => rw [e]; exact List.eraseP_sublist
  · exact List.Sublist.refl _

theorem State.PoolSound.census_dropRecord {s : State} (h : s.PoolSound) {l : LaneNo} {r : Record}
    (hr : r ∈ s.queue l) (p : Record → Bool) :
    (s.dropRecord l r.tag).census p + (if p r = true then 1 else 0) = s.census p := by
  obtain ⟨a, b, hab, -, -, hdrop⟩ := h.split hr
  have hset := s.census_setQueue l (a ++ b) p
  rw [hab, List.countP_append, List.countP_append, List.countP_cons] at hset
  rw [State.dropRecord, State.queue_setQueue, if_pos rfl] at hdrop
  rw [State.dropRecord, hdrop]
  omega

theorem State.PoolSound.dropRecord {s : State} (h : s.PoolSound) (l : LaneNo) (tag : Nat) :
    (s.dropRecord l tag).PoolSound :=
  h.of_labels (fun m => (s.queue_dropRecord_sublist l m tag).map Record.label) rfl

/-- A record that changes in neither tag nor lane. -/
theorem State.PoolSound.modRecord {s : State} (h : s.PoolSound) {l : LaneNo} {r : Record}
    (hr : r ∈ s.queue l) {f : Record → Record} (hf : (f r).label = r.label) :
    (s.modRecord l r.tag f).PoolSound := by
  refine h.of_labels (fun m => ?_) rfl
  obtain ⟨a, b, hab, -, hmod, -⟩ := h.split hr
  by_cases e : m = l
  · rw [e, hmod, hab, List.map_append, List.map_cons, hf, ← List.map_cons, ← List.map_append]
  · rw [State.queue_modRecord, if_neg e]

theorem State.PoolSound.countP_modRecord {s : State} (h : s.PoolSound) {l : LaneNo} {r : Record}
    (hr : r ∈ s.queue l) (f : Record → Record) (p : Record → Bool) (m : LaneNo) :
    ((s.modRecord l r.tag f).queue m).countP p + (if m = l ∧ p r = true then 1 else 0) =
      (s.queue m).countP p + if m = l ∧ p (f r) = true then 1 else 0 := by
  obtain ⟨a, b, hab, -, hmod, -⟩ := h.split hr
  by_cases e : m = l
  · rw [e, hmod, hab]
    simp only [List.countP_append, List.countP_cons, true_and]
    omega
  · rw [State.queue_modRecord, if_neg e]
    simp [e]

theorem State.PoolSound.census_modRecord {s : State} (h : s.PoolSound) {l : LaneNo} {r : Record}
    (hr : r ∈ s.queue l) (f : Record → Record) (p : Record → Bool) :
    (s.modRecord l r.tag f).census p + (if p r = true then 1 else 0) =
      s.census p + if p (f r) = true then 1 else 0 := by
  have hcount := h.countP_modRecord hr f p
  have h0 := hcount 0
  have h1 := hcount 1
  have h2 := hcount 2
  have h3 := hcount 3
  simp only [State.census_eq]
  fin_cases l <;> simp_all <;> omega

/-- The records of a pool in which one has changed. -/
theorem State.PoolSound.mem_modRecord {s : State} (h : s.PoolSound) {l m : LaneNo} {r y : Record}
    (hr : r ∈ s.queue l) {f : Record → Record} (hy : y ∈ (s.modRecord l r.tag f).queue m) :
    m = l ∧ y = f r ∨ y ∈ s.queue m := by
  obtain ⟨a, b, hab, -, hmod, -⟩ := h.split hr
  by_cases e : m = l
  · rw [e, hmod] at hy
    rw [e, hab]
    simp only [List.mem_append, List.mem_cons, true_and] at hy ⊢
    tauto
  · rw [State.queue_modRecord, if_neg e] at hy
    exact .inr hy

end Sys2Proof.Machine
end

section
/-!
PROOFS. Statement O29: REJECT_MARK.
-/

namespace Sys2Proof.Machine

theorem State.laneWithTag_of_none {s : State} {tag : Nat} (h : ∀ r ∈ s.records, r.tag ≠ tag) :
    s.laneWithTag tag = none := by
  refine List.find?_eq_none.2 fun l _ hsome => ?_
  obtain ⟨r, hr, ht⟩ := (s.findRecord_isSome l tag).1 hsome
  exact h r (State.mem_records hr) ht

/-- A record found by its tag is marked (R93). -/
theorem answerRejectMark_of_mem {s : State} (h : (s.records.map Record.tag).Nodup) {l : LaneNo}
    {r : Record} (hr : r ∈ s.queue l) {tag : BitVec 16} (ht : r.tag = tag.toNat) :
    answerRejectMark tag s = answerMarkRecord tag l r s := by
  have hlane := State.laneWithTag_of_mem h hr
  have hfind := State.findRecord_of_mem h hr
  rw [ht] at hlane hfind
  rw [answerRejectMark, withOperand_some s hlane, withOperand_some s hfind]

theorem State.modRecord_giveCause (s : State) (l : LaneNo) (tag : Nat) (c : RejectCause) :
    s.modRecord l tag (Record.giveCause c) =
      s.setLane l { s.lane l with queue := (s.queue l).map fun x : Record =>
        if x.tag = tag then { x with cause := some (x.cause.getD c) } else x } := by
  simp only [← Record.giveCause_eq]
  rfl

/-- Settles O29: a tag no record holds names no lane; one that a record holds names that record, which
is folded already or takes the cause. -/
theorem rejectMarkMarksAnUnfoldedRecord : Obligations.RejectMarkMarksAnUnfoldedRecord := by
  unfold Obligations.RejectMarkMarksAnUnfoldedRecord
  intro tag s hready
  refine ⟨fun hnone => next_request hready ?_, fun l r hn hr ht => ?_⟩
  · exact State.respond_withOperand_none (State.laneWithTag_of_none hnone) _ s _
  · have hanswer := answerRejectMark_of_mem hn hr ht
    refine ⟨fun hfolded => next_request hready ?_, fun hfolded => next_request hready ?_⟩
    · rw [hanswer, answerMarkRecord, if_pos hfolded]
      exact State.respond_eq _ _
    · have hcause : causeByte (r.giveCause .marked).cause = (r.cause.getD .marked).code := by
        rw [Record.giveCause_eq]
        rfl
      rw [hanswer, answerMarkRecord, if_neg (Bool.eq_false_iff.1 hfolded),
        State.modRecord_giveCause, markData, hcause]
      exact State.respond_carryOut _ _ (by decide) false _

end Sys2Proof.Machine
end

section
/-!
PROOFS. Statement O44: the deadline of a record past E0, and the tests of a plan change that follow a
removal (R151, R152).
-/

namespace Sys2Proof.Machine

/-! ### The tests of a plan change as one (R151, R152) -/

theorem State.drained_iff (s : State) : s.drained = true ↔ ¬ s.queueLeft := by
  simp [State.drained, State.queueLeft, mem_allFour, List.isEmpty_iff, ← imp_iff_not_or]

theorem State.stacksGone_iff (s : State) : s.stacksGone = true ↔
    ¬ ∃ l : LaneNo, (s.lane l).state = .draining ∧
      (s.lane l).stacker.state.isDischarging = true := by
  simp [State.stacksGone, mem_allFour, ← imp_iff_not_or]

theorem State.lane_planClosed (s : State) (l : LaneNo) :
    s.planClosed.lane l = (s.lane l).askedBy s.estop s.params.ts :=
  State.lane_mapLanes _ _ l

theorem State.state_planClosed (s : State) (l : LaneNo) :
    (s.planClosed.lane l).state = (s.lane l).state := by
  obtain ⟨hstate, -⟩ := Lane.askedBy_frame s.estop s.params.ts (s.lane l)
  rw [State.lane_planClosed, hstate]

theorem State.queue_planClosed (s : State) (l : LaneNo) : s.planClosed.queue l = s.queue l := by
  obtain ⟨-, -, -, -, hqueue⟩ := Lane.askedBy_frame s.estop s.params.ts (s.lane l)
  rw [State.queue, State.lane_planClosed, hqueue]
  rfl

theorem State.completeChange_planDone (s : State) (pair : PlanPair) :
    s.completeChange pair = s.planDone pair :=
  State.completeChange_eq s pair

/-- A unit of a DRAINING lane that is not EMPTY discharges once it is asked to. -/
theorem Lane.isDischarging_askedBy {ln : Lane} (h : ln.state = .draining)
    (hne : ln.stacker.state ≠ .empty) (e : Bool) (n : Nat) :
    (ln.askedBy e n).stacker.state.isDischarging = true := by
  rcases hx : ln.stacker.state with _ | p | ⟨out, pocket⟩
  · exact absurd hx hne
  · rw [Lane.askedBy_building h hx]
    rfl
  · rw [Lane.askedBy_other fun _ p hp => StackState.noConfusion (hx.symm.trans hp), hx]
    rfl

/-- In phase STACK a change completes once nothing is left to wait for. -/
theorem State.stackTest_of_stack {s : State} (h : s.phase = .stack) : s.stackTest =
    if s.queueLeft ∨
        ∃ l : LaneNo, (s.lane l).state = .draining ∧ (s.lane l).stacker.state.isDischarging = true
      then s
    else s.planNext.elim s s.planDone := by
  have hcond : (s.phase = .stack ∧ s.drained = true ∧ s.stacksGone = true) ↔ ¬ (s.queueLeft ∨
      ∃ l : LaneNo, (s.lane l).state = .draining ∧
        (s.lane l).stacker.state.isDischarging = true) := by
    rw [State.drained_iff, State.stacksGone_iff, not_or, and_iff_right h]
  unfold State.stackTest
  cases s.planNext with
  | none => simp
  | some pair =>
    dsimp only [Option.elim]
    rw [State.completeChange_planDone]
    split
    · next hc => rw [if_neg (hcond.1 hc)]
    · next hc => rw [if_pos (not_not.1 fun hn => hc (hcond.2 hn))]

/-- A change in TRACK with every queue of a DRAINING lane empty. -/
theorem State.planTest_of_track {s : State} (h : s.phase = .track) (hd : ¬ s.queueLeft) :
    s.planTest =
      if ∃ l : LaneNo, (s.lane l).state = .draining ∧ (s.lane l).stacker.state ≠ .empty then
        s.planClosed
      else s.planNext.elim s.planClosed s.planDone := by
  have htrack : s.trackTest = s.planClosed := State.trackTest_eq ⟨h, s.drained_iff.2 hd⟩
  have hleft : ¬ s.planClosed.queueLeft := by
    rintro ⟨l, hl, hq⟩
    rw [State.queue_planClosed] at hq
    rw [State.state_planClosed] at hl
    exact hd ⟨l, hl, hq⟩
  unfold State.planTest
  rw [htrack, State.stackTest_of_stack rfl]
  by_cases hstack : ∃ l : LaneNo, (s.lane l).state = .draining ∧ (s.lane l).stacker.state ≠ .empty
  · rw [if_pos hstack, if_pos]
    obtain ⟨l, hl, hne⟩ := hstack
    refine .inr ⟨l, ?_, ?_⟩
    · rw [State.state_planClosed, hl]
    · rw [State.lane_planClosed]
      exact Lane.isDischarging_askedBy hl hne _ _
  · have hsame : s.planClosed = { s with phase := .stack } := by
      have hlanes : s.lanes.map (Lane.askedBy s.estop s.params.ts) = s.lanes :=
        Quad.ext_get fun l => by
          rw [Quad.get_map]
          exact Lane.askedBy_other (fun hl p hp =>
            hstack ⟨l, hl, fun he => StackState.noConfusion (he.symm.trans hp)⟩) _ _
      exact congrArg (fun lanes => ({ s with phase := .stack, lanes := lanes } : State)) hlanes
    rw [if_neg hstack, if_neg]
    · rw [hsame]
      rfl
    · rintro (hq | ⟨l, hl, hdis⟩)
      · exact hleft hq
      · rw [hsame] at hl hdis
        refine hstack ⟨l, hl, fun he => ?_⟩
        change (s.lane l).stacker.state.isDischarging = true at hdis
        rw [he] at hdis
        cases hdis

theorem State.planTest_eq_planMoved (s : State) : s.planTest = s.planMoved := by
  have hleft : s.queueLeft → s.planTest = s := fun hq =>
    State.planTest_of_undrained (Bool.eq_false_iff.2 fun hd => s.drained_iff.1 hd hq)
  unfold State.planMoved
  cases h : s.phase with
  | noChange => exact State.planTest_of_noChange h
  | track =>
    dsimp only
    split
    · next hq => exact hleft hq
    · next hq => exact State.planTest_of_track h hq
  | stack =>
    have htrack : s.trackTest = s := by
      rw [State.trackTest, if_neg fun hc => by rw [h] at hc; cases hc.1]
    rw [State.planTest, htrack, State.stackTest_of_stack h]

/-! ### What those tests leave as it is -/

theorem Reports.queue_offered_prefix (x : Reports) (r : Report) : x.queue <+: (x.offered r).queue := by
  unfold Reports.offered
  split
  · exact List.prefix_append _ _
  · exact List.prefix_refl _

theorem State.planMoved_cases (s : State) :
    s.planMoved = s ∨ s.planMoved = s.planClosed ∨ ∃ pair, s.planMoved = s.planDone pair := by
  unfold State.planMoved
  (repeat' split)
  · exact .inl rfl
  · exact .inl rfl
  · exact .inr (.inl rfl)
  · cases s.planNext with
    | none => exact .inr (.inl rfl)
    | some pair => exact .inr (.inr ⟨pair, rfl⟩)
  · exact .inl rfl
  · cases s.planNext with
    | none => exact .inl rfl
    | some pair => exact .inr (.inr ⟨pair, rfl⟩)

theorem State.planMoved_frame (s : State) : (∀ m, s.planMoved.queue m = s.queue m) ∧
    s.planMoved.alarms = s.alarms ∧ s.planMoved.scorch = s.scorch ∧
      s.planMoved.lineHold = s.lineHold ∧ s.reports.queue <+: s.planMoved.reports.queue ∧
        s.planMoved.stations = s.stations ∧ s.planMoved.travel = s.travel := by
  rcases s.planMoved_cases with h | h | ⟨pair, h⟩ <;> rw [h]
  · exact ⟨fun _ => rfl, rfl, rfl, rfl, List.prefix_refl _, rfl, rfl⟩
  · exact ⟨s.queue_planClosed, rfl, rfl, rfl, List.prefix_refl _, rfl, rfl⟩
  · rw [State.planDone, State.offer_eq]
    refine ⟨fun m => ?_, rfl, rfl, rfl, Reports.queue_offered_prefix _ _, rfl, rfl⟩
    fin_cases m <;> rfl

/-! ### The loss of a record past E0 (R90, R91) -/

/-- The deadline of a record past E0 has passed, with the loss and the occurrence that brings. -/
def State.Expires (s : State) (l : LaneNo) (r : Record) (cause : LostCause) (src : Source)
    (code : Nat) : Prop :=
  ((s.travel - r.deadline).msb = false ∧
      ((r.nextEye = .e1 ∧ cause = .missingE1 ∧ src = .wrap l ∧ code = 1) ∨
        (r.nextEye = .e2 ∧ cause = .missingE2 ∧ src = .jam l ∧ code = 1) ∨
        (r.nextEye = .e3 ∧ cause = .missingE3 ∧ src = .jam l ∧ code = 2) ∨
        (r.nextEye = .clear ∧ cause = .stuckE3 ∧ src = .jam l ∧ code = 4))) ∨
    ((s.travel - r.deadline).msb = true ∧ r.nextEye ≠ .e0 ∧
      (∃ d, r.clearDeadline = some d ∧ (s.travel - d).msb = false) ∧
      cause = .stuckE0 ∧ src = .jam l ∧ code = 3)

section
variable {s : State} {l : LaneNo} {r : Record} {cause : LostCause} {src : Source} {code : Nat}

theorem atOrPast_eq (a b : Pos) : atOrPast a b = !(a - b).msb := rfl

theorem State.Expires.dueCause (h : s.Expires l r cause src code) : s.dueCause l r = some cause := by
  unfold State.dueCause State.expiryCause
  rcases h with ⟨hpast, h⟩ | ⟨hahead, -, ⟨d, hd, hpast⟩, rfl, -⟩
  · rw [if_pos (by rw [atOrPast_eq, hpast]; rfl)]
    rcases h with ⟨he, rfl, -⟩ | ⟨he, rfl, -⟩ | ⟨he, rfl, -⟩ | ⟨he, rfl, -⟩ <;> rw [he]
  · rw [if_neg (by rw [atOrPast_eq, hahead]; exact Bool.false_ne_true), hd]
    exact if_pos (by rw [atOrPast_eq, hpast]; rfl)

theorem State.Expires.pastE0 (h : s.Expires l r cause src code) : r.nextEye ≠ .e0 := by
  rcases h with ⟨-, h⟩ | ⟨-, he, -⟩
  · rcases h with ⟨he, -⟩ | ⟨he, -⟩ | ⟨he, -⟩ | ⟨he, -⟩ <;> rw [he] <;> exact NextEye.noConfusion
  · exact he

theorem State.Expires.source (h : s.Expires l r cause src code) : src = .wrap l ∨ src = .jam l := by
  rcases h with ⟨-, ⟨-, -, rfl, -⟩ | ⟨-, -, rfl, -⟩ | ⟨-, -, rfl, -⟩ | ⟨-, -, rfl, -⟩⟩ |
    ⟨-, -, -, -, rfl, -⟩
  exacts [.inl rfl, .inr rfl, .inr rfl, .inr rfl, .inr rfl]

theorem State.Expires.markMerged (h : s.Expires l r cause src code) (u : State) :
    u.markMerged l cause = u := by
  rcases h with ⟨-, ⟨-, rfl, -⟩ | ⟨-, rfl, -⟩ | ⟨-, rfl, -⟩ | ⟨-, rfl, -⟩⟩ | ⟨-, -, -, rfl, -⟩ <;> rfl

theorem State.Expires.lossOccurrence (h : s.Expires l r cause src code) (u : State) :
    u.lossOccurrence l r cause = u.occur src code := by
  rcases h with ⟨-, ⟨-, rfl, rfl, rfl⟩ | ⟨-, rfl, rfl, rfl⟩ | ⟨-, rfl, rfl, rfl⟩ |
    ⟨-, rfl, rfl, rfl⟩⟩ | ⟨-, -, -, rfl, rfl, rfl⟩ <;> rfl

/-- WRAP and JAM take their lane out of OPEN and leave the phase of a plan change (R146). -/
theorem State.occur_halts (hsrc : src = .wrap l ∨ src = .jam l) (u : State) (code : Nat) :
    ((u.occur src code).lane l).state ≠ .opened ∧ (u.occur src code).phase = u.phase := by
  have hhalt : ∀ t : State, ((t.haltLane l).lane l).state ≠ .opened := fun t => by
    rw [State.haltLane, State.lane_leaveOpen]
    split
    · exact LaneState.noConfusion
    · next hh => exact fun ho => hh ⟨rfl, ho⟩
  have hphase : (u.latched src code).phase = u.phase := by rw [State.latched_eq]
  rw [State.occur_eq]
  rcases hsrc with rfl | rfl <;>
    exact ⟨hhalt _, (State.haltLane_phase _ l).trans hphase⟩

theorem State.noticeOf_of_past (h : r.nextEye ≠ .e0) (u : State) (d : Departure) :
    u.noticeOf r d = u := by
  unfold State.noticeOf
  split
  · next he _ => exact absurd he h
  · rfl

theorem State.dropRecord_eq_filter (hp : s.PoolSound) (hr : r ∈ s.queue l) : s.dropRecord l r.tag =
    s.setQueue l ((s.queue l).filter fun y => decide (y.tag ≠ r.tag)) := by
  obtain ⟨a, b, hab, hne, -, hdrop⟩ := hp.split hr
  rw [State.dropRecord, State.queue_setQueue, if_pos rfl] at hdrop
  have hkeep : (a ++ b).filter (fun y => decide (y.tag ≠ r.tag)) = a ++ b :=
    List.filter_eq_self.2 fun y hy => decide_eq_true (hne y hy)
  rw [State.dropRecord, hdrop, hab, List.filter_append, List.filter_cons_of_neg (by simp),
    ← List.filter_append, hkeep]

/-- The record leaves with its report and its occurrence; the lane it has halted has no ARMED station to
work for, and no station is owed a notice (R91, R108). -/
theorem State.Expires.loseRecord (h : s.Expires l r cause src code) (hp : s.PoolSound)
    (hr : r ∈ s.queue l) : s.loseRecord l r cause =
      (((s.setQueue l ((s.queue l).filter fun y => decide (y.tag ≠ r.tag))).offer
        (r.lostReport l cause)).occur src code).evalGuard := by
  unfold State.loseRecord
  rw [h.markMerged, State.noticeOf_of_past h.pastE0, h.lossOccurrence,
    State.work_of_unarmed (State.armedStation_of_shut (State.occur_halts h.source _ code).1),
    State.dropRecord_eq_filter hp hr]

end

/-- Settles O44: the deadline found due loses the record, and the tests of a plan change follow. -/
theorem passedDeadlinesLoseRecordsPastE0 : Obligations.PassedDeadlinesLoseRecordsPastE0 := by
  unfold Obligations.PassedDeadlinesLoseRecordsPastE0
  intro tag s hrun l r hp hr ht cause src code hexpires v hv
  have hexp : s.Expires l r cause src code := hexpires
  obtain ⟨-, htags, -⟩ := id hp
  have hlane := State.laneWithTag_of_mem htags hr
  have hfind := State.findRecord_of_mem htags hr
  rw [ht] at hlane hfind
  have hlost : s.loseRecord l r cause = v := by rw [hexp.loseRecord hp hr, hv, ← ht]; rfl
  have hexec : exec (.deadlinePass tag) s = .next v.planMoved := by
    rw [exec_deadlinePass hrun, State.passDeadline_of_lane (.inr hlane), State.expireIfDue,
      State.expireFor, hfind]
    dsimp only
    rw [hexp.dueCause]
    dsimp only
    rw [hlost, State.planTest_eq_planMoved]
  have hphase : v.phase = s.phase := by
    rw [hv]
    refine (State.occur_halts hexp.source _ code).2.trans ?_
    rw [State.offer_eq]
    rfl
  have htravel : v.travel = s.travel := by
    rw [← hlost]
    exact congrArg Kept.travel (s.kept_loseRecord l r cause)
  obtain ⟨hqueue, halarms, hscorch, hhold, hreports, hstations, hmoved⟩ := v.planMoved_frame
  refine ⟨fun hnone => ?_, hexec, v.planMoved, hexec, hqueue, halarms, hscorch, hhold, hreports,
    hstations, hmoved.trans htravel⟩
  rw [hexec, State.planMoved, hphase, hnone]

end Sys2Proof.Machine
end

section
/-!
PROOFS. The relations for statements O58 and O59: what a change from `s` to `t` keeps of ranges, pool,
deadlines and outstanding counts (`State.Tracks`), with the scorch timer (`State.KeepsPool`), and, for
a change that puts no record on E0, with the eyes (`State.Calm`).
-/

namespace Sys2Proof.Machine

/-! ### The invariants in the form the proofs use -/

/-- A record that waits for E0, of a station (R47). -/
def Record.awaits (st : StationNo) (r : Record) : Bool :=
  decide (r.nextEye = .e0) && decide (r.origin = some st)

/-- A record on E0 (R86). -/
def Record.onEntry (r : Record) : Bool := r.le0.isSome && r.te0.isNone

/-- What each station has outstanding is the number of its records that wait for E0, and what it is
still owed a notice of. -/
def State.Owes (s : State) (f : StationNo → Nat) : Prop :=
  ∀ st, (s.station st).outstanding = s.census (Record.awaits st) + f st

theorem State.outstandingSound_iff (s : State) : s.OutstandingSound ↔ s.Owes fun _ => 0 := by
  refine forall_congr' fun st => ?_
  rw [State.census, List.countP_eq_length_filter]
  exact Iff.rfl

/-- The records on E0 of a lane. -/
def State.onEntry (s : State) (l : LaneNo) : Nat := (s.queue l).countP Record.onEntry

theorem State.entrySound_iff (s : State) : s.EntrySound ↔ ∀ l,
    s.onEntry l ≤ 1 ∧ (0 < s.onEntry l → (s.eye l 0).accepted = true) ∧
      ∀ k, (s.eye l k).pending.isSome = decide ((s.eye l k).raw ≠ (s.eye l k).accepted) := by
  refine forall_congr' fun l => ?_
  have hmem : (∃ r ∈ s.queue l, r.le0.isSome = true ∧ r.te0.isNone = true) ↔ 0 < s.onEntry l := by
    rw [State.onEntry, List.countP_pos_iff]
    simp only [Record.onEntry, Bool.and_eq_true]
  rw [hmem, State.onEntry, List.countP_eq_length_filter]
  exact Iff.rfl

/-- Which records may have a deadline behind the travel, by lane and tag: their next-eye deadline, or
their entry-clear deadline. -/
def State.Late (s : State) (next clear : LaneNo → Nat → Prop) : Prop :=
  ∀ l, ∀ r ∈ s.queue l, (atOrPast s.travel r.deadline = true → next l r.tag) ∧
    ∀ d ∈ r.clearDeadline, atOrPast s.travel d = true → clear l r.tag

theorem State.dueCause_eq_none {s : State} {l : LaneNo} {r : Record} : s.dueCause l r = none ↔
    ¬ atOrPast s.travel r.deadline = true ∧
      ∀ d ∈ r.clearDeadline, ¬ atOrPast s.travel d = true := by
  unfold State.dueCause
  split
  · next h => simp [h]
  · next h =>
    split
    · next d hd => simp [h, hd]
    · next hd => simp [h, hd]

theorem State.deadlinesAhead_iff (s : State) :
    s.DeadlinesAhead ↔ s.Late (fun _ _ => False) fun _ _ => False := by
  simp only [State.DeadlinesAhead, State.Late, State.dueCause_eq_none]

theorem State.Late.mono {s : State} {next clear next' clear' : LaneNo → Nat → Prop}
    (h : s.Late next clear) (hn : ∀ l tag, next l tag → next' l tag)
    (hc : ∀ l tag, clear l tag → clear' l tag) : s.Late next' clear' := fun l r hr =>
  ⟨fun hp => hn _ _ ((h l r hr).1 hp), fun d hd hp => hc _ _ ((h l r hr).2 d hd hp)⟩

theorem State.zoneOccupied_eq (s : State) : s.zoneOccupied = decide (0 < s.census Record.inZone) := by
  rw [State.zoneOccupied, State.census, Bool.eq_iff_iff]
  simp [List.countP_pos_iff]

/-- The scorch timer agrees with the guard condition, which reads only how many records are in the
heated zone, F and Vs. -/
theorem State.GuardSound.of_same {s t : State} (h : s.GuardSound)
    (hz : t.census Record.inZone = s.census Record.inZone) (hs : t.speed = s.speed)
    (hp : t.params.vs = s.params.vs) (hg : t.scorch = .idle ↔ s.scorch = .idle) : t.GuardSound := by
  rw [State.GuardSound, State.guardHolds, State.zoneOccupied_eq] at h ⊢
  rw [hz, hs, hp, hg]
  exact h

/-- An evaluation makes the scorch timer agree with the guard condition (R155). -/
theorem State.guardSound_evalGuard (s : State) : s.evalGuard.GuardSound := by
  have hholds : s.evalGuard.guardHolds = s.guardHolds := rfl
  rw [State.GuardSound, hholds]
  cases h : s.guardHolds
  · simp [State.evalGuard, h]
  · simp only [State.evalGuard, h, if_true]
    cases s.scorch <;> simp

/-! ### The relations -/

/-- What a change keeps of pool, ranges, deadlines and outstanding counts. -/
structure State.Tracks (s t : State) : Prop where
  pool : s.PoolSound → t.PoolSound
  ranges : s.PoolSound → s.RangesSound → t.RangesSound
  late : s.PoolSound → s.RangesSound → ∀ next clear, s.Late next clear → t.Late next clear
  owes : s.PoolSound → ∀ f, s.Owes f → t.Owes f

/-- And of the scorch timer. -/
structure State.KeepsPool (s t : State) : Prop extends State.Tracks s t where
  guard : s.PoolSound → s.GuardSound → t.GuardSound

/-- The same, for a change that leaves the eyes and puts no record on E0. -/
structure State.Calm (s t : State) : Prop extends State.KeepsPool s t where
  eyes : s.PoolSound → t.eyeBanks = s.eyeBanks
  entered : s.PoolSound → ∀ l, t.onEntry l ≤ s.onEntry l

theorem State.Tracks.trans {s t u : State} (h : s.Tracks t) (g : t.Tracks u) : s.Tracks u where
  pool := g.pool ∘ h.pool
  ranges hp hr := g.ranges (h.pool hp) (h.ranges hp hr)
  late hp hr _ _ hl := g.late (h.pool hp) (h.ranges hp hr) _ _ (h.late hp hr _ _ hl)
  owes hp _ ho := g.owes (h.pool hp) _ (h.owes hp _ ho)

theorem State.KeepsPool.trans {s t u : State} (h : s.KeepsPool t) (g : t.KeepsPool u) :
    s.KeepsPool u where
  toTracks := h.toTracks.trans g.toTracks
  guard hp hg := g.guard (h.pool hp) (h.guard hp hg)

theorem State.Calm.trans {s t u : State} (h : s.Calm t) (g : t.Calm u) : s.Calm u where
  toKeepsPool := h.toKeepsPool.trans g.toKeepsPool
  eyes hp := (g.eyes (h.pool hp)).trans (h.eyes hp)
  entered hp l := (g.entered (h.pool hp) l).trans (h.entered hp l)

theorem State.Calm.refl (s : State) : s.Calm s :=
  ⟨⟨⟨id, fun _ => id, fun _ _ _ _ => id, fun _ _ => id⟩, fun _ => id⟩, fun _ => rfl,
    fun _ _ => le_rfl⟩

/-- Each part of the relation speaks of sound pools only. -/
theorem State.Calm.of_pool {s t : State} (h : s.PoolSound → s.Calm t) : s.Calm t :=
  ⟨⟨⟨fun hp => (h hp).pool hp, fun hp => (h hp).ranges hp, fun hp => (h hp).late hp,
    fun hp => (h hp).owes hp⟩, fun hp => (h hp).guard hp⟩, fun hp => (h hp).eyes hp,
    fun hp => (h hp).entered hp⟩

/-- What each task keeps, the tasks taken in order keep. -/
theorem State.calm_forEach {τ : Type} {run : τ → State → State}
    (h : ∀ t (s : State), s.Calm (run t s)) (tasks : List τ) (s : State) :
    s.Calm (forEach run tasks s) :=
  forEach_keeps (P := s.Calm) (fun t u hu => hu.trans (h t u)) tasks s (.refl s)

/-! ### Changes of what no invariant here reads -/

/-- A record but for its reject cause, which no invariant here reads. -/
def Record.core (r : Record) : Record := { r with cause := none }

theorem Record.core_giveCause (r : Record) (c : RejectCause) : (r.giveCause c).core = r.core := by
  rw [Record.giveCause_eq]
  rfl

/-- What the invariants read of a lane, besides its eyes. -/
structure LanePool where
  geometry : Geometry
  cores : List Record

def Lane.pool (ln : Lane) : LanePool := ⟨ln.geometry, ln.queue.map Record.core⟩

/-- What the invariants read of a station. -/
structure StationPool where
  params : StationParams
  outstanding : Nat

def Station.pool (x : Station) : StationPool := ⟨x.params, x.outstanding⟩

/-- What the invariants read of the state, besides the eyes. -/
structure PoolView where
  travel : Pos
  residual : Nat
  gateCount : Nat
  speed : Nat
  params : LineParams
  tagCounter : Nat
  scorch : GuardTimer
  lanes : Quad LanePool
  stations : Quad StationPool

def State.poolView (s : State) : PoolView :=
  ⟨s.travel, s.residual, s.gateCount, s.speed, s.params, s.tagCounter, s.scorch,
    s.lanes.map Lane.pool, s.stations.map Station.pool⟩

theorem State.pool_of_poolView {s t : State} (h : t.poolView = s.poolView) (l : LaneNo) :
    (t.lane l).pool = (s.lane l).pool := by
  have hl := congrArg (fun x => x.lanes.get l) h
  simpa only [State.poolView, Quad.get_map, State.lane] using hl

theorem State.stationPool_of_poolView {s t : State} (h : t.poolView = s.poolView)
    (st : StationNo) : (t.station st).pool = (s.station st).pool := by
  have hl := congrArg (fun x => x.stations.get st) h
  simpa only [State.poolView, Quad.get_map, State.station] using hl

/-- Two queues that differ in reject causes alone. -/
theorem countP_of_cores {q q' : List Record} (h : q'.map Record.core = q.map Record.core)
    {p : Record → Bool} (hp : ∀ r, p r.core = p r) : q'.countP p = q.countP p := by
  have hcore : ∀ q : List Record, (q.map Record.core).countP p = q.countP p := fun q => by
    rw [List.countP_map]
    exact List.countP_congr fun r _ => by rw [Function.comp, hp]
  rw [← hcore, h, hcore]

/-- What no invariant here reads may change, and with it what has a range or bears on the guard, where
those invariants are kept. -/
theorem State.keepsPool_of_cores {s t : State}
    (hcores : ∀ l, (t.queue l).map Record.core = (s.queue l).map Record.core)
    (hout : ∀ st, (t.station st).outstanding = (s.station st).outstanding)
    (htravel : t.travel = s.travel) (htag : t.tagCounter = s.tagCounter)
    (hranges : s.RangesSound → t.RangesSound) (hguard : s.GuardSound → t.GuardSound) :
    s.KeepsPool t := by
  refine ⟨⟨fun hp => hp.of_labels (fun l => ?_) htag, fun _ => hranges,
    fun _ _ next clear hl l r hr => ?_, fun _ f ho st => ?_⟩, fun _ => hguard⟩
  · have hlabel : ∀ q : List Record, q.map Record.label = (q.map Record.core).map Record.label :=
      fun q => by rw [List.map_map]; rfl
    rw [hlabel, hcores, ← hlabel]
  · obtain ⟨y, hy, he⟩ := List.mem_map.1 (hcores l ▸ List.mem_map_of_mem (f := Record.core) hr)
    have htag : y.tag = r.tag := congrArg Record.tag (a₁ := y.core) (a₂ := r.core) he
    have hnext : y.deadline = r.deadline :=
      congrArg Record.deadline (a₁ := y.core) (a₂ := r.core) he
    have hclear : y.clearDeadline = r.clearDeadline :=
      congrArg Record.clearDeadline (a₁ := y.core) (a₂ := r.core) he
    rw [htravel, ← htag, ← hnext, ← hclear]
    exact hl l y hy
  · rw [hout, ho st, State.census_congr fun l => countP_of_cores (hcores l) fun _ => rfl]

theorem State.cores_of_poolView {s t : State} (h : t.poolView = s.poolView) (l : LaneNo) :
    (t.queue l).map Record.core = (s.queue l).map Record.core :=
  congrArg LanePool.cores (State.pool_of_poolView h l)

theorem State.keepsPool_of_same {s t : State} (h : t.poolView = s.poolView) : s.KeepsPool t := by
  have hgeo : ∀ l, (t.lane l).geometry = (s.lane l).geometry := fun l =>
    congrArg LanePool.geometry (State.pool_of_poolView h l)
  have hpar : ∀ st, (t.station st).params = (s.station st).params := fun st =>
    congrArg StationPool.params (State.stationPool_of_poolView h st)
  have hcores := State.cores_of_poolView h
  have hout := fun st => congrArg StationPool.outstanding (State.stationPool_of_poolView h st)
  simp only [State.poolView, PoolView.mk.injEq] at h
  obtain ⟨htravel, hres, hcount, hspeed, hparams, htag, hscorch, -, -⟩ := h
  refine State.keepsPool_of_cores hcores hout htravel htag (fun hr => ?_) fun hg => ?_
  · simp only [State.RangesSound, hres, hcount, hspeed, hparams, hgeo, hpar]
    exact hr
  · exact hg.of_same (State.census_congr fun l => countP_of_cores (hcores l) fun _ => rfl) hspeed
      (congrArg LineParams.vs hparams) (by rw [hscorch])

end Sys2Proof.Machine
end

section
/-!
PROOFS. Operations of which `State.PoolView` sees nothing: whatever feeds no sheet, takes no notice,
sets no deadline and removes no record.
-/

namespace Sys2Proof.Machine

theorem State.poolView_modLane (s : State) (l : LaneNo) (f : Lane → Lane)
    (h : (f (s.lane l)).pool = (s.lane l).pool) : (s.modLane l f).poolView = s.poolView := by
  simp only [State.poolView, State.modLane, State.setLane, Quad.map_set_same _ _ _ _ h]

theorem State.poolView_modStation (s : State) (st : StationNo) (f : Station → Station)
    (h : (f (s.station st)).pool = (s.station st).pool) :
    (s.modStation st f).poolView = s.poolView := by
  simp only [State.poolView, State.modStation, State.setStation, Quad.map_set_same _ _ _ _ h]

theorem State.poolView_mapLanes (s : State) {f : Lane → Lane} (h : ∀ ln, (f ln).pool = ln.pool) :
    { s with lanes := s.lanes.map f }.poolView = s.poolView := by
  have hmap : (s.lanes.map f).map Lane.pool = s.lanes.map Lane.pool :=
    Quad.ext_get fun l => by simp only [Quad.get_map, h]
  simp only [State.poolView, hmap]

@[simp] theorem State.poolView_draw (s : State) (n : Nat) : (s.draw n).2.poolView = s.poolView := by
  rcases s.draw_two n with h | h <;> rw [h]
  rfl

@[simp] theorem State.poolView_setEye (s : State) (l : LaneNo) (k : EyeNo) (e : Eye) :
    (s.setEye l k e).poolView = s.poolView :=
  s.poolView_modLane l _ rfl

@[simp] theorem State.poolView_giveCause (s : State) (l : LaneNo) (tag : Nat) (c : RejectCause) :
    (s.modRecord l tag (Record.giveCause c)).poolView = s.poolView := by
  refine s.poolView_modLane l _ ?_
  have hcore : (Record.core ∘ fun r : Record => if r.tag = tag then r.giveCause c else r) =
      Record.core := by
    funext r
    dsimp only [Function.comp]
    split
    · exact r.core_giveCause c
    · rfl
  simp only [Lane.pool, State.queue, List.map_map, hcore]

@[simp] theorem State.poolView_offer (s : State) (r : Report) : (s.offer r).poolView = s.poolView := by
  rw [State.offer_eq]
  rfl

/-! ### Occurrences -/

@[simp] theorem State.poolView_leaveOpen (s : State) (l : LaneNo) (a : LaneState) :
    (s.leaveOpen l a).poolView = s.poolView := by
  have hdisarm : ∀ x : Station, x.disarm.pool = x.pool := fun x => by
    unfold Station.disarm
    split <;> rfl
  unfold State.leaveOpen
  split
  · rw [State.poolView_modLane _ _ _ rfl]
    split
    · exact s.poolView_modStation _ _ (hdisarm _)
    · rfl
  · rfl

@[simp] theorem State.poolView_haltEvery (s : State) : s.haltEvery.poolView = s.poolView :=
  forEach_const State.poolView (fun l t => t.poolView_leaveOpen l .halted) _ _

@[simp] theorem State.poolView_haltFor (s : State) (src : Source) :
    (s.haltFor src).poolView = s.poolView := by
  unfold State.haltFor
  split <;> simp [State.haltLane]

@[simp] theorem State.poolView_occur (s : State) (src : Source) (c : Nat) :
    (s.occur src c).poolView = s.poolView := by
  rw [State.occur_eq]
  change ((s.latched src c).haltFor src).poolView = _
  rw [State.poolView_haltFor, State.latched_eq]
  rfl

@[simp] theorem State.poolView_markMerged (s : State) (l : LaneNo) (c : LostCause) :
    (s.markMerged l c).poolView = s.poolView := by
  unfold State.markMerged
  split <;> simp

@[simp] theorem State.poolView_lossOccurrence (s : State) (l : LaneNo) (r : Record) (c : LostCause) :
    (s.lossOccurrence l r c).poolView = s.poolView := by
  unfold State.lossOccurrence
  (repeat' split) <;> simp

/-! ### Stations in their clamp cycle -/

@[simp] theorem State.poolView_openTimeOver (s : State) (st : StationNo) :
    (s.openTimeOver st).poolView = s.poolView := by
  unfold State.openTimeOver
  split
  · exact s.poolView_modStation _ _ rfl
  · rfl

@[simp] theorem State.poolView_dwellOver (s : State) (st : StationNo) :
    (s.dwellOver st).poolView = s.poolView := by
  unfold State.dwellOver
  split
  · exact s.poolView_modStation _ _ rfl
  · rfl

/-! ### Fold interfaces and stacking units -/

@[simp] theorem State.poolView_modFolder (s : State) (l : LaneNo) (f : Folder → Folder) :
    (s.modFolder l f).poolView = s.poolView :=
  s.poolView_modLane l _ rfl

@[simp] theorem State.poolView_foldArrival (s : State) (l : LaneNo) (c : FoldCommand) :
    (s.foldArrival l c).poolView = s.poolView := by
  unfold State.foldArrival
  split <;> simp

@[simp] theorem State.poolView_emptyFolder (s : State) (l : LaneNo) :
    (s.emptyFolder l).poolView = s.poolView :=
  s.poolView_modFolder l _

@[simp] theorem State.poolView_abortFolder (s : State) (l : LaneNo) :
    (s.abortFolder l).poolView = s.poolView := by
  unfold State.abortFolder
  rw [State.poolView_emptyFolder]
  exact forEach_const State.poolView (fun (c : FoldCommand) t => t.poolView_giveCause l c.tag .foldMissed) _ _

@[simp] theorem State.poolView_modStacker (s : State) (l : LaneNo) (f : Stacker → Stacker) :
    (s.modStacker l f).poolView = s.poolView :=
  s.poolView_modLane l _ rfl

@[simp] theorem State.poolView_beginDischarge (s : State) (l : LaneNo) (r : StackReason)
    (p : Option PocketPiece) : (s.beginDischarge l r p).poolView = s.poolView := by
  unfold State.beginDischarge
  split <;> simp

@[simp] theorem State.poolView_putPile (s : State) (l : LaneNo) (p : Pile) :
    (s.putPile l p).poolView = s.poolView := by
  unfold State.putPile
  split <;> simp

@[simp] theorem State.poolView_startPile (s : State) (l : LaneNo) (p : PocketPiece) :
    (s.startPile l p).poolView = s.poolView := by
  unfold State.startPile
  split <;> simp

@[simp] theorem State.poolView_receivePiece (s : State) (l : LaneNo) (r : Record) :
    (s.receivePiece l r).2.poolView = s.poolView := by
  unfold State.receivePiece State.stackGood
  (repeat' split) <;> simp

@[simp] theorem State.poolView_stackerTimedOut (s : State) (l : LaneNo) :
    (s.stackerTimedOut l).poolView = s.poolView := by
  unfold State.stackerTimedOut
  split <;> simp

/-! ### Plan changes -/

@[simp] theorem State.poolView_trackTest (s : State) : s.trackTest.poolView = s.poolView := by
  unfold State.trackTest
  split
  · exact forEach_const State.poolView (fun l t => by unfold State.askDischarge; split <;> simp) _ _
  · rfl

@[simp] theorem State.poolView_completeChange (s : State) (p : PlanPair) :
    (s.completeChange p).poolView = s.poolView := by
  rw [State.completeChange_eq, State.poolView_offer]
  rfl

@[simp] theorem State.poolView_stackTest (s : State) : s.stackTest.poolView = s.poolView := by
  unfold State.stackTest
  (repeat' split) <;> simp

@[simp] theorem State.poolView_planTest (s : State) : s.planTest.poolView = s.poolView := by
  simp [State.planTest]

@[simp] theorem State.poolView_clearStack (s : State) (l : LaneNo) :
    (s.clearStack l).poolView = s.poolView := by
  unfold State.clearStack
  (repeat' split) <;> simp

theorem State.eyeBanks_stackTest (s : State) : s.stackTest.eyeBanks = s.eyeBanks := by
  unfold State.stackTest
  (repeat' split) <;> simp

theorem State.eyeBanks_clearStack (s : State) (l : LaneNo) :
    (s.clearStack l).eyeBanks = s.eyeBanks := by
  unfold State.clearStack
  (repeat' split) <;> simp [State.eyeBanks_stackTest]

end Sys2Proof.Machine
end

section
/-!
PROOFS. What arbiters and station sequencers keep: the only operation of theirs that the invariants of
the pool see is the release, which makes a record (chapters 3 and 4).
-/

namespace Sys2Proof.Machine

theorem State.onEntry_of_poolView {s t : State} (h : t.poolView = s.poolView) (l : LaneNo) :
    t.onEntry l = s.onEntry l :=
  countP_of_cores (State.cores_of_poolView h l) fun _ => rfl

theorem State.Calm.of_same {s t : State} (h : t.poolView = s.poolView)
    (he : t.eyeBanks = s.eyeBanks) : s.Calm t :=
  ⟨State.keepsPool_of_same h, fun _ => he, fun _ l => (State.onEntry_of_poolView h l).le⟩

theorem State.calm_modLane (s : State) (l : LaneNo) (f : Lane → Lane)
    (h : (f (s.lane l)).pool = (s.lane l).pool) (he : (f (s.lane l)).eyes = (s.lane l).eyes) :
    s.Calm (s.modLane l f) :=
  .of_same (s.poolView_modLane l f h) (s.eyeBanks_modLane l f he)

theorem State.calm_modStation (s : State) (st : StationNo) (f : Station → Station)
    (h : (f (s.station st)).pool = (s.station st).pool) : s.Calm (s.modStation st f) :=
  .of_same (s.poolView_modStation st f h) (s.eyeBanks_modStation st f)

theorem State.calm_draw (s : State) (n : Nat) : s.Calm (s.draw n).2 :=
  .of_same (s.poolView_draw n) (s.eyeBanks_draw n)

theorem State.calm_offer (s : State) (r : Report) : s.Calm (s.offer r) :=
  .of_same (s.poolView_offer r) (s.eyeBanks_offer r)

theorem State.calm_occur (s : State) (src : Source) (c : Nat) : s.Calm (s.occur src c) :=
  .of_same (s.poolView_occur src c) (s.eyeBanks_occur src c)

theorem State.calm_evalGuard (s : State) : s.Calm s.evalGuard :=
  ⟨⟨⟨id, fun _ => id, fun _ _ _ _ => id, fun _ _ => id⟩, fun _ _ => s.guardSound_evalGuard⟩,
    fun _ => rfl, fun _ _ => le_rfl⟩

/-! ### A record joins -/

/-- What no arbiter and no internal operation writes includes all that has a range. -/
theorem State.ranges_of_steady {s t : State} (h : t.steady = s.steady) (hk : t.kept = s.kept)
    (hr : s.RangesSound) : t.RangesSound := by
  have hresidual : t.residual = s.residual := congrArg Kept.residual hk
  have hcount : t.gateCount = s.gateCount := congrArg Kept.gateCount hk
  have hspeed : t.speed = s.speed := congrArg Kept.speed hk
  have hparams : t.params = s.params := congrArg Kept.params hk
  have hgeo : ∀ l, (t.lane l).geometry = (s.lane l).geometry := fun l =>
    congrArg LaneSteady.geometry (State.steady_lane h l)
  have hstation : ∀ st, (t.station st).params = (s.station st).params := fun st =>
    congrArg StationSteady.params (State.steady_station h st)
  simp only [State.RangesSound, hresidual, hcount, hspeed, hparams, hgeo, hstation]
  exact hr

section
variable {l : LaneNo} {r : Record} {s t : State}

theorem State.Joined.speed (h : State.Joined l r s t) : t.speed = s.speed :=
  congrArg Kept.speed h.kept

/-- A record that joins may be late itself; those already there are as they were. -/
theorem State.Joined.late (h : State.Joined l r s t) {next clear : LaneNo → Nat → Prop}
    (hl : s.Late next clear) (hn : atOrPast s.travel r.deadline = true → next l r.tag)
    (hc : ∀ d ∈ r.clearDeadline, atOrPast s.travel d = true → clear l r.tag) :
    t.Late next clear := by
  have htravel : t.travel = s.travel := congrArg Kept.travel h.kept
  intro m y hy
  rw [htravel]
  rcases h.mem hy with ⟨rfl, rfl⟩ | hy
  · exact ⟨hn, hc⟩
  · exact hl m y hy

theorem State.Joined.guard (h : State.Joined l r s t) (hz : r.inZone = false) (hg : s.GuardSound) :
    t.GuardSound := by
  have hscorch : t.scorch = s.scorch := congrArg Steady.scorch h.steady
  refine hg.of_same ?_ h.speed (congrArg (fun k => k.params.vs) h.kept) (by rw [hscorch])
  rw [h.census, hz, if_neg Bool.false_ne_true]
  rfl

end

/-- A deadline set ahead of the travel is not passed. -/
theorem atOrPast_ahead (x : Pos) {a b : Nat} (hpos : 0 < a + b) (hlt : a + b < 2147483648) :
    atOrPast x (posAdd (posAdd x a) b) = false := by
  have hdiff : x - (x + BitVec.ofNat 32 a + BitVec.ofNat 32 b) = -BitVec.ofNat 32 (a + b) := by
    rw [BitVec.ofNat_add]
    ring
  rw [atOrPast, posAdd, posAdd, hdiff, BitVec.msb_eq_decide, BitVec.toNat_neg, BitVec.toNat_ofNat]
  have hle : 2147483648 ≤ (4294967296 - (a + b) % 4294967296) % 4294967296 := by omega
  simpa using hle

/-! ### The release (R74) -/

theorem State.joined_releaseOf {s : State} (h : s.hasSlot = true) (l : LaneNo) (st : StationNo)
    (b : Batch) : State.Joined l (s.releasedRecord l st b (s.predictedEntry st)) s
      (s.releaseOf l st b) where
  slot := h
  tag := rfl
  lane := rfl
  queue := s.queue_releaseOf l st b ▸ List.perm_append_singleton _ _
  other m hm := congrArg Lane.queue ((s.arbiterOnly_releaseOf l st b).1 m hm)
  counter := rfl
  steady := s.steady_releaseOf l st b
  kept := s.kept_releaseOf l st b

theorem State.lead_le {s : State} (h : s.RangesSound) (st : StationNo) : s.lead st ≤ 4080 := by
  obtain ⟨-, -, hspeed, -, -, hstation⟩ := h
  obtain ⟨-, ⟨-, hopen⟩, -⟩ := hstation st
  have hmul : s.speed * (s.station st).params.openMs ≤ 2040 * 2000 := Nat.mul_le_mul hspeed hopen
  unfold State.lead
  omega

theorem State.releasedRecord_ahead {s : State} (h : s.RangesSound) (l : LaneNo) (st : StationNo)
    (b : Batch) :
    atOrPast s.travel (s.releasedRecord l st b (s.predictedEntry st)).deadline = false := by
  have hlead := State.lead_le h st
  obtain ⟨-, -, -, ⟨-, hfe, -⟩, hgeo, hstation⟩ := h
  obtain ⟨hdrop, -⟩ := hstation st
  obtain ⟨-, -, -, -, ⟨hlow, hhigh⟩, -⟩ := hgeo l
  exact atOrPast_ahead s.travel (by omega) (by omega)

theorem State.outstanding_releaseOf (s : State) (l : LaneNo) (st su : StationNo) (b : Batch) :
    ((s.releaseOf l st b).station su).outstanding =
      (s.station su).outstanding + if su = st then 1 else 0 := by
  split
  · next e =>
    rw [e, State.releaseOf, State.modLane_eq, State.station_setLane, State.station_setStation_self]
    rfl
  · next e => rw [State.station_releaseOf_ne s l e b]; rfl

theorem State.calm_releaseOf {s : State} (h : s.hasSlot = true) (l : LaneNo) (st : StationNo)
    (b : Batch) : s.Calm (s.releaseOf l st b) := by
  have hj := s.joined_releaseOf h l st b
  refine ⟨⟨⟨hj.pool, fun _ hr => State.ranges_of_steady hj.steady hj.kept hr,
    fun _ hr _ _ hl => hj.late hl (fun hp => ?_) (fun d hd => nomatch hd), fun _ f ho su => ?_⟩,
    fun _ => hj.guard rfl⟩, fun _ => State.eyeBanks_of_steady hj.steady, fun _ m => ?_⟩
  · rw [State.releasedRecord_ahead hr] at hp
    cases hp
  · have haw : (s.releasedRecord l st b (s.predictedEntry st)).awaits su = decide (su = st) := by
      simp [Record.awaits, State.releasedRecord, eq_comm]
    rw [State.outstanding_releaseOf, ho su, hj.census, haw]
    by_cases e : su = st <;> simp [e]
    omega
  · have hentry : (s.releasedRecord l st b (s.predictedEntry st)).onEntry = false := rfl
    rw [State.onEntry, State.onEntry, hj.countP, hentry]
    simp

theorem State.calm_releaseIfMet (s : State) (l : LaneNo) (st : StationNo) :
    s.Calm (s.releaseIfMet l st) := by
  unfold State.releaseIfMet State.releaseStep
  split
  · next hmet =>
    obtain ⟨-, hslot⟩ := Bool.and_eq_true _ _ ▸ hmet
    split
    · exact State.calm_releaseOf hslot l st _
    · exact .refl s
  · exact .refl s

/-! ### Decisions and workings -/

theorem State.calm_workAndTest (s : State) (l : LaneNo) (st : StationNo) :
    s.Calm (s.workAndTest l st) :=
  (s.calm_modLane l _ rfl rfl).trans ((s.workPoint l st).calm_releaseIfMet l st)

theorem State.calm_decideUpTo (l : LaneNo) (n : Nat) (s : State) : s.Calm (s.decideUpTo l n) := by
  induction n generalizing s with
  | zero => exact .refl s
  | succ n ih =>
    unfold State.decideUpTo
    split
    · exact .refl s
    · next st _ =>
      have hgrant : s.Calm (s.grantTo l st) :=
        (s.calm_modLane l _ rfl rfl).trans (State.calm_modStation _ st _ rfl)
      exact hgrant.trans ((State.calm_workAndTest _ l st).trans (ih _))

theorem State.calm_decideGrant (s : State) (l : LaneNo) : s.Calm (s.decideGrant l) :=
  State.calm_decideUpTo l 4 s

theorem State.calm_work (s : State) (l : LaneNo) : s.Calm (s.work l) := by
  unfold State.work
  split
  · exact (s.calm_workAndTest l _).trans (State.calm_decideGrant _ l)
  · exact .refl s

theorem State.calm_workIf (s : State) (l : LaneNo) (y : Bool) : s.Calm (s.workIf l y) := by
  unfold State.workIf
  split
  · exact s.calm_work l
  · exact .refl s

theorem State.calm_testRelease (s : State) (l : LaneNo) : s.Calm (s.testRelease l) := by
  unfold State.testRelease
  split
  · exact (s.calm_releaseIfMet l _).trans (State.calm_decideGrant _ l)
  · exact .refl s

theorem State.calm_armHolder (s : State) (l : LaneNo) (st : StationNo) :
    s.Calm (s.armHolder l st) :=
  (s.calm_modStation st _ rfl).trans
    ((State.calm_workAndTest _ l st).trans (State.calm_decideGrant _ l))

theorem State.calm_giveBack (s : State) (st : StationNo) : s.Calm (s.giveBack st) := by
  unfold State.giveBack
  split
  · exact (s.calm_modLane _ _ rfl rfl).trans (State.calm_decideGrant _ _)
  · exact .refl s

/-! ### Station sequencers -/

theorem State.calm_testHold (s : State) (st : StationNo) : s.Calm (s.testHold st) := by
  unfold State.testHold
  split
  · exact s.calm_giveBack st
  · exact .refl s

theorem State.calm_enterWaiting (s : State) (st : StationNo) : s.Calm (s.enterWaiting st) :=
  (s.calm_modStation st _ rfl).trans (State.calm_testHold _ st)

theorem State.calm_completeBatch (s : State) (st : StationNo) (c : Bool) :
    s.Calm (s.completeBatch st c) := by
  unfold State.completeBatch
  split
  · exact .refl s
  · exact (s.calm_offer _).trans
      ((State.calm_modStation _ st Station.promote rfl).trans (State.calm_giveBack _ st))

theorem State.calm_afterClampCycle (s : State) (st : StationNo) : s.Calm (s.afterClampCycle st) := by
  unfold State.afterClampCycle
  split
  · exact s.calm_modStation st _ rfl
  · split
    · exact s.calm_enterWaiting st
    · split
      · exact s.calm_modStation st _ rfl
      · exact s.calm_completeBatch st false

theorem State.calm_pedal (s : State) (st : StationNo) : s.Calm (s.pedal st) := by
  have hload : s.Calm (s.modStation st fun x => { x with state := .loaded }) :=
    s.calm_modStation st _ rfl
  unfold State.pedal
  split
  · split
    · exact hload.trans (State.calm_armHolder _ _ st)
    · exact hload.trans (State.calm_decideGrant _ _)
  · exact .refl s

theorem State.calm_returnTimeOver (s : State) (st : StationNo) : s.Calm (s.returnTimeOver st) := by
  unfold State.returnTimeOver
  split
  · exact (s.calm_modStation st Station.atRest rfl).trans (State.calm_afterClampCycle _ st)
  · exact .refl s

theorem State.calm_stopStation (s : State) (st : StationNo) : s.Calm (s.stopStation st) := by
  have hrest : s.Calm (s.modStation st Station.atRest) := s.calm_modStation st _ rfl
  unfold State.stopStation
  split
  · exact hrest.trans (State.calm_afterClampCycle _ st)
  · exact hrest

theorem State.calm_inFreeOrder {τ : Type} [DecidableEq τ] {run : τ → State → State}
    (h : ∀ t (s : State), s.Calm (run t s)) (tasks : List τ) (s : State) :
    s.Calm (inFreeOrder run tasks s) :=
  inFreeOrder_keeps (P := s.Calm) (fun u n hu => hu.trans (u.calm_draw n))
    (fun t u hu => hu.trans (h t u)) tasks s (.refl s)

theorem State.calm_stopStations (s : State) : s.Calm s.stopStations :=
  (State.calm_forEach (fun st t => t.calm_stopStation st) _ s).trans
    (State.calm_inFreeOrder (fun st t => t.calm_stopStation st) _ _)

theorem State.calm_workAll (s : State) : s.Calm s.workAll :=
  (State.calm_forEach (fun l t => t.calm_work l) _ s).trans
    (State.calm_inFreeOrder (fun l t => t.calm_work l) _ _)

end Sys2Proof.Machine
end

section
/-!
PROOFS. Notices, removals and deadlines: a record that waited for E0 leaves its station's count with
the notice, and a record found late leaves the pool (sections 3.6, 5.4 and 5.5).
-/

namespace Sys2Proof.Machine

theorem State.Calm.of_evalGuard {s t : State} (h : s.Tracks t)
    (he : t.eyeBanks = s.eyeBanks) (hn : ∀ l, t.onEntry l ≤ s.onEntry l) : s.Calm t.evalGuard :=
  ⟨⟨h.trans t.calm_evalGuard.toTracks, fun _ _ => t.guardSound_evalGuard⟩, fun _ => he, fun _ => hn⟩

/-! ### Notices (R47 to R49) -/

/-- The changes that take the notice of a record: what the station has outstanding for it is paid, and
the rest is as in `State.Calm`. -/
structure State.Notified (r : Record) (s t : State) : Prop where
  pool : s.PoolSound → t.PoolSound
  ranges : s.PoolSound → s.RangesSound → t.RangesSound
  late : s.PoolSound → s.RangesSound → ∀ next clear, s.Late next clear → t.Late next clear
  owes : s.PoolSound → ∀ f, (s.Owes fun st => f st + if r.awaits st = true then 1 else 0) → t.Owes f
  guard : s.PoolSound → s.GuardSound → t.GuardSound
  eyes : s.PoolSound → t.eyeBanks = s.eyeBanks
  entered : s.PoolSound → ∀ l, t.onEntry l ≤ s.onEntry l

theorem State.Notified.after {r : Record} {s t u : State} (h : s.Calm t) (g : t.Notified r u) :
    s.Notified r u where
  pool := g.pool ∘ h.pool
  ranges hp hr := g.ranges (h.pool hp) (h.ranges hp hr)
  late hp hr _ _ hl := g.late (h.pool hp) (h.ranges hp hr) _ _ (h.late hp hr _ _ hl)
  owes hp _ ho := g.owes (h.pool hp) _ (h.owes hp _ ho)
  guard hp hg := g.guard (h.pool hp) (h.guard hp hg)
  eyes hp := (g.eyes (h.pool hp)).trans (h.eyes hp)
  entered hp l := (g.entered (h.pool hp) l).trans (h.entered hp l)

theorem State.Notified.trans {r : Record} {s t u : State} (h : s.Notified r t) (g : t.Calm u) :
    s.Notified r u where
  pool := g.pool ∘ h.pool
  ranges hp hr := g.ranges (h.pool hp) (h.ranges hp hr)
  late hp hr _ _ hl := g.late (h.pool hp) (h.ranges hp hr) _ _ (h.late hp hr _ _ hl)
  owes hp _ ho := g.owes (h.pool hp) _ (h.owes hp _ ho)
  guard hp hg := g.guard (h.pool hp) (h.guard hp hg)
  eyes hp := (g.eyes (h.pool hp)).trans (h.eyes hp)
  entered hp l := (g.entered (h.pool hp) l).trans (h.entered hp l)

/-- A record that waits for E0 of no station leaves no notice. -/
theorem State.Notified.of_calm {r : Record} {s t : State} (hr : ∀ st, r.awaits st = false)
    (h : s.Calm t) : s.Notified r t where
  pool := h.pool
  ranges := h.ranges
  late := h.late
  owes hp f ho := h.owes hp f fun st => by simpa [hr st] using ho st
  guard := h.guard
  eyes := h.eyes
  entered := h.entered

theorem State.notified_modStation {r : Record} {st : StationNo}
    (hr : ∀ su, r.awaits su = decide (su = st)) (s : State) (batch : Nat) (d : Departure) :
    s.Notified r (s.modStation st fun x => x.notice batch d) where
  pool := id
  ranges _ hs := by
    obtain ⟨hres, hcount, hspeed, hparams, hgeo, hstation⟩ := hs
    refine ⟨hres, hcount, hspeed, hparams, hgeo, fun su => ?_⟩
    rw [State.modStation_eq, State.station_setStation]
    split
    · exact hstation st
    · exact hstation su
  late _ _ _ _ := id
  owes _ f ho su := by
    have hsu : (s.station su).outstanding =
      s.census (Record.awaits su) + (f su + if r.awaits su = true then 1 else 0) := ho su
    rw [hr] at hsu
    change _ = s.census _ + f su
    rw [State.modStation_eq, State.station_setStation]
    by_cases e : su = st
    · rw [if_pos e, ← e]
      change (s.station su).outstanding - 1 = _
      rw [hsu]
      simp [e]
    · rw [if_neg e, hsu]
      simp [e]
  guard _ := id
  eyes _ := rfl
  entered _ _ := le_rfl

theorem State.notified_notice {r : Record} {st : StationNo}
    (hr : ∀ su, r.awaits su = decide (su = st)) (s : State) (batch : Nat) (d : Departure) :
    s.Notified r (s.notice st batch d) := by
  have hpaid := State.notified_modStation hr s batch d
  unfold State.notice
  split
  · split
    · exact hpaid.trans (State.calm_enterWaiting _ st)
    · split
      · exact hpaid.trans (State.calm_completeBatch _ st false)
      · exact hpaid
  · exact hpaid

/-- The notice of a record pays what its station has outstanding for it (R47). -/
theorem State.notified_noticeOf (s : State) (r : Record) (d : Departure) :
    s.Notified r (s.noticeOf r d) := by
  unfold State.noticeOf
  split
  · next st he ho =>
    exact State.notified_notice (fun su => by simp [Record.awaits, he, ho, eq_comm]) s _ d
  · next hno =>
    refine .of_calm (fun st => ?_) (.refl s)
    by_contra haw
    simp only [Record.awaits, Bool.not_eq_false, Bool.and_eq_true, decide_eq_true_eq] at haw
    exact hno st haw.1 haw.2

/-! ### Removals (R91) -/

theorem State.dropRecord_keeps_ranges (s : State) (l : LaneNo) (tag : Nat) (h : s.RangesSound) :
    (s.dropRecord l tag).RangesSound :=
  State.ranges_of_steady (s.steady_dropRecord l tag) (s.kept_dropRecord l tag) h

theorem State.Late.dropRecord {s : State} {next clear : LaneNo → Nat → Prop}
    (h : s.Late next clear) (l : LaneNo) (tag : Nat) : (s.dropRecord l tag).Late next clear :=
  fun m r hr => h m r ((s.queue_dropRecord_sublist l m tag).subset hr)

/-- A record that leaves is no longer counted; its station is owed the notice of it. -/
theorem State.PoolSound.owes_dropRecord {s : State} (hp : s.PoolSound) {l : LaneNo} {r : Record}
    (hr : r ∈ s.queue l) {f : StationNo → Nat} (h : s.Owes f) :
    (s.dropRecord l r.tag).Owes fun st => f st + if r.awaits st = true then 1 else 0 := fun st => by
  have hcensus := hp.census_dropRecord hr (Record.awaits st)
  change (s.station st).outstanding =
    (s.dropRecord l r.tag).census _ + (f st + if r.awaits st = true then 1 else 0)
  rw [h st]
  omega

theorem State.onEntry_dropRecord_le (s : State) (l m : LaneNo) (tag : Nat) :
    (s.dropRecord l tag).onEntry m ≤ s.onEntry m :=
  (s.queue_dropRecord_sublist l m tag).countP_le

/-- What follows a removal by a loss, up to the evaluation of the heated zone. -/
theorem State.notified_loss (s : State) (l : LaneNo) (r : Record) (c : LostCause) :
    s.Notified r ((((((s.markMerged l c).noticeOf r c.departure).offer
      (r.lostReport l c)).lossOccurrence l r c).work l)) := by
  have hmark : (s.markMerged l c).eyeBanks = s.eyeBanks := by
    unfold State.markMerged
    split <;> simp
  have hoccur : ∀ t : State, (t.lossOccurrence l r c).eyeBanks = t.eyeBanks := fun t => by
    unfold State.lossOccurrence
    (repeat' split) <;> simp
  have hmerged : s.Calm (s.markMerged l c) := .of_same (s.poolView_markMerged l c) hmark
  refine .after hmerged ((State.notified_noticeOf _ r c.departure).trans ?_)
  exact (State.calm_offer _ _).trans
    ((State.Calm.of_same (State.poolView_lossOccurrence _ l r c) (hoccur _)).trans
      (State.calm_work _ l))

theorem State.late_loseRecord {s : State} {l : LaneNo} {r : Record} (hp : s.PoolSound)
    (hr : s.RangesSound) {next clear : LaneNo → Nat → Prop}
    (h : (s.dropRecord l r.tag).Late next clear) (c : LostCause) :
    (s.loseRecord l r c).Late next clear :=
  ((s.dropRecord l r.tag).notified_loss l r c).late (hp.dropRecord l r.tag)
    (s.dropRecord_keeps_ranges l r.tag hr) _ _ h

theorem State.calm_loseRecord {s : State} {l : LaneNo} {r : Record} (hr : r ∈ s.queue l)
    (c : LostCause) : s.Calm (s.loseRecord l r c) := by
  refine .of_pool fun hp => ?_
  have hdrop := hp.dropRecord l r.tag
  have hloss := (s.dropRecord l r.tag).notified_loss l r c
  refine .of_evalGuard ⟨fun _ => hloss.pool hdrop,
    fun _ hs => hloss.ranges hdrop (s.dropRecord_keeps_ranges l r.tag hs),
    fun hp hs _ _ hl => State.late_loseRecord hp hs (hl.dropRecord l r.tag) c,
    fun _ f ho => hloss.owes hdrop f (hp.owes_dropRecord hr ho)⟩
    ((hloss.eyes hdrop).trans (s.eyeBanks_dropRecord l r.tag)) fun m => ?_
  exact (hloss.entered hdrop m).trans (s.onEntry_dropRecord_le l m r.tag)

/-! ### Deadlines (R89, R90) -/

theorem State.calm_planTest (s : State) : s.Calm s.planTest :=
  .of_same s.poolView_planTest s.eyeBanks_planTest

theorem State.findRecord_some {s : State} {l : LaneNo} {tag : Nat} {r : Record}
    (h : s.findRecord l tag = some r) : r ∈ s.queue l ∧ r.tag = tag :=
  ⟨List.mem_of_find?_eq_some h, of_decide_eq_true
    (List.find?_some (p := fun y : Record => decide (y.tag = tag)) h)⟩

theorem State.calm_expireFor (s : State) (l : LaneNo) (tag : Nat)
    (due : Record → Option LostCause) : s.Calm (s.expireFor l tag due) := by
  unfold State.expireFor
  split
  · exact .refl s
  · next r hf =>
    split
    · exact .refl s
    · next c _ =>
      exact (State.calm_loseRecord (State.findRecord_some hf).1 c).trans (State.calm_planTest _)

theorem State.calm_expireIfDue (s : State) (l : LaneNo) (tag : Nat) :
    s.Calm (s.expireIfDue l tag) := s.calm_expireFor l tag _

theorem State.calm_expireIfSetPast (s : State) (l : LaneNo) (tag : Nat) :
    s.Calm (s.expireIfSetPast l tag) := s.calm_expireFor l tag _

/-- A record that is tested is late no longer in what the test looks at: it stands as the test found
it, or it has left the pool. -/
theorem State.late_expireFor {s : State} (hp : s.PoolSound) (hr : s.RangesSound) {l : LaneNo}
    {tag : Nat} {due : Record → Option LostCause} {next clear next' clear' : LaneNo → Nat → Prop}
    (h : s.Late next' clear')
    (hother : ∀ m n, ¬ (m = l ∧ n = tag) → (next' m n → next m n) ∧ (clear' m n → clear m n))
    (hdue : ∀ y ∈ s.queue l, y.tag = tag → due y = none →
      (atOrPast s.travel y.deadline = true → next l tag) ∧
        ∀ d ∈ y.clearDeadline, atOrPast s.travel d = true → clear l tag) :
    (s.expireFor l tag due).Late next clear := by
  have hothers : ∀ m, ∀ y ∈ s.queue m, ¬ (m = l ∧ y.tag = tag) →
      (atOrPast s.travel y.deadline = true → next m y.tag) ∧
        ∀ d ∈ y.clearDeadline, atOrPast s.travel d = true → clear m y.tag := fun m y hy hne =>
    ⟨fun hn => (hother m _ hne).1 ((h m y hy).1 hn),
      fun d hd hn => (hother m _ hne).2 ((h m y hy).2 d hd hn)⟩
  unfold State.expireFor
  split
  · next hf =>
    refine fun m y hy => hothers m y hy fun ⟨hm, ht⟩ => ?_
    have hsome := (s.findRecord_isSome l tag).2 ⟨y, hm ▸ hy, ht⟩
    rw [hf] at hsome
    cases hsome
  · next r hf =>
    obtain ⟨hmem, htag⟩ := State.findRecord_some hf
    split
    · next hnone =>
      intro m y hy
      by_cases hy' : m = l ∧ y.tag = tag
      · obtain ⟨rfl, ht⟩ := hy'
        have hsame : y = r := hp.unique hmem hy (ht.trans htag.symm)
        rw [ht]
        exact hdue y hy ht (hsame ▸ hnone)
      · exact hothers m y hy hy'
    · next c _ =>
      have hlost := State.calm_loseRecord hmem c
      refine (State.calm_planTest _).late (hlost.pool hp) (hlost.ranges hp hr) _ _
        (State.late_loseRecord hp hr (fun m y hy => ?_) c)
      refine hothers m y ((s.queue_dropRecord_sublist l m r.tag).subset hy) ?_
      rintro ⟨rfl, ht⟩
      obtain ⟨a, b, -, hne, -, hdrop⟩ := hp.split hmem
      exact hne y (hdrop ▸ hy) (ht.trans htag.symm)

theorem State.late_expireIfDue {s : State} (hp : s.PoolSound) (hr : s.RangesSound) {l : LaneNo}
    {tag : Nat} {next clear : LaneNo → Nat → Prop}
    (h : s.Late (fun m n => next m n ∨ m = l ∧ n = tag) fun m n => clear m n ∨ m = l ∧ n = tag) :
    (s.expireIfDue l tag).Late next clear := by
  refine State.late_expireFor hp hr h
    (fun m n hne => ⟨fun ho => ho.resolve_right hne, fun ho => ho.resolve_right hne⟩)
    fun y _ _ hd => ?_
  obtain ⟨hnext, hclear⟩ := State.dueCause_eq_none.1 hd
  exact ⟨fun hn => absurd hn hnext, fun d hd hn => absurd hn (hclear d hd)⟩

theorem State.late_expireIfSetPast {s : State} (hp : s.PoolSound) (hr : s.RangesSound) {l : LaneNo}
    {tag : Nat} {next clear : LaneNo → Nat → Prop}
    (h : s.Late (fun m n => next m n ∨ m = l ∧ n = tag) clear) :
    (s.expireIfSetPast l tag).Late next clear := by
  refine State.late_expireFor hp hr h (fun m n hne => ⟨fun ho => ho.resolve_right hne, id⟩)
    fun y hy ht hd => ?_
  have hnext : ¬ atOrPast s.travel y.deadline = true := fun hn => by
    rw [State.nextEyeCause, if_pos hn] at hd
    cases hd
  exact ⟨fun hn => absurd hn hnext, fun d hd hn => ht ▸ (h l y hy).2 d hd hn⟩

/-! ### PURGE (R148) -/

theorem State.queue_offer (s : State) (r : Report) (l : LaneNo) : (s.offer r).queue l = s.queue l := by
  rw [State.offer_eq]
  rfl

theorem State.queue_testHold_prefix (s : State) (st : StationNo) (l : LaneNo) :
    s.queue l <+: (s.testHold st).queue l := by
  unfold State.testHold
  split
  · exact (s.arbiterOnly_giveBack st).queue_prefix l
  · exact List.prefix_refl _

theorem State.queue_completeBatch_prefix (s : State) (st : StationNo) (c : Bool) (l : LaneNo) :
    s.queue l <+: (s.completeBatch st c).queue l := by
  unfold State.completeBatch
  split
  · exact List.prefix_refl _
  · next b _ =>
    rw [← s.queue_offer (.batchEnd st b.id b.pieces (b.pieces - b.remaining) c) l]
    exact (State.arbiterOnly_giveBack ((s.offer _).modStation st Station.promote) st).queue_prefix l

/-- A notice removes no record; what it brings may release sheets. -/
theorem State.queue_noticeOf_prefix (s : State) (r : Record) (d : Departure) (l : LaneNo) :
    s.queue l <+: (s.noticeOf r d).queue l := by
  unfold State.noticeOf State.notice State.enterWaiting
  (repeat' split)
  · exact State.queue_testHold_prefix (State.modStation (s.modStation _ _) _ _) _ l
  · exact State.queue_completeBatch_prefix (s.modStation _ _) _ false l
  · exact List.prefix_refl _
  · exact List.prefix_refl _
  · exact List.prefix_refl _

/-- The others of a lane stay when one is purged. -/
theorem State.queue_dropRecord_prefix_loseRecord (s : State) (l : LaneNo) (r : Record) :
    (s.dropRecord l r.tag).queue l <+: (s.loseRecord l r .purged).queue l := by
  have hnotice := (s.dropRecord l r.tag).queue_noticeOf_prefix r .purge l
  rw [← ((s.dropRecord l r.tag).noticeOf r .purge).queue_offer (r.lostReport l .purged)] at hnotice
  exact hnotice.trans ((State.arbiterOnly_work _ l).queue_prefix l)

/-- Records of one lane lost one after another: each is still there when its turn comes. -/
theorem State.calm_purgeEach (l : LaneNo) (rs : List Record) (s : State)
    (hn : (rs.map Record.tag).Nodup) (hr : ∀ r ∈ rs, r ∈ s.queue l) :
    s.Calm (forEach (fun r s => s.loseRecord l r .purged) rs s) := by
  refine .of_pool fun hp => ?_
  induction rs generalizing s with
  | nil => exact .refl s
  | cons r rest ih =>
    rw [List.map_cons, List.nodup_cons] at hn
    have hmem := hr r (List.mem_cons_self ..)
    have hlost := State.calm_loseRecord hmem .purged
    refine hlost.trans (ih _ hn.2 (fun y hy => ?_) (hlost.pool hp))
    have hne : y ≠ r := fun e => hn.1 (e ▸ List.mem_map_of_mem hy)
    obtain ⟨a, b, hab, -, -, hdrop⟩ := hp.split hmem
    refine (s.queue_dropRecord_prefix_loseRecord l r).subset (hdrop ▸ ?_)
    have hy := hr y (List.mem_cons_of_mem r hy)
    rw [hab] at hy
    simpa [hne] using hy

theorem State.calm_purgeLane (s : State) (l : LaneNo) : s.Calm (s.purgeLane l) := by
  refine .of_pool fun hp => ?_
  exact (State.calm_purgeEach l _ s (hp.tags_nodup l) fun _ h => h).trans
    ((State.Calm.of_same (State.poolView_emptyFolder _ l) (State.eyeBanks_modFolder _ l _)).trans
      (State.calm_planTest _))

end Sys2Proof.Machine
end

section
/-!
PROOFS. What the edges delivered to the tracker keep (chapters 6 and 7, sections 5.4 and 5.5). Only a
leading edge at E0 puts a record on E0.
-/

namespace Sys2Proof.Machine

/-! ### A record changed in its place -/

section
variable {s : State} {l : LaneNo} {r : Record} {f : Record → Record}

theorem State.modRecord_keeps_ranges (l : LaneNo) (tag : Nat) (f : Record → Record)
    (h : s.RangesSound) : (s.modRecord l tag f).RangesSound :=
  State.ranges_of_steady (s.steady_modRecord l tag f) (s.kept_modRecord l tag f) h

theorem State.PoolSound.late_modRecord (hp : s.PoolSound) (hr : r ∈ s.queue l)
    (ht : (f r).tag = r.tag) {next clear next' clear' : LaneNo → Nat → Prop}
    (hl : s.Late next clear)
    (hmono : ∀ m n, (next m n → next' m n) ∧ (clear m n → clear' m n))
    (hn : atOrPast s.travel (f r).deadline = true → next' l r.tag)
    (hc : ∀ d ∈ (f r).clearDeadline, atOrPast s.travel d = true → clear' l r.tag) :
    (s.modRecord l r.tag f).Late next' clear' := by
  intro m y hy
  rcases hp.mem_modRecord hr hy with ⟨rfl, rfl⟩ | hy
  · rw [ht]
    exact ⟨hn, hc⟩
  · obtain ⟨hyn, hyc⟩ := hl m y hy
    exact ⟨fun h => (hmono m _).1 (hyn h), fun d hd h => (hmono m _).2 (hyc d hd h)⟩

/-- What a record that waits for E0 no longer, its station is owed the notice of. -/
theorem State.PoolSound.owes_modRecord (hp : s.PoolSound) (hr : r ∈ s.queue l)
    (hf : ∀ st, (f r).awaits st = false) {g : StationNo → Nat} (ho : s.Owes g) :
    (s.modRecord l r.tag f).Owes fun st => g st + if r.awaits st = true then 1 else 0 := by
  intro st
  have hcensus := hp.census_modRecord hr f (Record.awaits st)
  rw [hf, if_neg Bool.false_ne_true] at hcensus
  change (s.station st).outstanding = State.census _ _ + (g st + if r.awaits st = true then 1 else 0)
  rw [ho st]
  omega

/-- A change that leaves the record where it stands: the same tag and lane, the same wait for E0, on E0
only if it was, and no entry-clear deadline but the one it had. -/
structure Record.Stays (r r' : Record) : Prop where
  label : r'.label = r.label
  awaits : ∀ st, r'.awaits st = r.awaits st
  onEntry : r'.onEntry = true → r.onEntry = true
  clear : ∀ d ∈ r'.clearDeadline, d ∈ r.clearDeadline

theorem State.PoolSound.owes_stays (hp : s.PoolSound) (hr : r ∈ s.queue l) (h : r.Stays (f r))
    {g : StationNo → Nat} (ho : s.Owes g) : (s.modRecord l r.tag f).Owes g := by
  intro st
  have hcensus := hp.census_modRecord hr f (Record.awaits st)
  rw [h.awaits] at hcensus
  change (s.station st).outstanding = _
  rw [ho st]
  omega

theorem State.PoolSound.guard_modRecord (hp : s.PoolSound) (hr : r ∈ s.queue l)
    (hz : (f r).inZone = r.inZone) (hg : s.GuardSound) : (s.modRecord l r.tag f).GuardSound := by
  refine hg.of_same ?_ rfl rfl Iff.rfl
  have hcensus := hp.census_modRecord hr f Record.inZone
  rw [hz] at hcensus
  omega

theorem State.PoolSound.entered_stays (hp : s.PoolSound) (hr : r ∈ s.queue l) (h : r.Stays (f r))
    (m : LaneNo) : (s.modRecord l r.tag f).onEntry m ≤ s.onEntry m := by
  have hcount := hp.countP_modRecord hr f Record.onEntry m
  have hentry := h.onEntry
  rw [State.onEntry, State.onEntry]
  by_cases hm : m = l <;> cases hr' : (f r).onEntry <;> simp_all
  omega

/-- A change that also leaves the next-eye deadline. -/
theorem State.calm_modRecord (hr : r ∈ s.queue l) (h : r.Stays (f r))
    (hd : (f r).deadline = r.deadline) (hz : (f r).inZone = r.inZone) :
    s.Calm (s.modRecord l r.tag f) := by
  refine .of_pool fun hp => ⟨⟨⟨fun _ => hp.modRecord hr h.label,
    fun _ => s.modRecord_keeps_ranges l r.tag f, fun _ _ _ _ hl => ?_,
    fun _ _ => hp.owes_stays hr h⟩, fun _ => hp.guard_modRecord hr hz⟩,
    fun _ => s.eyeBanks_modRecord l r.tag f, fun _ => hp.entered_stays hr h⟩
  obtain ⟨hn, hc⟩ := hl l r hr
  exact hp.late_modRecord hr (congrArg Prod.fst h.label) hl (fun _ _ => ⟨id, id⟩)
    (by rw [hd]; exact hn) fun d hd => hc d (h.clear d hd)

/-- A change that sets the next-eye deadline again, which is tested in the end (R89). -/
theorem State.calm_rematch {u : State} (hr : r ∈ s.queue l) (h : r.Stays (f r))
    (hu : (s.modRecord l r.tag f).Calm u) (hg : s.PoolSound → s.GuardSound → u.GuardSound) :
    s.Calm (u.expireIfSetPast l r.tag) := by
  refine .of_pool fun hp => ?_
  have hmod : (s.modRecord l r.tag f).PoolSound := hp.modRecord hr h.label
  have hpool := hu.pool hmod
  have hranges : s.RangesSound → u.RangesSound := fun hs =>
    hu.ranges hmod (s.modRecord_keeps_ranges l r.tag f hs)
  have hexp := u.calm_expireIfSetPast l r.tag
  refine ⟨⟨⟨fun _ => hexp.pool hpool, fun _ hs => hexp.ranges hpool (hranges hs),
    fun _ hs next clear hl => ?_,
    fun _ g ho => hexp.owes hpool g (hu.owes hmod g (hp.owes_stays hr h ho))⟩,
    fun _ hs => hexp.guard hpool (hg hp hs)⟩,
    fun _ => (hexp.eyes hpool).trans ((hu.eyes hmod).trans (s.eyeBanks_modRecord l r.tag f)),
    fun _ m => (hexp.entered hpool m).trans ((hu.entered hmod m).trans (hp.entered_stays hr h m))⟩
  refine State.late_expireIfSetPast hpool (hranges hs)
    (hu.late hmod (s.modRecord_keeps_ranges l r.tag f hs) _ _ ?_)
  obtain ⟨-, hc⟩ := hl l r hr
  exact hp.late_modRecord hr (congrArg Prod.fst h.label) hl (fun _ _ => ⟨.inl, id⟩)
    (fun _ => .inr ⟨rfl, rfl⟩) fun d hd => hc d (h.clear d hd)

end

/-! ### Leading edges at E1 to E3 (R113 to R118) -/

theorem State.candidate_some {s : State} {l : LaneNo} {eye : NextEye} {r : Record}
    (h : s.candidate l eye = some r) : r ∈ s.queue l ∧ r.nextEye = eye :=
  ⟨List.mem_of_find?_eq_some h, of_decide_eq_true
    (List.find?_some (p := fun y : Record => decide (y.nextEye = eye)) h)⟩

theorem Record.awaits_of_past {r : Record} (h : r.nextEye ≠ .e0) (st : StationNo) :
    r.awaits st = false := by
  simp [Record.awaits, h]

theorem State.calm_matchE1 {s : State} {l : LaneNo} {r : Record} (hr : r ∈ s.queue l)
    (he : r.nextEye = .e1) : s.Calm (s.matchE1 l r) := by
  have haw := Record.awaits_of_past (r := r) (by rw [he]; decide)
  refine State.calm_rematch hr ⟨rfl, fun st => by rw [haw]; rfl, id, fun _ => id⟩ (.refl _)
    fun hp => hp.guard_modRecord hr ?_
  simp [Record.inZone, he]

theorem Record.foldTaken_eq (r : Record) :
    r.foldTaken = { r with cause := r.foldTaken.cause, folded := true } := by
  unfold Record.foldTaken
  split
  · rw [Record.giveCause_eq]
  · rfl

theorem State.calm_matchE2 {s : State} {l : LaneNo} {r : Record} (hr : r ∈ s.queue l)
    (he : r.nextEye = .e2) : s.Calm (s.matchE2 l r) := by
  have haw := Record.awaits_of_past (r := r) (by rw [he]; decide)
  refine State.calm_rematch hr (h := ⟨?_, fun st => ?_, ?_, ?_⟩)
    ((State.Calm.of_same (State.poolView_foldArrival _ _ _) (State.eyeBanks_foldArrival _ _ _)).trans
      (State.calm_evalGuard _)) fun _ _ => State.guardSound_evalGuard _
  · rw [Record.foldTaken_eq]; rfl
  · rw [haw]; rfl
  · rw [Record.foldTaken_eq]; exact id
  · rw [Record.foldTaken_eq]; exact fun _ => id

theorem State.calm_matchE3 {s : State} {l : LaneNo} {r : Record} (hr : r ∈ s.queue l)
    (he : r.nextEye = .e3) (x : Pos) : s.Calm (s.matchE3 l r x) := by
  have haw := Record.awaits_of_past (r := r) (by rw [he]; decide)
  refine State.calm_rematch hr ⟨rfl, fun st => by rw [haw]; rfl, id, fun _ => id⟩ (.refl _)
    fun hp => hp.guard_modRecord hr ?_
  simp [Record.inZone, he]

theorem State.calm_eyeLeading {s : State} {l : LaneNo} {k : EyeNo} {eye : NextEye} {x : Pos}
    {hit : Record → State} (h : ∀ r ∈ s.queue l, r.nextEye = eye → s.Calm (hit r)) :
    s.Calm (s.eyeLeading l k eye x hit) := by
  unfold State.eyeLeading
  split
  · next r hc =>
    obtain ⟨hr, he⟩ := State.candidate_some hc
    split
    · exact h r hr he
    · exact s.calm_occur _ _
  · exact s.calm_occur _ _

/-! ### Trailing edges (R102, R119) -/

theorem Record.classify_eq (r : Record) (n : Nat) :
    r.classify n = { r with cause := (r.classify n).cause } := by
  unfold Record.classify
  split
  · rw [Record.giveCause_eq]
  · rfl

/-- What a trailing edge at E0 writes in the record on E0. -/
theorem State.trailingTaken_eq (s : State) (l : LaneNo) (x : Pos) (r : Record) :
    s.trailingTaken l x r = { r with
      te0 := some x, length := some (r.lengthTo x), clearDeadline := none,
      cause := (s.trailingTaken l x r).cause, deadline := (s.trailingTaken l x r).deadline } := by
  unfold State.trailingTaken
  dsimp only
  rw [Record.classify_eq]
  split <;> rfl

theorem State.trailingTaken_stays (s : State) (l : LaneNo) (x : Pos) (r : Record) :
    r.Stays (s.trailingTaken l x r) := by
  rw [State.trailingTaken_eq]
  exact ⟨rfl, fun _ => rfl, fun h => by simp [Record.onEntry] at h, fun _ h => nomatch h⟩

theorem State.inZone_trailingTaken (s : State) (l : LaneNo) (x : Pos) (r : Record) :
    (s.trailingTaken l x r).inZone = r.inZone := by
  rw [State.trailingTaken_eq]
  rfl

theorem State.deadline_trailingTaken {r : Record} (h : r.clearReset = false) (s : State)
    (l : LaneNo) (x : Pos) : (s.trailingTaken l x r).deadline = r.deadline := by
  unfold State.trailingTaken
  dsimp only
  rw [Record.classify_eq]
  split
  · next he hle =>
    simp [Record.clearReset, he, hle] at h
  · rfl

theorem State.recordOnE0_some {s : State} {l : LaneNo} {r : Record} (h : s.recordOnE0 l = some r) :
    r ∈ s.queue l ∧ r.onEntry = true :=
  ⟨List.mem_of_find?_eq_some h, List.find?_some (p := Record.onEntry) h⟩

theorem State.onEntry_of_recordOnE0_none {s : State} {l : LaneNo} (h : s.recordOnE0 l = none) :
    s.onEntry l = 0 :=
  List.countP_eq_zero.2 (List.find?_eq_none.1 h)

theorem State.calm_entryTrailing (s : State) (l : LaneNo) (x : Pos) :
    s.Calm (s.entryTrailing l x) := by
  unfold State.entryTrailing
  split
  · exact .refl s
  · next r hr =>
    obtain ⟨hmem, -⟩ := State.recordOnE0_some hr
    have hstays := s.trailingTaken_stays l x r
    have hzone := s.inZone_trailingTaken l x r
    split
    · have hwork := State.calm_workIf (s.modRecord l r.tag (s.trailingTaken l x)) l (s.isYoungest l r)
      exact State.calm_rematch hmem hstays hwork fun hp hg =>
        hwork.guard (hp.modRecord hmem hstays.label) (hp.guard_modRecord hmem hzone hg)
    · next hclear =>
      exact (State.calm_modRecord hmem hstays
        (State.deadline_trailingTaken (Bool.eq_false_iff.2 hclear) s l x) hzone).trans
          (State.calm_workIf _ l _)

/-- A trailing edge at E0 clears the eye of the lane's one record on it. -/
theorem State.onEntry_entryTrailing {s : State} (hp : s.PoolSound) {l : LaneNo}
    (h : s.onEntry l ≤ 1) (x : Pos) : (s.entryTrailing l x).onEntry l = 0 := by
  unfold State.entryTrailing
  split
  · next hnone => exact State.onEntry_of_recordOnE0_none hnone
  · next r hr =>
    obtain ⟨hmem, hentry⟩ := State.recordOnE0_some hr
    have hstays := s.trailingTaken_stays l x r
    have hmod : (s.modRecord l r.tag (s.trailingTaken l x)).PoolSound :=
      hp.modRecord hmem hstays.label
    have hcount := hp.countP_modRecord hmem (s.trailingTaken l x) Record.onEntry l
    have hoff : (s.trailingTaken l x r).onEntry = false := by
      rw [State.trailingTaken_eq]
      simp [Record.onEntry]
    have hzero : (s.modRecord l r.tag (s.trailingTaken l x)).onEntry l = 0 := by
      rw [hentry, hoff] at hcount
      rw [State.onEntry] at h ⊢
      simp at hcount
      omega
    have hwork := State.calm_workIf (s.modRecord l r.tag (s.trailingTaken l x)) l (s.isYoungest l r)
    have hworked := hwork.entered hmod l
    split
    · have hexp := (State.calm_expireIfSetPast _ l r.tag).entered (hwork.pool hmod) l
      omega
    · omega

theorem State.calm_retire {s : State} {l : LaneNo} {r : Record} (hr : r ∈ s.queue l)
    (he : r.nextEye = .clear) : s.Calm (s.retire l r) := by
  refine .trans (t := ((((s.dropRecord l r.tag).receivePiece l r).2.offer (r.doneReport l
    ((s.dropRecord l r.tag).receivePiece l r).1)).work l).evalGuard) ?_ (State.calm_planTest _)
  refine .of_pool fun hp => ?_
  have hpiece : (s.dropRecord l r.tag).Calm ((s.dropRecord l r.tag).receivePiece l r).2 :=
    .of_same (State.poolView_receivePiece _ l r) (State.eyeBanks_receivePiece _ l r)
  have hafter := hpiece.trans ((State.calm_offer _ (r.doneReport l
    ((s.dropRecord l r.tag).receivePiece l r).1)).trans (State.calm_work _ l))
  have hdrop := hp.dropRecord l r.tag
  have howes : ∀ f, s.Owes f → (s.dropRecord l r.tag).Owes f := fun f ho => by
    simpa [Record.awaits, he] using hp.owes_dropRecord hr ho
  exact .of_evalGuard ⟨fun _ => hafter.pool hdrop,
    fun _ hs => hafter.ranges hdrop (s.dropRecord_keeps_ranges l r.tag hs),
    fun _ hs _ _ hl => hafter.late hdrop (s.dropRecord_keeps_ranges l r.tag hs) _ _
      (hl.dropRecord l r.tag), fun _ f ho => hafter.owes hdrop f (howes f ho)⟩
    ((hafter.eyes hdrop).trans (s.eyeBanks_dropRecord l r.tag))
    fun m => (hafter.entered hdrop m).trans (s.onEntry_dropRecord_le l m r.tag)

theorem State.calm_stackTrailing (s : State) (l : LaneNo) : s.Calm (s.stackTrailing l) := by
  unfold State.stackTrailing
  split
  · next r hc =>
    obtain ⟨hr, he⟩ := State.candidate_some hc
    exact State.calm_retire hr he
  · exact .refl s

/-- Every edge but a leading one at E0. -/
theorem State.calm_takeEdge {s : State} {l : LaneNo} {k : EyeNo} {leading : Bool}
    (h : ¬ (k = 0 ∧ leading = true)) (x : Pos) : s.Calm (s.takeEdge l k leading x) := by
  unfold State.takeEdge
  split
  case h_1 => exact absurd ⟨rfl, rfl⟩ h
  case h_2 => exact s.calm_entryTrailing l x
  case h_3 => exact State.calm_eyeLeading fun r hr he => State.calm_matchE1 hr he
  case h_4 => exact State.calm_eyeLeading fun r hr he => State.calm_matchE2 hr he
  case h_5 => exact State.calm_eyeLeading fun r hr he => State.calm_matchE3 hr he x
  case h_6 => exact s.calm_stackTrailing l
  case h_7 => exact .refl s

/-! ### A leading edge at E0 (R96 to R101) -/

/-- The changes of a leading edge at E0: at most one record more is on it. -/
structure State.Enters (l : LaneNo) (s t : State) : Prop extends State.KeepsPool s t where
  entered : s.PoolSound → ∀ m, t.onEntry m ≤ s.onEntry m + if m = l then 1 else 0

theorem State.Enters.of_calm {l : LaneNo} {s t : State} (h : s.Calm t) : State.Enters l s t :=
  ⟨h.toKeepsPool, fun hp m => (h.entered hp m).trans (Nat.le_add_right _ _)⟩

/-- A record with new deadlines, which are tested in the end. -/
theorem State.enters_expireIfDue {l : LaneNo} {tag : Nat} {s t : State}
    (hpool : s.PoolSound → t.PoolSound)
    (hranges : s.PoolSound → s.RangesSound → t.RangesSound)
    (hlate : s.PoolSound → s.RangesSound → ∀ next clear, s.Late next clear →
      t.Late (fun m n => next m n ∨ m = l ∧ n = tag) fun m n => clear m n ∨ m = l ∧ n = tag)
    (howes : s.PoolSound → ∀ f, s.Owes f → t.Owes f)
    (hentered : s.PoolSound → ∀ m, t.onEntry m ≤ s.onEntry m + if m = l then 1 else 0) :
    State.Enters l s (t.evalGuard.expireIfDue l tag) := by
  have hexp := t.evalGuard.calm_expireIfDue l tag
  exact ⟨⟨⟨fun hp => hexp.pool (hpool hp), fun hp hs => hexp.ranges (hpool hp) (hranges hp hs),
    fun hp hs _ _ hl => State.late_expireIfDue (s := t.evalGuard) (hpool hp) (hranges hp hs)
      (hlate hp hs _ _ hl), fun hp f ho => hexp.owes (hpool hp) f (howes hp f ho)⟩,
    fun hp _ => hexp.guard (hpool hp) t.guardSound_evalGuard⟩,
    fun hp m => (hexp.entered (hpool hp) m).trans (hentered hp m)⟩

theorem State.enters_matchEntry {s : State} {l : LaneNo} {r : Record} (hr : r ∈ s.queue l)
    (x : Pos) : State.Enters l s (s.matchEntry l r x) := by
  have hnotice := ((s.modRecord l r.tag (s.entryMatched l x)).notified_noticeOf r
    .confirmation).trans (State.calm_workIf _ l (s.isYoungest l r))
  have hmod : s.PoolSound → (s.modRecord l r.tag (s.entryMatched l x)).PoolSound := fun hp =>
    hp.modRecord hr rfl
  refine State.enters_expireIfDue (hnotice.pool ∘ hmod)
    (fun hp hs => hnotice.ranges (hmod hp) (s.modRecord_keeps_ranges l r.tag _ hs))
    (fun hp hs next clear hl => hnotice.late (hmod hp) (s.modRecord_keeps_ranges l r.tag _ hs) _ _
      (hp.late_modRecord hr rfl hl (fun _ _ => ⟨.inl, .inl⟩) (fun _ => .inr ⟨rfl, rfl⟩)
        fun _ _ _ => .inr ⟨rfl, rfl⟩))
    (fun hp f ho => hnotice.owes (hmod hp) f
      (hp.owes_modRecord hr (Record.awaits_of_past (show NextEye.e1 ≠ .e0 by decide)) ho))
    fun hp m => (hnotice.entered (hmod hp) m).trans ?_
  have hcount := hp.countP_modRecord hr (s.entryMatched l x) Record.onEntry m
  have hnew : (if m = l ∧ (s.entryMatched l x r).onEntry = true then 1 else 0) ≤
      if m = l then 1 else 0 := by
    split <;> split <;> simp_all
  rw [State.onEntry, State.onEntry]
  omega

theorem insertForeign_perm (r : Record) (q : List Record) : (insertForeign r q).Perm (r :: q) := by
  induction q with
  | nil => exact .refl _
  | cons y rest ih =>
    unfold insertForeign
    split
    · exact .refl _
    · exact (ih.cons y).trans (.swap r y rest)

theorem State.joined_joinForeign {s : State} (h : s.hasSlot = true) (l : LaneNo) (x : Pos) :
    State.Joined l (s.foreignRecord l x) s (s.joinForeign l (s.foreignRecord l x)) where
  slot := h
  tag := rfl
  lane := rfl
  queue := by
    have hq := s.queue_setQueue l l (insertForeign (s.foreignRecord l x) (s.queue l))
    rw [if_pos rfl] at hq
    exact hq ▸ insertForeign_perm _ _
  other m hm := (s.queue_setQueue l m _).trans (if_neg hm)
  counter := rfl
  steady := s.steady_joinForeign l _
  kept := s.kept_joinForeign l _

theorem State.enters_foreignSheet (s : State) (l : LaneNo) (x : Pos) :
    State.Enters l s (s.foreignSheet l x) := by
  unfold State.foreignSheet
  split
  · next hslot =>
    have hj := s.joined_joinForeign hslot l x
    have hwork := (s.joinForeign l (s.foreignRecord l x)).calm_work l
    refine State.enters_expireIfDue (hwork.pool ∘ hj.pool)
      (fun hp hs => hwork.ranges (hj.pool hp) (State.ranges_of_steady hj.steady hj.kept hs))
      (fun hp hs next clear hl => hwork.late (hj.pool hp)
        (State.ranges_of_steady hj.steady hj.kept hs) _ _
        (hj.late (hl.mono (fun _ _ => .inl) fun _ _ => .inl) (fun _ => .inr ⟨rfl, rfl⟩)
          fun _ _ _ => .inr ⟨rfl, rfl⟩))
      (fun hp f ho => hwork.owes (hj.pool hp) f fun st => ?_)
      fun hp m => (hwork.entered (hj.pool hp) m).trans ?_
    · have hstation : (s.joinForeign l (s.foreignRecord l x)).station st = s.station st := rfl
      rw [hstation, ho st, hj.census]
      rfl
    · rw [State.onEntry, State.onEntry, hj.countP]
      split <;> split <;> simp_all
  · exact .of_calm (s.calm_occur _ _)

theorem State.enters_entryLeading (s : State) (l : LaneNo) (x : Pos) :
    State.Enters l s (s.entryLeading l x) := by
  unfold State.entryLeading
  split
  · next r hc =>
    split
    · exact State.enters_matchEntry (State.candidate_some hc).1 x
    · exact s.enters_foreignSheet l x
  · exact s.enters_foreignSheet l x

theorem State.keepsPool_takeEdge (s : State) (l : LaneNo) (k : EyeNo) (leading : Bool) (x : Pos) :
    s.KeepsPool (s.takeEdge l k leading x) := by
  by_cases h : k = 0 ∧ leading = true
  · obtain ⟨rfl, rfl⟩ := h
    exact (s.enters_entryLeading l x).toKeepsPool
  · exact (State.calm_takeEdge h x).toKeepsPool

end Sys2Proof.Machine
end

section
/-!
PROOFS. What the eyes and a travel advance keep. An edge goes only where E0 has been free, so no lane
gets two records on E0 (R86); the tests of an advance come to every record whose deadline the travel
has reached (R89).
-/

namespace Sys2Proof.Machine

/-! ### The relation for what the field path does one after another -/

/-- `State.KeepsPool`, with the records on E0 and what the invariants of plans and lanes have kept. -/
structure State.Moves (s t : State) : Prop extends State.KeepsPool s t where
  keeps : s.Keeps t
  entry : s.PoolSound → s.PlanSound → s.ClosedSound → s.EntrySound → t.EntrySound

theorem State.Moves.trans {s t u : State} (h : s.Moves t) (g : t.Moves u) : s.Moves u where
  toKeepsPool := h.toKeepsPool.trans g.toKeepsPool
  keeps := h.keeps.trans g.keeps
  entry hp hplan hc he := g.entry (h.pool hp) (h.keeps.plan hplan) (h.keeps.closed hplan hc)
    (h.entry hp hplan hc he)

/-- What puts no record on E0 and leaves the eyes keeps `State.EntrySound`. -/
theorem State.Calm.entrySound {s t : State} (h : s.Calm t) (hp : s.PoolSound)
    (he : s.EntrySound) : t.EntrySound := by
  rw [State.entrySound_iff] at he ⊢
  intro l
  obtain ⟨hone, hcovered, hpending⟩ := he l
  have hle := h.entered hp l
  simp only [State.eye_of_eyeBanks (h.eyes hp)]
  exact ⟨hle.trans hone, fun hpos => hcovered (by omega), hpending⟩

theorem State.Calm.moves {s t : State} (h : s.Calm t) (hk : s.Keeps t) : s.Moves t :=
  ⟨h.toKeepsPool, hk, fun hp _ _ he => h.entrySound hp he⟩

theorem State.Moves.refl (s : State) : s.Moves s := (State.Calm.refl s).moves (.refl s)

/-! ### The eyes (R12 to R16) -/

theorem State.onEntry_setEye (s : State) (l m : LaneNo) (k : EyeNo) (e : Eye) :
    (s.setEye l k e).onEntry m = s.onEntry m :=
  State.onEntry_of_poolView (s.poolView_setEye l k e) m

/-- An eye that is written, with its pending change as its two states have it, and what that brings: at
most one record on E0 of the lane, with its eye covered, and no new one in another lane. -/
theorem State.EntrySound.written {s t : State} (h : s.EntrySound) {l : LaneNo} {k : EyeNo} {e : Eye}
    (heyes : t.eyeBanks = (s.setEye l k e).eyeBanks)
    (hpending : e.pending.isSome = decide (e.raw ≠ e.accepted))
    (hother : ∀ m, m ≠ l → t.onEntry m ≤ s.onEntry m) (hone : t.onEntry l ≤ 1)
    (hcovered : 0 < t.onEntry l → ((s.setEye l k e).eye l 0).accepted = true) : t.EntrySound := by
  rw [State.entrySound_iff] at h ⊢
  intro m
  obtain ⟨hone', hcov, hpend⟩ := h m
  simp only [State.eye_of_eyeBanks heyes]
  refine ⟨?_, fun hpos => ?_, fun j => ?_⟩
  · by_cases hm : m = l
    · exact hm ▸ hone
    · exact (hother m hm).trans hone'
  · by_cases hm : m = l
    · rw [hm] at hpos ⊢
      exact hcovered hpos
    · rw [State.eye_setEye, if_neg fun hh => hm hh.1]
      exact hcov (hpos.trans_le (hother m hm))
  · rw [State.eye_setEye]
    split
    · exact hpending
    · exact hpend j

/-- An eye written alone, with E0 covered while a record is on it. -/
theorem State.EntrySound.setEye {s : State} (h : s.EntrySound) {l : LaneNo} {k : EyeNo} {e : Eye}
    (hpending : e.pending.isSome = decide (e.raw ≠ e.accepted))
    (hcovered : k = 0 → 0 < s.onEntry l → e.accepted = true) : (s.setEye l k e).EntrySound := by
  obtain ⟨hone, hcov, -⟩ := (State.entrySound_iff s).1 h l
  refine h.written rfl hpending (fun m _ => (s.onEntry_setEye l m k e).le)
    ((s.onEntry_setEye l l k e).trans_le hone) fun hpos => ?_
  rw [State.onEntry_setEye] at hpos
  rw [State.eye_setEye]
  split
  · next hk => exact hcovered hk.2.symm hpos
  · exact hcov hpos

theorem State.keepsPool_deliver (s : State) (l : LaneNo) (k : EyeNo) (leading : Bool) (x : Pos) :
    s.KeepsPool (s.deliver l k leading x) := by
  unfold State.deliver
  split
  · exact (State.Calm.refl s).toKeepsPool
  · exact s.keepsPool_takeEdge l k leading x

/-- An eye that changes its accepted state and hands its edge on: with E0 covered for the first time
no record was on it, and with E0 clear again none is. -/
theorem State.entrySound_accepted {s : State} (hp : s.PoolSound) (hc : s.ClosedSound)
    (h : s.EntrySound) (l : LaneNo) (k : EyeNo) {e : Eye} (hsettled : e.pending = none)
    (hraw : e.raw = e.accepted) (hnew : e.accepted ≠ (s.eye l k).accepted) (x : Pos) :
    ((s.setEye l k e).deliver l k e.accepted x).EntrySound := by
  have hpool : (s.setEye l k e).PoolSound :=
    (State.keepsPool_of_same (s.poolView_setEye l k e)).pool hp
  have hpending : e.pending.isSome = decide (e.raw ≠ e.accepted) := by simp [hsettled, hraw]
  obtain ⟨hone, hcov, -⟩ := (State.entrySound_iff s).1 h l
  by_cases hclosed : ((s.setEye l k e).lane l).state = .closed
  · rw [State.deliver, if_pos hclosed]
    refine h.setEye hpending fun _ hpos => ?_
    have hsame : ((s.setEye l k e).lane l).state = (s.lane l).state := by
      rw [State.setEye, State.lane_modLane, if_pos rfl]
    obtain ⟨hempty, -⟩ := (hc l).1 (hsame ▸ hclosed)
    rw [State.onEntry, hempty] at hpos
    exact absurd hpos (by simp)
  · rw [State.deliver, if_neg hclosed]
    by_cases hk : k = 0
    · subst hk
      have heyes := State.eyeBanks_deliver (s.setEye l 0 e) l 0 e.accepted x
      rw [State.deliver, if_neg hclosed] at heyes
      cases ha : e.accepted <;> rw [ha] at heyes hnew
      · have hclear : ((s.setEye l 0 e).entryTrailing l x).onEntry l = 0 :=
          State.onEntry_entryTrailing hpool (by rw [State.onEntry_setEye]; exact hone) x
        refine h.written heyes hpending (fun m _ => ?_) (hclear.trans_le zero_le_one)
          fun hpos => absurd hpos (hclear ▸ lt_irrefl _)
        exact ((State.calm_entryTrailing _ l x).entered hpool m).trans_eq (s.onEntry_setEye l m 0 e)
      · have hfree : s.onEntry l = 0 := by
          by_contra hne
          exact hnew (hcov (Nat.pos_of_ne_zero hne)).symm
        have henter := (State.enters_entryLeading (s.setEye l 0 e) l x).entered hpool
        simp only [State.onEntry_setEye] at henter
        refine h.written heyes hpending (fun m hm => ?_) ?_ fun _ => by
          rw [State.eye_setEye_self, ha]
        · exact (henter m).trans_eq (by simp [hm])
        · exact (henter l).trans_eq (by simp [hfree])
    · have hcalm := State.calm_takeEdge (s := s.setEye l k e) (l := l) (leading := e.accepted)
        (fun hh => hk hh.1) x
      exact hcalm.entrySound hpool (h.setEye hpending fun hh => absurd hh hk)

theorem State.EntrySound.pending_iff {s : State} (h : s.EntrySound) (l : LaneNo) (k : EyeNo) :
    (s.eye l k).pending.isSome = decide ((s.eye l k).raw ≠ (s.eye l k).accepted) := by
  obtain ⟨-, -, hpending⟩ := (State.entrySound_iff s).1 h l
  exact hpending k

/-- An eye that changes its accepted state, with its edge (R13). -/
theorem State.moves_accepted {s : State} {l : LaneNo} {k : EyeNo} {e : Eye}
    (hsettled : e.pending = none) (hraw : e.raw = e.accepted)
    (hnew : s.EntrySound → e.accepted ≠ (s.eye l k).accepted) (x : Pos) :
    s.Moves ((s.setEye l k e).deliver l k e.accepted x) where
  toKeepsPool := (State.keepsPool_of_same (s.poolView_setEye l k e)).trans
    (State.keepsPool_deliver _ l k _ x)
  keeps := (s.keeps_setEye l k e).trans (State.keeps_deliver _ l k _ x)
  entry hp _ hc he := State.entrySound_accepted hp hc he l k hsettled hraw (hnew he) x

/-- An eye that keeps its accepted state. -/
theorem State.moves_setEye {s : State} {l : LaneNo} {k : EyeNo} {e : Eye}
    (hpending : e.pending.isSome = decide (e.raw ≠ e.accepted))
    (hsame : e.accepted = (s.eye l k).accepted) : s.Moves (s.setEye l k e) where
  toKeepsPool := State.keepsPool_of_same (s.poolView_setEye l k e)
  keeps := s.keeps_setEye l k e
  entry _ _ _ he := he.setEye hpending fun hk hpos => by
    obtain ⟨-, hcov, -⟩ := (State.entrySound_iff s).1 he l
    rw [hsame, hk]
    exact hcov hpos

/-- The test of a pending change (R13). -/
theorem State.moves_acceptIfDue (s : State) (l : LaneNo) (k : EyeNo) :
    s.Moves (s.acceptIfDue l k) := by
  unfold State.acceptIfDue
  split
  · next start hpend =>
    split
    · refine State.moves_accepted (e := { s.eye l k with accepted := (s.eye l k).raw, pending := none })
        rfl rfl (fun he => ?_) start
      have hraw := he.pending_iff l k
      rw [hpend] at hraw
      exact of_decide_eq_true hraw.symm
    · exact .refl s
  · exact .refl s

/-- A change of a raw input outside a reset (R12, R14). -/
theorem State.moves_rawChange (s : State) (l : LaneNo) (k : EyeNo) (covered : Bool) :
    s.Moves (s.rawChange l k covered) := by
  unfold State.rawChange
  split
  · next hsame => exact State.moves_setEye (by simp [hsame]) rfl
  · next hnew =>
    split
    · exact State.moves_accepted (e := ⟨covered, covered, none⟩) rfl rfl (fun _ => hnew) s.travel
    · exact State.moves_setEye (by simpa using hnew) rfl

/-! ### A travel advance (R2) -/

theorem State.moves_draw (s : State) (n : Nat) : s.Moves (s.draw n).2 :=
  (s.calm_draw n).moves (s.keeps_draw n)

theorem State.moves_runTask (t : AdvanceTask) (s : State) : s.Moves (s.runTask t) := by
  have hkeeps := s.keeps_runTask t
  cases t
  case edge l k => exact s.moves_acceptIfDue l k
  case hold st => exact (s.calm_testHold st).moves hkeeps
  case releaseTest l => exact (s.calm_testRelease l).moves hkeeps
  case deadline l tag => exact (s.calm_expireIfDue l tag).moves hkeeps

theorem State.moves_runAdvance (s : State) : s.Moves s.runAdvance :=
  runFreely_keeps (P := s.Moves) (fun u n hu => hu.trans (u.moves_draw n))
    (fun t u hu => hu.trans (u.moves_runTask t)) _ _ _ (.refl s)

/-- A run that always has a task to take while one is left takes every one of them. -/
theorem runFreely_ends {τ : Type} [DecidableEq τ] {enabled : List τ → List τ}
    {run : τ → State → State} {P : List τ → State → Prop}
    (hsub : ∀ ts, ∀ t ∈ enabled ts, t ∈ ts) (hsome : ∀ ts, ts ≠ [] → enabled ts ≠ [])
    (hd : ∀ ts (s : State) n, P ts s → P ts (s.draw n).2)
    (hr : ∀ t ts s, t ∈ ts → P ts s → P (ts.erase t) (run t s)) (n : Nat) (tasks : List τ)
    (s : State) (hn : tasks.length = n) (h : P tasks s) : P [] (runFreely enabled run n tasks s) := by
  induction n generalizing tasks s with
  | zero =>
    rw [List.length_eq_zero_iff.mp hn] at h
    exact h
  | succ n ih =>
    have hne : tasks ≠ [] := fun e => by simp [e] at hn
    have hlt := s.draw_lt (List.length_pos_of_ne_nil (hsome tasks hne))
    have hs := hd tasks s (enabled tasks).length h
    unfold runFreely
    generalize s.draw (enabled tasks).length = x at hlt hs
    obtain ⟨i, s'⟩ := x
    dsimp only at hlt hs ⊢
    rw [List.getElem?_eq_getElem hlt]
    have hmem := hsub tasks _ (List.getElem_mem hlt)
    exact ih _ _ (by rw [List.length_erase_of_mem hmem, hn]; rfl) (hr _ _ _ hmem hs)

theorem mem_of_mem_enabledTasks (ts : List AdvanceTask) : ∀ t ∈ enabledTasks ts, t ∈ ts := by
  unfold enabledTasks
  split
  · exact fun t ht => List.mem_of_mem_filter ht
  · exact fun _ => id

theorem enabledTasks_ne_nil (ts : List AdvanceTask) (h : ts ≠ []) : enabledTasks ts ≠ [] := by
  unfold enabledTasks
  split
  · next hedge =>
    obtain ⟨t, ht, he⟩ := List.any_eq_true.1 hedge
    refine List.ne_nil_of_mem (List.mem_filter.2 ⟨ht, ?_⟩)
    cases t <;> simp_all [AdvanceTask.isEdge, AdvanceTask.isDeadline]
  · exact h

/-- The records that may be late while tests of an advance are still to be made: those whose deadline
tests are among them. -/
def State.LateIn (ts : List AdvanceTask) (s : State) : Prop :=
  s.Late (fun l tag => .deadline l tag ∈ ts) fun l tag => .deadline l tag ∈ ts

theorem State.LateIn.runTask {s : State} (hp : s.PoolSound) (hr : s.RangesSound)
    {ts : List AdvanceTask} (h : s.LateIn ts) (t : AdvanceTask) :
    (s.runTask t).LateIn (ts.erase t) := by
  have hleft : (∀ l tag, AdvanceTask.deadline l tag ≠ t) → (s.runTask t).LateIn (ts.erase t) :=
    fun hne => (s.moves_runTask t).late hp hr _ _
      (h.mono (fun l tag => (List.mem_erase_of_ne (hne l tag)).2)
        fun l tag => (List.mem_erase_of_ne (hne l tag)).2)
  cases t
  case edge l k => exact hleft fun _ _ => nofun
  case hold st => exact hleft fun _ _ => nofun
  case releaseTest l => exact hleft fun _ _ => nofun
  case deadline l tag =>
    have hmem : ∀ m n, AdvanceTask.deadline m n ∈ ts →
        AdvanceTask.deadline m n ∈ ts.erase (.deadline l tag) ∨ m = l ∧ n = tag := fun m n hmem => by
      by_cases e : m = l ∧ n = tag
      · exact .inr e
      · exact .inl ((List.mem_erase_of_ne fun he => e (by simpa using he)).2 hmem)
    exact State.late_expireIfDue hp hr (h.mono hmem hmem)

/-- After the tests of an advance no record is late (R89). -/
theorem State.late_runAdvance {s : State} (hp : s.PoolSound) (hr : s.RangesSound) :
    s.runAdvance.DeadlinesAhead := by
  have hends := runFreely_ends (run := fun t s => State.runTask t s)
    (P := fun ts t => t.PoolSound ∧ t.RangesSound ∧ t.LateIn ts) mem_of_mem_enabledTasks
    enabledTasks_ne_nil
    (fun ts u n ⟨hp, hr, hl⟩ => ⟨(u.calm_draw n).pool hp, (u.calm_draw n).ranges hp hr,
      (u.calm_draw n).late hp hr _ _ hl⟩)
    (fun t ts u _ ⟨hp, hr, hl⟩ => ⟨(u.moves_runTask t).pool hp, (u.moves_runTask t).ranges hp hr,
      hl.runTask hp hr t⟩) s.advanceTasks.length s.advanceTasks s rfl ⟨hp, hr, fun l r hmem => ?_⟩
  · obtain ⟨-, -, hlate⟩ := hends
    rw [State.deadlinesAhead_iff]
    exact hlate.mono (fun _ _ => List.not_mem_nil) fun _ _ => List.not_mem_nil
  · have hdue : s.dueCause l r ≠ none → AdvanceTask.deadline l r.tag ∈ s.advanceTasks := fun hne =>
      (s.mem_advanceTasks_deadline l r.tag).2 ⟨r, hmem, Option.isSome_iff_ne_none.2 hne, rfl⟩
    rw [ne_eq, State.dueCause_eq_none] at hdue
    exact ⟨fun hn => hdue fun h => h.1 hn, fun d hd hn => hdue fun h => h.2 d hd hn⟩

end Sys2Proof.Machine
end

section
/-!
PROOFS. Statements O58 and O59: what the speed monitor, the emergency stop, a reset and the clock keep,
and the relation between the states before and after a row.
-/

namespace Sys2Proof.Machine

/-! ### The relation for whole rows -/

/-- What a row keeps of the invariants of statements O58 and O59. -/
structure State.KeepsCounts (s t : State) : Prop where
  pool : s.PoolSound → t.PoolSound
  ranges : s.PoolSound → s.RangesSound → t.RangesSound
  outstanding : s.PoolSound → s.OutstandingSound → t.OutstandingSound
  guard : s.PoolSound → s.GuardSound → t.GuardSound
  ahead : s.PoolSound → s.RangesSound → s.DeadlinesAhead → t.DeadlinesAhead
  entry : s.PoolSound → s.PlanSound → s.ClosedSound → s.ResetSound → s.EntrySound → t.EntrySound

theorem State.KeepsPool.counts {s t : State} (h : s.KeepsPool t)
    (hentry : s.PoolSound → s.PlanSound → s.ClosedSound → s.ResetSound → s.EntrySound →
      t.EntrySound) : s.KeepsCounts t where
  pool := h.pool
  ranges := h.ranges
  outstanding hp ho := (State.outstandingSound_iff t).2
    (h.owes hp _ ((State.outstandingSound_iff s).1 ho))
  guard := h.guard
  ahead hp hr hd := (State.deadlinesAhead_iff t).2
    (h.late hp hr _ _ ((State.deadlinesAhead_iff s).1 hd))
  entry := hentry

theorem State.Moves.counts {s t : State} (h : s.Moves t) : s.KeepsCounts t :=
  h.toKeepsPool.counts fun hp hplan hc _ => h.entry hp hplan hc

theorem State.Calm.counts {s t : State} (h : s.Calm t) : s.KeepsCounts t :=
  h.toKeepsPool.counts fun hp _ _ _ => h.entrySound hp

theorem State.KeepsCounts.refl (s : State) : s.KeepsCounts s := (State.Calm.refl s).counts

theorem State.KeepsCounts.trans_calm {s t u : State} (h : s.KeepsCounts t) (g : t.Calm u) :
    s.KeepsCounts u where
  pool := g.counts.pool ∘ h.pool
  ranges hp hr := g.ranges (h.pool hp) (h.ranges hp hr)
  outstanding hp ho := g.counts.outstanding (h.pool hp) (h.outstanding hp ho)
  guard hp hg := g.guard (h.pool hp) (h.guard hp hg)
  ahead hp hr hd := g.counts.ahead (h.pool hp) (h.ranges hp hr) (h.ahead hp hr hd)
  entry hp hplan hc hs he := g.entrySound (h.pool hp) (h.entry hp hplan hc hs he)

theorem State.KeepsCounts.whenRunning {s : State} {f : State → State} (h : s.KeepsCounts (f s)) :
    s.KeepsCounts (s.whenRunning f) := by
  unfold State.whenRunning
  split
  · exact h
  · exact .refl s

/-- What none of the invariants reads. -/
theorem State.counts_of_same {s t : State} (h : t.poolView = s.poolView)
    (he : t.eyeBanks = s.eyeBanks) : s.KeepsCounts t :=
  (State.Calm.of_same h he).counts

/-! ### Travel (R1, R2) -/

theorem State.RangesSound.countAdvance {s : State} (h : s.RangesSound) :
    s.countAdvance.RangesSound := by
  obtain ⟨-, -, hspeed, hparams, hrest⟩ := h
  obtain ⟨hscale, -⟩ := id hparams
  exact ⟨hscale.1, Nat.min_le_right _ _, hspeed, hparams, hrest⟩

theorem State.counts_advance (s : State) : s.KeepsCounts s.advance where
  pool := s.countAdvance.moves_runAdvance.pool
  ranges hp hr := s.countAdvance.moves_runAdvance.ranges hp hr.countAdvance
  outstanding := s.countAdvance.moves_runAdvance.counts.outstanding
  guard := s.countAdvance.moves_runAdvance.guard
  ahead hp hr _ := State.late_runAdvance (s := s.countAdvance) hp hr.countAdvance
  entry hp hplan hc _ := s.countAdvance.moves_runAdvance.entry hp hplan hc

theorem State.counts_pulse (s : State) : s.KeepsCounts s.pulse := by
  unfold State.pulse
  split
  · next h => exact ⟨id, fun _ hr => ⟨h, hr.2⟩, fun _ => id, fun _ => id, fun _ _ => id,
      fun _ _ _ _ => id⟩
  · exact s.counts_advance

/-! ### Speed monitor and scorch timer (R6 to R9, R156) -/

theorem State.RangesSound.closeGate {s : State} (h : s.RangesSound) : s.closeGate.RangesSound := by
  obtain ⟨hresidual, hcount, hspeed, hrest⟩ := h
  refine ⟨hresidual, Nat.zero_le _, ?_, hrest⟩
  change s.filteredSpeed ≤ 2040
  unfold State.filteredSpeed
  split <;> omega

theorem State.calm_compareSpeed (s : State) (before : Nat) : s.Calm (s.compareSpeed before) := by
  unfold State.compareSpeed
  split
  · exact s.calm_occur _ _
  · split
    · exact s.calm_occur _ _
    · exact .refl s

theorem State.calm_gateOver (s : State) : s.Calm s.gateOver := by
  have hspeed := s.closeGate.calm_compareSpeed s.speed
  have htracks : s.Tracks (s.closeGate.compareSpeed s.speed) :=
    ⟨hspeed.pool, fun hp hr => hspeed.ranges hp hr.closeGate,
      fun hp hr => hspeed.late hp hr.closeGate, hspeed.owes⟩
  exact .of_pool fun hp => (State.Calm.of_evalGuard htracks (hspeed.eyes hp)
    (hspeed.entered hp)).trans (State.calm_workAll _)

theorem State.calm_scorchOver (s : State) : s.Calm s.scorchOver := by
  unfold State.scorchOver
  split
  · next ms h =>
    refine State.Calm.trans (t := { s with scorch := .expired }) ?_ (State.calm_occur _ _ _)
    refine ⟨⟨⟨id, fun _ => id, fun _ _ _ _ => id, fun _ _ => id⟩, fun _ hg => ?_⟩, fun _ => rfl,
      fun _ _ => le_rfl⟩
    exact hg.of_same rfl rfl rfl (by simp [h])
  · exact .refl s

/-! ### Emergency stop (R18, R158) -/

theorem State.calm_eachStacker (f : Stacker → Stacker) (s : State) :
    s.Calm (forEach (fun l s => s.modStacker l f) allFour s) :=
  State.calm_forEach (fun l t => t.calm_modLane l (fun ln => { ln with stacker := f ln.stacker })
    rfl rfl) _ s

theorem State.calm_activateEstop (s : State) : s.Calm s.activateEstop := by
  have habort : ∀ (l : LaneNo) (t : State), t.Calm (t.abortFolder l) := fun l t => by
    refine .of_same (t.poolView_abortFolder l) ?_
    refine (State.eyeBanks_modFolder _ l _).trans ?_
    exact forEach_const State.eyeBanks (fun (c : FoldCommand) u => u.eyeBanks_modRecord l c.tag _) _ t
  have hactive : s.Calm { s with estop := true, estopHold := none } := .of_same rfl rfl
  exact hactive.trans ((State.calm_occur _ _ _).trans ((State.calm_stopStations _).trans
    ((State.calm_forEach habort _ _).trans (State.calm_eachStacker _ _))))

theorem State.calm_deactivateEstop (s : State) : s.Calm s.deactivateEstop :=
  State.Calm.trans (t := { s with estop := false, estopHold := none }) (.of_same rfl rfl)
    (State.calm_eachStacker _ _)

/-! ### Reset (R183) -/

theorem State.queue_resetBlocks (s : State) (phase : ResetPhase) (l : LaneNo) :
    (s.resetBlocks phase).queue l = [] := by
  obtain ⟨raw, hl⟩ := s.lane_resetBlocks phase l
  rw [State.queue, hl]
  rfl

theorem State.census_resetBlocks (s : State) (phase : ResetPhase) (p : Record → Bool) :
    (s.resetBlocks phase).census p = 0 := by
  simp [State.census_eq, State.queue_resetBlocks]

theorem Eye.settled_pending (raw : Bool) : (Eye.settled raw).pending.isSome =
    decide ((Eye.settled raw).raw ≠ (Eye.settled raw).accepted) := by
  simp [Eye.settled]

/-- Every block at its reset values meets the invariants whatever was before. -/
theorem State.counts_resetBlocks (s : State) (phase : ResetPhase) :
    s.KeepsCounts (s.resetBlocks phase) where
  pool _ := by
    rw [State.poolSound_iff]
    simp only [State.census_resetBlocks, State.queue_resetBlocks]
    exact ⟨Nat.zero_le _, fun _ => Nat.zero_le _, show 1 ≤ 1 ∧ 1 ≤ Config.tagMax by decide,
      fun _ _ h => nomatch h⟩
  ranges _ _ := by
    have hline : 0 < LineParams.atReset.scale ∧ 0 ≤ 255 ∧ 0 ≤ 2040 ∧ LineParams.atReset.InRange := by
      decide
    obtain ⟨hscale, hcount, hspeed, hparams⟩ := hline
    refine ⟨hscale, hcount, hspeed, hparams, fun l => ?_, fun st => ?_⟩
    · obtain ⟨raw, hl⟩ := s.lane_resetBlocks phase l
      rw [hl]
      exact show Geometry.unconfigured.InRange by decide
    · rw [State.station_resetBlocks]
      decide
  outstanding _ _ := by
    rw [State.outstandingSound_iff]
    intro st
    rw [State.station_resetBlocks, State.census_resetBlocks]
    rfl
  guard _ _ := by
    rw [State.GuardSound, State.guardHolds, State.zoneOccupied_eq, State.census_resetBlocks]
    exact iff_of_true rfl rfl
  ahead _ _ _ := by
    intro l r hr
    rw [State.queue_resetBlocks] at hr
    cases hr
  entry _ _ _ _ _ := by
    rw [State.entrySound_iff]
    intro l
    obtain ⟨raw, hl⟩ := s.lane_resetBlocks phase l
    rw [State.onEntry, State.queue_resetBlocks]
    refine ⟨Nat.zero_le _, fun h => absurd h (lt_irrefl 0), fun k => ?_⟩
    rw [State.eye, hl, Lane.atReset, Quad.get_map]
    exact Eye.settled_pending _

/-- In a reset no record is in the pool. -/
theorem State.ResetSound.onEntry {s : State} (h : s.ResetSound) (hr : s.resetPhase ≠ .running)
    (l : LaneNo) : s.onEntry l = 0 := by
  rw [State.onEntry, h hr, State.queue_resetBlocks]
  rfl

theorem State.counts_resetOver {s : State} (hr : s.resetPhase ≠ .running) :
    s.KeepsCounts s.resetOver := by
  have hview : s.resetOver.poolView = s.poolView := s.poolView_mapLanes fun _ => rfl
  refine (State.keepsPool_of_same hview).counts fun _ _ _ hs _ => ?_
  rw [State.entrySound_iff]
  intro l
  rw [State.onEntry_of_poolView hview, hs.onEntry hr]
  refine ⟨Nat.zero_le _, fun h => absurd h (lt_irrefl 0), fun k => ?_⟩
  rw [State.eye, State.lane_resetOver, Quad.get_map]
  exact Eye.settled_pending _

theorem State.counts_endReset (s : State) : s.KeepsCounts s.endReset := by
  unfold State.endReset
  split
  · next ms hphase =>
    have hover : s.KeepsCounts s.resetOver :=
      State.counts_resetOver (by rw [hphase]; exact ResetPhase.noConfusion)
    change s.KeepsCounts (if s.inputs.estop then s.resetOver.activateEstop else s.resetOver)
    split
    · exact hover.trans_calm (State.calm_activateEstop _)
    · exact hover
  · exact .refl s

theorem State.counts_eyeRawChange (s : State) (l : LaneNo) (k : EyeNo) (covered : Bool) :
    s.KeepsCounts (if covered = (s.eye l k).raw then s
      else if s.isRunning then s.rawChange l k covered
      else s.setEye l k (.settled covered)) := by
  split_ifs with _ hr
  · exact .refl s
  · exact (s.moves_rawChange l k covered).counts
  · refine (State.keepsPool_of_same (s.poolView_setEye l k _)).counts fun _ _ _ hs he => ?_
    refine he.setEye (Eye.settled_pending covered) fun _ hpos => ?_
    rw [hs.onEntry fun h => hr (decide_eq_true h)] at hpos
    exact absurd hpos (lt_irrefl 0)

/-! ### The clock -/

theorem GuardTimer.pass_idle_iff (x : GuardTimer) : x.pass = .idle ↔ x = .idle := by
  cases x <;> simp [GuardTimer.pass]

theorem State.calm_passTimers (s : State) : s.Calm s.passTimers := by
  have hlane : ∀ l, s.passTimers.lane l = (s.lane l).pass := fun l => Quad.get_map _ _ l
  have hqueue : ∀ l, s.passTimers.queue l = s.queue l := fun l => by
    rw [State.queue, hlane]
    rfl
  have hstation : ∀ st, s.passTimers.station st = (s.station st).pass := fun st => Quad.get_map _ _ st
  have hcensus : ∀ p, s.passTimers.census p = s.census p := fun p =>
    State.census_congr fun l => by rw [hqueue]
  refine ⟨State.keepsPool_of_cores (fun l => by rw [hqueue]) (fun st => by rw [hstation]; rfl) rfl rfl
    (fun hr => ?_) fun hg => ?_, fun _ => Quad.ext_get fun l => ?_, fun _ l => ?_⟩
  · obtain ⟨hresidual, hcount, hspeed, hparams, hgeo, hparam⟩ := hr
    refine ⟨hresidual, hcount, hspeed, hparams, fun l => ?_, fun st => ?_⟩
    · rw [hlane]
      exact hgeo l
    · rw [hstation]
      exact hparam st
  · exact hg.of_same (hcensus _) rfl rfl (GuardTimer.pass_idle_iff _)
  · rw [State.eyeBanks, State.eyeBanks, Quad.get_map, Quad.get_map]
    exact congrArg Lane.eyes (a₁ := s.passTimers.lane l) (a₂ := (s.lane l).pass) (hlane l)
  · rw [State.onEntry, hqueue]
    exact le_rfl

theorem State.calm_sampleInputs (s : State) : s.Calm s.sampleInputs := .of_same rfl rfl

theorem State.calm_passMs (s : State) : s.Calm s.passMs := by
  unfold State.passMs
  split
  · exact s.calm_passTimers.trans (State.calm_sampleInputs _)
  · exact s.calm_sampleInputs
  · exact .of_same rfl rfl

end Sys2Proof.Machine
end

section
/-!
PROOFS. Statements O58 and O59: what the requests keep. The three that write parameters clamp them into
their ranges; the others leave ranges, pool and eyes to the operations behind them.
-/

namespace Sys2Proof.Machine

/-! ### Parameters written (R28, R31, R55) -/

theorem stationParamsOf_inRange (o : StationOperands) (m : FeedMode) :
    (stationParamsOf o m).InRange :=
  have hdwell : o.dwellMs.toNat < 2 ^ 8 := o.dwellMs.isLt
  ⟨(clampTo_mem (by omega) _).2, clampTo_mem (by omega) _, Nat.le_of_lt_succ hdwell,
    clampTo_mem (by omega) _, (clampTo_mem (by omega) _).2⟩

theorem geometryOf_inRange {o : GeometryOperands} (h : (geometryOf o).inOrder = true) :
    (geometryOf o).InRange := by
  simp only [Geometry.inOrder, Bool.and_eq_true, decide_eq_true_eq] at h
  exact ⟨(clampTo_mem (by omega) _).2, (clampTo_mem (by omega) _).2, (clampTo_mem (by omega) _).2,
    fun _ => ⟨(clampTo_mem (by omega) _).1, h⟩, clampTo_mem (by omega) _, clampTo_mem (by omega) _,
    clampTo_mem (by omega) _, clampTo_mem (by omega) _⟩

theorem lineParamsOf_inRange {o : LineOperands} {m : ArbMode} {att : Bool}
    (h : (lineParamsOf o m att).vlo ≤ (lineParamsOf o m att).vhi) : (lineParamsOf o m att).InRange :=
  ⟨clampTo_mem (by omega) _, (clampTo_mem (by omega) _).2, h, (clampTo_mem (by omega) _).2,
    (clampTo_mem (by omega) _).2, clampTo_mem (by omega) _, clampTo_mem (by omega) _,
    (clampTo_mem (by omega) _).2⟩

theorem State.calm_writeParams (s : State) (st : StationNo) {p : StationParams} (h : p.InRange) :
    s.Calm (s.modStation st fun x => { x with params := p }) := by
  have hstation : ∀ su, (s.modStation st fun x => { x with params := p }).station su =
      if su = st then { s.station st with params := p } else s.station su :=
    fun su => s.station_setStation st su _
  refine ⟨State.keepsPool_of_cores (fun _ => rfl) (fun su => ?_) rfl rfl (fun hr => ?_) id,
    fun _ => rfl, fun _ _ => le_rfl⟩
  · rw [hstation]
    split
    · next e => rw [e]
    · rfl
  · obtain ⟨hresidual, hcount, hspeed, hparams, hgeo, hparam⟩ := hr
    refine ⟨hresidual, hcount, hspeed, hparams, hgeo, fun su => ?_⟩
    rw [hstation]
    split
    · exact h
    · exact hparam su

theorem State.calm_answerStationSet (o : StationOperands) (s : State) :
    s.Calm (answerStationSet o s).state := by
  unfold answerStationSet
  split
  · next st m _ _ =>
    split
    · have hwrite := s.calm_writeParams st (stationParamsOf_inRange o m)
      change s.Calm (s.writeStation st (stationParamsOf o m))
      unfold State.writeStation
      split
      · exact hwrite.trans (State.calm_giveBack _ st)
      · exact hwrite.trans (State.calm_testHold _ st)
    · exact .refl s
  · exact .refl s

theorem State.calm_setGeometry (s : State) (l : LaneNo) {g : Geometry} (h : g.InRange) :
    s.Calm (s.modLane l fun ln => { ln with geometry := g }) := by
  have hqueue : ∀ m, (s.modLane l fun ln => { ln with geometry := g }).queue m = s.queue m :=
    s.queue_modLane_same l _ rfl
  refine ⟨State.keepsPool_of_cores (fun m => by rw [hqueue]) (fun _ => rfl) rfl rfl (fun hr => ?_)
    fun hg => ?_, fun _ => s.eyeBanks_modLane l _ rfl, fun _ m => ?_⟩
  · obtain ⟨hresidual, hcount, hspeed, hparams, hgeo, hparam⟩ := hr
    refine ⟨hresidual, hcount, hspeed, hparams, fun m => ?_, hparam⟩
    rw [State.lane_modLane]
    split
    · exact h
    · exact hgeo m
  · exact hg.of_same (State.census_congr fun m => by rw [hqueue]) rfl rfl Iff.rfl
  · rw [State.onEntry, hqueue]
    exact le_rfl

theorem State.calm_answerGeometrySet (o : GeometryOperands) (s : State) :
    s.Calm (answerGeometrySet o s).state := by
  unfold answerGeometrySet
  split
  · exact .refl s
  · next l _ =>
    split
    · next horder =>
      split
      · exact s.calm_setGeometry l (geometryOf_inRange horder)
      · exact .refl s
    · exact .refl s

/-! ### LINE_SET (R3, R16, R154) -/

/-- With another Vs the heated zone is evaluated (R154). -/
theorem State.GuardSound.linePut {s : State} (h : s.GuardSound) (p : LineParams) :
    (s.linePut p).GuardSound := by
  have hqueue : ∀ l, (s.linePut p).queue l = s.queue l := fun l => by
    rw [State.queue, s.lane_linePut p]
    rfl
  by_cases hvs : p.vs = s.params.vs
  · have hscorch : (s.linePut p).scorch = s.scorch := by
      rw [s.linePut_eq p]
      exact if_pos hvs
    refine h.of_same (State.census_congr fun l => by rw [hqueue]) ?_ ?_ (by rw [hscorch])
    · exact congrArg Kept.speed (s.kept_linePut p)
    · exact (congrArg (fun k => k.params.vs) (s.kept_linePut p)).trans hvs
  · unfold State.linePut
    rw [if_neg hvs]
    exact (s.linedOrders p).guardSound_evalGuard

theorem State.RangesSound.linePut {s : State} (h : s.RangesSound) {p : LineParams}
    (hp : p.InRange) : (s.linePut p).RangesSound := by
  obtain ⟨hresidual, hcount, hspeed, -, hgeo, hparam⟩ := h
  rw [s.linePut_eq p]
  refine ⟨?_, hcount, hspeed, hp, fun l => ?_, hparam⟩
  · change (if p.scale = s.params.scale then s.residual else 0) < p.scale
    split
    · next e => rw [e]; exact hresidual
    · exact hp.1.1
  · change ((s.linePut p).lane l).geometry.InRange
    rw [s.lane_linePut p]
    exact hgeo l

theorem State.calm_linePut {s : State} {p : LineParams} (h : p.InRange) : s.Calm (s.linePut p) := by
  have hlane := s.lane_linePut p
  have hqueue : ∀ l, (s.linePut p).queue l = s.queue l := fun l => by
    rw [State.queue, hlane]
    rfl
  have hstation : ∀ st, (s.linePut p).station st = s.station st := fun st => by
    rw [s.linePut_eq p]
    rfl
  have htag : (s.linePut p).tagCounter = s.tagCounter := by
    rw [s.linePut_eq p]
  refine ⟨State.keepsPool_of_cores (fun l => by rw [hqueue]) (fun st => by rw [hstation])
    (congrArg Kept.travel (s.kept_linePut p)) htag (fun hr => hr.linePut h) fun hg => hg.linePut p,
    fun _ => Quad.ext_get fun l => ?_, fun _ l => ?_⟩
  · rw [State.eyeBanks, State.eyeBanks, Quad.get_map, Quad.get_map]
    change ((s.linePut p).lane l).eyes = _
    rw [hlane]
    rfl
  · rw [State.onEntry, hqueue]
    exact le_rfl

theorem State.keeps_linePut (s : State) (p : LineParams) : s.Keeps (s.linePut p) := by
  have hput : s.Keeps (s.putParams p) := State.keeps_of_lanes rfl rfl
  have horders : s.Keeps (s.linedOrders p) := by
    unfold State.linedOrders
    split
    · exact hput
    · exact hput.trans (State.keeps_resetOrders _)
  unfold State.linePut
  split
  · exact horders.trans (State.keeps_refreshAttn _)
  · exact (horders.trans (State.keeps_evalGuard _)).trans (State.keeps_refreshAttn _)

theorem State.moves_inFreeOrder {τ : Type} [DecidableEq τ] {run : τ → State → State}
    (h : ∀ t (s : State), s.Moves (run t s)) (tasks : List τ) (s : State) :
    s.Moves (inFreeOrder run tasks s) :=
  inFreeOrder_keeps (P := s.Moves) (fun u n hu => hu.trans (u.moves_draw n))
    (fun t u hu => hu.trans (h t u)) tasks s (.refl s)

theorem State.moves_answerLineSet (o : LineOperands) (s : State) :
    s.Moves (answerLineSet o s).state := by
  unfold answerLineSet
  split
  · next m att _ _ =>
    split
    · exact .refl s
    · next horder =>
      split
      · exact .refl s
      · have hput : s.Moves (s.linePut (lineParamsOf o m att)) :=
          (State.calm_linePut (lineParamsOf_inRange (Nat.le_of_not_lt horder))).moves
            (s.keeps_linePut _)
        change s.Moves (s.writeLine (lineParamsOf o m att))
        rw [State.writeLine_eq]
        split
        · exact hput
        · exact hput.trans (State.moves_inFreeOrder
            (fun (e : LaneNo × EyeNo) t => t.moves_acceptIfDue e.1 e.2) _ _)
  · exact .refl s

/-! ### Plan changes (R150, R153) -/

theorem State.calm_leaveOpen (s : State) (l : LaneNo) (a : LaneState) : s.Calm (s.leaveOpen l a) :=
  .of_same (s.poolView_leaveOpen l a) (s.eyeBanks_leaveOpen l a)

theorem State.calm_beginChange (s : State) (pair : PlanPair) : s.Calm (s.beginChange pair) := by
  have hdrain : ∀ (l : LaneNo) (t : State), t.Calm (t.drainLane l) := fun l t => by
    unfold State.drainLane
    split
    · exact t.calm_leaveOpen l _
    · exact t.calm_modLane l _ rfl rfl
    · exact .refl t
  have hnext : s.Calm { s with planNext := some pair } := .of_same rfl rfl
  have hdrained := hnext.trans (State.calm_forEach hdrain allFour _)
  unfold State.beginChange
  refine hdrained.trans (State.Calm.trans ?_ (State.calm_planTest _))
  exact .of_same rfl rfl

theorem State.calm_withdrawChange (s : State) : s.Calm s.withdrawChange := by
  have hundrain : ∀ (l : LaneNo) (t : State), t.Calm (t.undrainLane l) := fun l t => by
    unfold State.undrainLane
    split
    · exact t.calm_modLane l _ rfl rfl
    · exact .refl t
  have hnext : s.Calm { s with planNext := none, phase := .noChange } := .of_same rfl rfl
  exact hnext.trans (State.calm_forEach hundrain allFour _)

theorem State.calm_withOperand {α : Type} {x : Option α} {s : State} {f : α → Answer}
    (h : ∀ a, s.Calm (f a).state) : s.Calm (withOperand x s f).state := by
  unfold withOperand
  split
  · exact .refl s
  · exact h _

theorem State.calm_answerPlanSet (o : PlanOperands) (s : State) :
    s.Calm (answerPlanSet o s).state := by
  refine State.calm_withOperand fun pair => ?_
  split
  · unfold answerPlanTested
    split
    · change s.Calm (if pair = s.planNow then s else s.beginChange pair)
      split
      · exact .refl s
      · exact s.calm_beginChange pair
    · split
      · exact s.calm_withdrawChange
      · exact .refl s
    · exact .refl s
  · exact .refl s

/-! ### Commands -/

theorem State.calm_answerBatchLoad (o : BatchOperands) (s : State) :
    s.Calm (answerBatchLoad o s).state := by
  unfold answerBatchLoad answerLoadTested
  (repeat' split)
  case isTrue.isFalse st c _ _ _ _ _ =>
    refine s.calm_modStation st (fun x => x.load (batchOf o c)) ?_
    unfold Station.load
    split <;> rfl
  all_goals exact .refl s

theorem State.calm_answerBatchCancelCurrent (station : Byte) (s : State) :
    s.Calm (answerBatchCancelCurrent station s).state := by
  refine State.calm_withOperand fun st => ?_
  have hcomplete := s.calm_completeBatch st true
  split
  case h_6 | h_7 | h_8 => exact hcomplete
  all_goals exact .refl s

theorem State.calm_answerResume (lane : Byte) (s : State) : s.Calm (answerResume lane s).state := by
  refine State.calm_withOperand fun l => ?_
  split
  · exact .refl s
  · split
    · exact (s.calm_modLane l (fun ln => { ln with state := .opened }) rfl rfl).trans
        (State.calm_decideGrant _ l)
    · exact .refl s
  · exact .refl s
  · exact .refl s

theorem State.calm_answerHalt (lane : Byte) (s : State) : s.Calm (answerHalt lane s).state := by
  refine State.calm_withOperand fun l => ?_
  split
  · exact s.calm_leaveOpen l .halted
  all_goals exact .refl s

theorem State.calm_answerPurge (lane : Byte) (s : State) : s.Calm (answerPurge lane s).state := by
  refine State.calm_withOperand fun l => ?_
  split
  · split
    · exact .refl s
    · exact s.calm_purgeLane l
  · split
    · exact .refl s
    · exact s.calm_purgeLane l
  · exact .refl s
  · exact .refl s

theorem State.calm_answerFlush (lane : Byte) (s : State) : s.Calm (answerFlush lane s).state := by
  refine State.calm_withOperand fun l => ?_
  split
  · exact .of_same (s.poolView_beginDischarge l _ _) (s.eyeBanks_beginDischarge l _ _)
  all_goals exact .refl s

theorem State.calm_haltEvery (s : State) : s.Calm s.haltEvery :=
  State.calm_forEach (fun l t => t.calm_leaveOpen l .halted) allFour s

theorem State.calm_clearLatch (s : State) (src : Source) : s.Calm (s.clearLatch src) := by
  unfold State.clearLatch
  rw [State.releaseLines_eq]
  exact .of_same rfl rfl

theorem State.calm_answerRejectMark (tag : BitVec 16) (s : State) :
    s.Calm (answerRejectMark tag s).state := by
  refine State.calm_withOperand fun l => State.calm_withOperand fun r => ?_
  unfold answerMarkRecord
  split
  · exact .refl s
  · exact .of_same (s.poolView_giveCause l _ _) (s.eyeBanks_modRecord l _ _)

/-! ### Every answer -/

/-- What a request keeps by its answer (R33). -/
theorem State.moves_answer (i : Instr) (s : State) : s.Moves (answer i s).state := by
  have hkeeps := s.keeps_answer i
  cases i
  case lineSet o => exact s.moves_answerLineSet o
  case reportFetch max => exact State.Calm.moves (.of_same rfl rfl) hkeeps
  case sheetsRead => exact (State.calm_withOperand fun _ => .refl s).moves hkeeps
  case stationRead => exact (State.calm_withOperand fun _ => .refl s).moves hkeeps
  case laneRead => exact (State.calm_withOperand fun _ => .refl s).moves hkeeps
  case classSet o =>
    refine State.Calm.moves ?_ hkeeps
    change s.Calm (answerClassSet o s).state
    unfold answerClassSet
    (repeat' split)
    case h_1.isFalse => exact .of_same rfl rfl
    all_goals exact .refl s
  case stationSet o => exact (s.calm_answerStationSet o).moves hkeeps
  case geometrySet o => exact (s.calm_answerGeometrySet o).moves hkeeps
  case planSet o => exact (s.calm_answerPlanSet o).moves hkeeps
  case alarmSet kind mask level =>
    refine State.Calm.moves ?_ hkeeps
    change s.Calm (answerAlarmSet kind mask level s).state
    unfold answerAlarmSet
    split
    · exact .of_same rfl rfl
    · exact .refl s
  case batchLoad o => exact (s.calm_answerBatchLoad o).moves hkeeps
  case batchCancelNext =>
    exact (State.calm_withOperand fun st =>
      s.calm_modStation st (fun x => { x with next := none }) rfl).moves hkeeps
  case batchCancelCurrent station => exact (s.calm_answerBatchCancelCurrent station).moves hkeeps
  case laneCmdResume lane => exact (s.calm_answerResume lane).moves hkeeps
  case laneCmdHalt lane => exact (s.calm_answerHalt lane).moves hkeeps
  case laneCmdPurge lane => exact (s.calm_answerPurge lane).moves hkeeps
  case laneCmdFlush lane => exact (s.calm_answerFlush lane).moves hkeeps
  case haltAll => exact s.calm_haltEvery.moves hkeeps
  case alarmAck kind index =>
    refine (State.calm_withOperand fun src => ?_).moves hkeeps
    split
    · exact s.calm_clearLatch src
    · exact .refl s
  case rejectMark tag => exact (s.calm_answerRejectMark tag).moves hkeeps
  all_goals exact .refl s

end Sys2Proof.Machine
end

section
/-!
PROOFS. Statements O58 and O59: what every command and the clock keep.
-/

namespace Sys2Proof.Machine

/-- A row after a change that takes no reset back. -/
theorem State.KeepsCounts.after {s t u : State} (h : s.Moves t)
    (hr : s.ResetSound → t.ResetSound) (g : t.KeepsCounts u) : s.KeepsCounts u where
  pool := g.pool ∘ h.pool
  ranges hp hs := g.ranges (h.pool hp) (h.ranges hp hs)
  outstanding hp ho := g.outstanding (h.pool hp) (h.counts.outstanding hp ho)
  guard hp hg := g.guard (h.pool hp) (h.guard hp hg)
  ahead hp hs hd := g.ahead (h.pool hp) (h.ranges hp hs) (h.counts.ahead hp hs hd)
  entry hp hplan hc hs he := g.entry (h.pool hp) (h.keeps.plan hplan) (h.keeps.closed hplan hc)
    (hr hs) (h.entry hp hplan hc he)

/-! ### Requests and the line link -/

theorem State.counts_request {s : State} {code : Byte} {f : State → Answer}
    (h : s.Moves (f s).state) : s.KeepsCounts (s.request code f) := by
  rcases s.request_cases code f with e | e | ⟨-, e⟩ <;> rw [e]
  · exact State.counts_of_same rfl rfl
  · exact .refl s
  · exact h.counts.trans_calm (.of_same rfl rfl)

theorem State.counts_handOn (s : State) (f : RxFrame) : s.KeepsCounts (s.handOn f) := by
  unfold State.handOn
  split
  · unfold State.takeBroadcast
    split_ifs
    · exact s.calm_haltEvery.counts
    · exact s.counts_resetBlocks _
    · exact .refl s
    · exact .refl s
  · refine State.counts_request ?_
    unfold answerFrame
    split
    · exact .refl s
    · exact s.moves_answer _

theorem State.moves_setReceiver (s : State) (r : Receiver) : s.Moves (s.setReceiver r) :=
  State.Calm.moves (.of_same rfl rfl) (s.keeps_setReceiver r)

theorem State.counts_hear {s : State} (hr : s.resetPhase = .running) (bits : BitVec 11) :
    s.KeepsCounts (s.hear bits) := by
  have hset : ∀ r, s.KeepsCounts (s.setReceiver r) := fun r => (s.moves_setReceiver r).counts
  unfold State.hear
  split_ifs
  · exact hset _
  · exact hset _
  · split
    · exact .refl s
    · next f _ =>
      unfold State.takeData
      split
      · split
        · exact .after (s.moves_setReceiver .hunting) (fun _ h => absurd hr h)
            (State.counts_handOn _ f)
        · exact hset _
      · exact hset _

theorem State.counts_endReply {s : State} (hr : s.resetPhase = .running) :
    s.KeepsCounts s.endReply := by
  unfold State.endReply
  split
  · next r _ =>
    have hshown : s.Calm (s.clearShown r) := .of_same rfl rfl
    split_ifs
    · exact .after (hshown.moves (State.keeps_of_lanes rfl rfl)) (fun _ h => absurd hr h)
        (State.counts_resetBlocks _ _)
    · exact hshown.counts
    · exact .refl s
  · exact .refl s

theorem State.calm_inputActive (s : State) : s.Calm s.inputActive := by
  have hinput : s.Calm (s.setEstopInput true) := .of_same rfl rfl
  unfold State.inputActive State.whenRunning
  split
  · beta_reduce
    split
    · exact .of_same rfl rfl
    · exact hinput.trans (State.calm_activateEstop _)
  · exact hinput

theorem State.calm_inputInactive (s : State) : s.Calm s.inputInactive := by
  unfold State.inputInactive State.whenRunning
  split
  · split
    · beta_reduce
      split <;> exact .of_same rfl rfl
    · exact .of_same rfl rfl
  · exact .refl s

/-! ### The commands -/

/-- What a command makes keeps what `State.KeepsCounts` says. -/
theorem exec_counts (c : Instr) (s : State) : ∃ t, exec c s = .next t ∧ s.KeepsCounts t := by
  have hreq : ∀ code i, s.KeepsCounts (s.request code (answer i)) := fun _ i =>
    State.counts_request (s.moves_answer i)
  cases c with
  | resetPin => exact ⟨_, rfl, s.counts_resetBlocks _⟩
  | resetPinRelease =>
    refine ⟨_, rfl, ?_⟩
    split
    · exact State.counts_of_same rfl rfl
    · exact .refl s
  | resetEnd => exact ⟨_, rfl, s.counts_endReset⟩
  | encPulse => exact ⟨_, rfl, s.counts_pulse.whenRunning⟩
  | travelAdvance => exact ⟨_, rfl, s.counts_advance.whenRunning⟩
  | gateEnd => exact ⟨_, rfl, s.calm_gateOver.counts.whenRunning⟩
  | eyeRawChange l k covered => exact ⟨_, rfl, s.counts_eyeRawChange l k covered⟩
  | edgeAccepted l k => exact ⟨_, rfl, (s.moves_acceptIfDue l k).counts.whenRunning⟩
  | deadlinePass tag =>
    refine ⟨_, rfl, State.KeepsCounts.whenRunning ?_⟩
    split
    · exact (s.calm_expireIfDue _ _).counts
    · exact .refl s
  | runHoldExpiry st => exact ⟨_, rfl, (s.calm_testHold st).counts.whenRunning⟩
  | release l => exact ⟨_, rfl, (s.calm_testRelease l).counts.whenRunning⟩
  | pedalEdge st => exact ⟨_, rfl, (s.calm_pedal st).counts.whenRunning⟩
  | openTimeExpiry st =>
    refine ⟨_, rfl, (State.counts_of_same (s.poolView_openTimeOver st) ?_).whenRunning⟩
    unfold State.openTimeOver
    split <;> rfl
  | dwellExpiry st =>
    refine ⟨_, rfl, (State.counts_of_same (s.poolView_dwellOver st) ?_).whenRunning⟩
    unfold State.dwellOver
    split <;> rfl
  | returnTimeExpiry st => exact ⟨_, rfl, (s.calm_returnTimeOver st).counts.whenRunning⟩
  | foldStrobeEnd l =>
    exact ⟨_, rfl, (State.counts_of_same (s.poolView_modFolder l _)
      (s.eyeBanks_modFolder l _)).whenRunning⟩
  | foldGapEnd l =>
    exact ⟨_, rfl, (State.counts_of_same (s.poolView_modFolder l _)
      (s.eyeBanks_modFolder l _)).whenRunning⟩
  | clearEdge l =>
    exact ⟨_, rfl, (State.counts_of_same (s.poolView_clearStack l)
      (s.eyeBanks_clearStack l)).whenRunning⟩
  | stackerTimeout l =>
    refine ⟨_, rfl, (State.counts_of_same (s.poolView_stackerTimedOut l) ?_).whenRunning⟩
    unfold State.stackerTimedOut
    split <;> simp
  | scorchTimerExpiry => exact ⟨_, rfl, s.calm_scorchOver.counts.whenRunning⟩
  | estopActivation => exact ⟨_, rfl, s.calm_inputActive.counts⟩
  | estopInactiveEdge => exact ⟨_, rfl, s.calm_inputInactive.counts⟩
  | estopDeactivation =>
    refine ⟨_, rfl, State.KeepsCounts.whenRunning ?_⟩
    split
    · exact s.calm_deactivateEstop.counts
    · exact .refl s
  | linkCharacter bits =>
    refine ⟨_, rfl, ?_⟩
    split
    · next h =>
      simp only [State.takesCharacter, Bool.and_eq_true] at h
      exact State.counts_hear (of_decide_eq_true h.1.1) bits
    · exact .refl s
  | linkBreak =>
    refine ⟨_, rfl, State.KeepsCounts.whenRunning ?_⟩
    unfold State.lineBreak
    split
    · exact .refl s
    · exact State.counts_of_same rfl rfl
  | frameGapTimeout => exact ⟨_, rfl, (s.moves_setReceiver _).counts.whenRunning⟩
  | replyStart =>
    refine ⟨_, rfl, State.KeepsCounts.whenRunning (State.counts_of_same ?_ ?_)⟩ <;>
      unfold State.startReply <;> (repeat' split) <;> rfl
  | replyEnd =>
    refine ⟨_, rfl, ?_⟩
    unfold State.whenRunning
    split
    · next hr => exact State.counts_endReply (of_decide_eq_true hr)
    · exact .refl s
  | lineRestedHigh =>
    refine ⟨_, rfl, State.KeepsCounts.whenRunning ?_⟩
    exact State.counts_of_same rfl rfl
  | poll => exact ⟨_, rfl, hreq _ .poll⟩
  | reportFetch max => exact ⟨_, rfl, hreq _ (.reportFetch max)⟩
  | sheetsRead lane start => exact ⟨_, rfl, hreq _ (.sheetsRead lane start)⟩
  | stationRead station => exact ⟨_, rfl, hreq _ (.stationRead station)⟩
  | laneRead lane => exact ⟨_, rfl, hreq _ (.laneRead lane)⟩
  | alarmRead => exact ⟨_, rfl, hreq _ .alarmRead⟩
  | classSet o => exact ⟨_, rfl, hreq _ (.classSet o)⟩
  | stationSet o => exact ⟨_, rfl, hreq _ (.stationSet o)⟩
  | geometrySet o => exact ⟨_, rfl, hreq _ (.geometrySet o)⟩
  | lineSet o => exact ⟨_, rfl, hreq _ (.lineSet o)⟩
  | planSet o => exact ⟨_, rfl, hreq _ (.planSet o)⟩
  | alarmSet kind mask level => exact ⟨_, rfl, hreq _ (.alarmSet kind mask level)⟩
  | batchLoad o => exact ⟨_, rfl, hreq _ (.batchLoad o)⟩
  | batchCancelNext station => exact ⟨_, rfl, hreq _ (.batchCancelNext station)⟩
  | batchCancelCurrent station => exact ⟨_, rfl, hreq _ (.batchCancelCurrent station)⟩
  | laneCmdResume lane => exact ⟨_, rfl, hreq _ (.laneCmdResume lane)⟩
  | laneCmdHalt lane => exact ⟨_, rfl, hreq _ (.laneCmdHalt lane)⟩
  | laneCmdPurge lane => exact ⟨_, rfl, hreq _ (.laneCmdPurge lane)⟩
  | laneCmdFlush lane => exact ⟨_, rfl, hreq _ (.laneCmdFlush lane)⟩
  | haltAll broadcast =>
    refine ⟨_, rfl, ?_⟩
    split
    · exact s.calm_haltEvery.counts.whenRunning
    · exact hreq _ (.haltAll broadcast)
  | alarmAck kind index => exact ⟨_, rfl, hreq _ (.alarmAck kind index)⟩
  | rejectMark tag => exact ⟨_, rfl, hreq _ (.rejectMark tag)⟩
  | unitReset broadcast =>
    refine ⟨_, rfl, ?_⟩
    split
    · exact (s.counts_resetBlocks _).whenRunning
    · exact hreq _ (.unitReset broadcast)

/-! ### Every step -/

theorem step_counts {s t : State} (h : step s = .next t) : s.KeepsCounts t := by
  unfold step at h
  split at h
  · next c rest _ =>
    obtain ⟨u, hu, hk⟩ := exec_counts c { s with pending := rest }
    cases hu.symm.trans h
    have hpop : s.Calm { s with pending := rest } := .of_same rfl rfl
    exact .after (hpop.moves (State.keeps_of_lanes rfl rfl))
      (s.keepsUnit_outside s.inputs s.freeDraws rest).reset hk
  · have hdraw := s.moves_draw s.dueRows.length
    have hreset := (s.keepsUnit_draw s.dueRows.length).reset
    unfold idleStep at h
    split at h
    next i s' hd =>
    rw [hd] at hdraw hreset
    split at h
    · next row _ =>
      obtain ⟨u, hu, hk⟩ := exec_counts row s'
      cases hu.symm.trans h
      exact .after hdraw hreset hk
    · cases h
      exact s.calm_passMs.counts

/-- Settles O58: every row keeps each part, from any state that meets what it asks for. -/
theorem everyStepKeepsThePoolAndItsCounts : Obligations.EveryStepKeepsThePoolAndItsCounts := by
  unfold Obligations.EveryStepKeepsThePoolAndItsCounts
  intro s t h
  have hk := step_counts h
  exact ⟨fun hr hp ho hg => ⟨hk.ranges hp hr, hk.pool hp, hk.outstanding hp ho, hk.guard hp hg⟩,
    hk.entry⟩

/-- Settles O59: the tests of a travel advance come to every record whose deadline the travel has
reached, and every event that sets a deadline tests it. -/
theorem everyStepKeepsDeadlinesAhead : Obligations.EveryStepKeepsDeadlinesAhead := by
  unfold Obligations.EveryStepKeepsDeadlinesAhead
  intro s t hr hp hd h
  exact (step_counts h).ahead hp hr hd

end Sys2Proof.Machine
end

section
/-!
SUPPORT. What the statements about E0 share: an eye or a queue written, the acceptance of an edge in
a lane that is not CLOSED, a working as the release row of its lane, and the deadline row of a record
that stands in its queue.
-/

namespace Sys2Proof.Machine

/-! ### An eye written -/

theorem State.queue_setEye (s : State) (l m : LaneNo) (k : EyeNo) (e : Eye) :
    (s.setEye l k e).queue m = s.queue m :=
  s.queue_modLane_same l _ rfl m

theorem State.records_setEye (s : State) (l : LaneNo) (k : EyeNo) (e : Eye) :
    (s.setEye l k e).records = s.records :=
  State.records_of_queues fun m => s.queue_setEye l m k e

theorem State.lane_setEye_self (s : State) (l : LaneNo) (k : EyeNo) (e : Eye) :
    (s.setEye l k e).lane l = { s.lane l with eyes := (s.lane l).eyes.set k e } :=
  State.lane_setLane_self _ _ _

theorem State.lane_setEye_ne (s : State) {l m : LaneNo} (h : m ≠ l) (k : EyeNo) (e : Eye) :
    (s.setEye l k e).lane m = s.lane m :=
  State.lane_setLane_ne s h _

theorem State.lane_setEye_frame (s : State) (l m : LaneNo) (k : EyeNo) (e : Eye) :
    ((s.setEye l k e).lane m).state = (s.lane m).state ∧
      ((s.setEye l k e).lane m).grant = (s.lane m).grant ∧
        ((s.setEye l k e).lane m).folder = (s.lane m).folder ∧
          ((s.setEye l k e).lane m).stacker = (s.lane m).stacker := by
  rw [State.setEye, State.lane_modLane]
  split <;> exact ⟨rfl, rfl, rfl, rfl⟩

theorem State.PoolSound.setEye {s : State} (h : s.PoolSound) (l : LaneNo) (k : EyeNo) (e : Eye) :
    (s.setEye l k e).PoolSound :=
  h.of_labels (fun m => by rw [s.queue_setEye]) rfl

/-- The edge of a change that is due reaches the tracker of a lane that is not CLOSED (R13, R15). -/
theorem exec_edgeAccepted_of_due {s : State} {l : LaneNo} {k : EyeNo} {x : Pos} {covered : Bool}
    (hr : s.resetPhase = .running) (ho : (s.lane l).state ≠ .closed)
    (hraw : (s.eye l k).raw = covered) (hx : (s.eye l k).pending = some x) (hd : s.Due x) :
    exec (.edgeAccepted l k) s =
      .next ((s.setEye l k ⟨covered, covered, none⟩).takeEdge l k covered x) := by
  rw [exec_edgeAccepted hr, State.acceptIfDue_of_due hx hd, State.acceptEye, hraw, State.deliver,
    if_neg]
  rw [State.lane_setEye_self]
  exact ho

/-! ### A queue written -/

theorem State.lane_setQueue_self (s : State) (l : LaneNo) (q : List Record) :
    (s.setQueue l q).lane l = { s.lane l with queue := q } :=
  State.lane_setLane_self _ _ _

theorem State.lane_setQueue_ne (s : State) {l m : LaneNo} (h : m ≠ l) (q : List Record) :
    (s.setQueue l q).lane m = s.lane m :=
  State.lane_setLane_ne s h _

theorem State.setQueue_setQueue (s : State) (l : LaneNo) (q q' : List Record) :
    (s.setQueue l q).setQueue l q' = s.setQueue l q' := by
  rw [State.setQueue, State.setQueue, State.modLane_modLane]
  rfl

theorem State.grant_setQueue (s : State) (l m : LaneNo) (q : List Record) :
    ((s.setQueue l q).lane m).grant = (s.lane m).grant := by
  rw [State.setQueue, State.lane_modLane]
  split <;> rfl

/-- One record of a sound pool changed: every record with its tag is that record. -/
theorem State.PoolSound.modRecord_eq_map {s : State} (h : s.PoolSound) {l : LaneNo} {r r' : Record}
    (hr : r ∈ s.queue l) {f : Record → Record} (hf : f r = r') : s.modRecord l r.tag f =
      s.setQueue l ((s.queue l).map fun y => if y.tag = r.tag then r' else y) := by
  refine congrArg (s.setQueue l) (List.map_congr_left fun y hy => ?_)
  split
  · next ht => rw [h.unique hr hy ht, hf]
  · rfl

theorem State.mem_queue_modRecord {s : State} {l : LaneNo} {r : Record} (hr : r ∈ s.queue l)
    (f : Record → Record) : f r ∈ (s.modRecord l r.tag f).queue l := by
  rw [State.queue_modRecord, if_pos rfl]
  exact List.mem_map.2 ⟨r, hr, if_pos rfl⟩

theorem State.PoolSound.isYoungest_iff {s : State} (h : s.PoolSound) {l : LaneNo} {r : Record}
    (hr : r ∈ s.queue l) : s.isYoungest l r = true ↔ (s.queue l).getLast? = some r := by
  unfold State.isYoungest State.youngest
  cases hy : (s.queue l).getLast? with
  | none => simp
  | some y =>
    rw [decide_eq_true_eq, Option.some_inj]
    exact ⟨h.unique hr (List.mem_of_getLast? hy), fun e => e ▸ rfl⟩

/-! ### A working as the release row of its lane (R70, R72) -/

theorem State.armedStation_congr {s t : State} {l : LaneNo}
    (hstate : (t.lane l).state = (s.lane l).state) (hgrant : (t.lane l).grant = (s.lane l).grant)
    (hstations : t.stations = s.stations) : t.armedStation l = s.armedStation l :=
  Option.ext fun st => by
    simp only [State.armedStation_eq_some, State.station, hstate, hgrant, hstations]

theorem State.armedStation_setQueue (s : State) (l : LaneNo) (q : List Record) :
    (s.setQueue l q).armedStation l = s.armedStation l :=
  State.armedStation_congr (by rw [State.lane_setQueue_self]) (s.grant_setQueue l l q) rfl

theorem State.armedStation_setEye (s : State) (l : LaneNo) (k : EyeNo) (e : Eye) :
    (s.setEye l k e).armedStation l = s.armedStation l := by
  obtain ⟨hstate, hgrant, -⟩ := s.lane_setEye_frame l l k e
  exact State.armedStation_congr hstate hgrant rfl

/-- A working is the release test of the lane with the point it has worked out. -/
theorem State.work_eq_testRelease {s : State} {l : LaneNo} {st : StationNo}
    (h : s.armedStation l = some st) : s.work l =
      (s.setLane l { s.lane l with releasePoint := s.workedPoint l st }).testRelease l := by
  have hlane := s.lane_setLane_self l { s.lane l with releasePoint := s.workedPoint l st }
  have harmed : (s.setLane l { s.lane l with
      releasePoint := s.workedPoint l st }).armedStation l = some st := by
    rw [← h]
    exact State.armedStation_congr (by rw [hlane]) (by rw [hlane]) rfl
  rw [State.work, h, State.testRelease, harmed]
  rfl

theorem State.work_of_release {s t : State} {l : LaneNo} {st : StationNo}
    (hr : s.resetPhase = .running) (h : s.armedStation l = some st)
    (ht : exec (.release l)
      (s.setLane l { s.lane l with releasePoint := s.workedPoint l st }) = .next t) :
    s.work l = t := by
  rw [exec_release (s := s.setLane l _) hr] at ht
  rw [State.work_eq_testRelease h]
  exact Host.Outcome.next.inj ht

section
variable {s v : State} {l : LaneNo} {r : Record}

/-- A change of a record that is not the youngest, or in a lane with no ARMED station, brings no
working (R70). -/
theorem State.PoolSound.workIf_of_idle (h : s.PoolSound) (hr : r ∈ s.queue l)
    (hidle : v.armedStation l = none ∨ (s.queue l).getLast? ≠ some r) :
    v.workIf l (s.isYoungest l r) = v := by
  rcases hidle with hidle | hidle
  · exact State.workIf_of_unarmed hidle _
  · rw [Bool.eq_false_iff.2 fun hy => hidle ((h.isYoungest_iff hr).1 hy)]
    rfl

theorem State.PoolSound.workIf_of_release (h : s.PoolSound) {st : StationNo} {t : State}
    (hlast : (s.queue l).getLast? = some r) (hr : v.resetPhase = .running)
    (harmed : v.armedStation l = some st)
    (ht : exec (.release l)
      (v.setLane l { v.lane l with releasePoint := v.workedPoint l st }) = .next t) :
    v.workIf l (s.isYoungest l r) = t := by
  rw [(h.isYoungest_iff (List.mem_of_getLast? hlast)).2 hlast]
  exact State.work_of_release hr harmed ht

end

theorem State.queue_workIf_prefix (s : State) (l : LaneNo) (youngest : Bool) (m : LaneNo) :
    s.queue m <+: (s.workIf l youngest).queue m := by
  unfold State.workIf
  split
  · exact (s.arbiterOnly_work l).queue_prefix m
  · exact List.prefix_refl _

/-- A working leaves the other lanes, the alarms and the reports (R70 to R75). -/
theorem State.workIf_frame (s : State) (l : LaneNo) (youngest : Bool) :
    (∀ m, m ≠ l → (s.workIf l youngest).lane m = s.lane m) ∧
      (s.workIf l youngest).alarms = s.alarms ∧ (s.workIf l youngest).reports = s.reports := by
  have hsteady := s.steady_workIf l youngest
  refine ⟨fun m hm => ?_, congrArg Steady.alarms hsteady, congrArg Steady.reports hsteady⟩
  unfold State.workIf
  split
  · obtain ⟨hlanes, -, -⟩ := s.arbiterOnly_work l
    exact hlanes m hm
  · rfl

/-! ### The deadline of a record that stands in its queue (R89) -/

section
variable {s : State} {l : LaneNo} {r : Record} {due : Record → Option LostCause}

theorem State.PoolSound.expireFor_of_none (h : s.PoolSound) (hr : r ∈ s.queue l)
    (hd : due r = none) : s.expireFor l r.tag due = s := by
  obtain ⟨-, htags, -⟩ := id h
  rw [State.expireFor, State.findRecord_of_mem htags hr]
  dsimp only
  rw [hd]

theorem State.PoolSound.expireFor_of_some (h : s.PoolSound) (hr : r ∈ s.queue l) {c : LostCause}
    (hd : due r = some c) : s.expireFor l r.tag due = (s.loseRecord l r c).planTest := by
  obtain ⟨-, htags, -⟩ := id h
  rw [State.expireFor, State.findRecord_of_mem htags hr]
  dsimp only
  rw [hd]

/-- With no entry-clear deadline both tests are that of the next-eye deadline. -/
theorem State.PoolSound.expireIfSetPast_eq (h : s.PoolSound) (hr : r ∈ s.queue l)
    (hc : r.clearDeadline = none) : s.expireIfSetPast l r.tag = s.expireIfDue l r.tag := by
  have hdue : s.nextEyeCause l r = s.dueCause l r := by rw [State.nextEyeCause, State.dueCause, hc]
  unfold State.expireIfSetPast State.expireIfDue
  cases hd : s.dueCause l r with
  | none => rw [h.expireFor_of_none hr (hdue.trans hd), h.expireFor_of_none hr hd]
  | some c => rw [h.expireFor_of_some hr (hdue.trans hd), h.expireFor_of_some hr hd]

/-- The deadline row of a record tests both its deadlines. -/
theorem exec_deadlinePass_of_mem (hrun : s.resetPhase = .running) (h : s.PoolSound)
    (hr : r ∈ s.queue l) : exec (.deadlinePass (BitVec.ofNat 16 r.tag)) s =
      .next (s.expireIfDue l r.tag) := by
  obtain ⟨-, htags, hrange, -⟩ := id h
  obtain ⟨-, hmax⟩ := hrange r (State.mem_records hr)
  rw [exec_deadlinePass_ofNat hrun hmax,
    State.passDeadline_of_lane (.inr (State.laneWithTag_of_mem htags hr))]

theorem State.dueCause_of_ahead (hd : (s.travel - r.deadline).msb = true)
    (hc : ∀ d ∈ r.clearDeadline, (s.travel - d).msb = true) : s.dueCause l r = none :=
  State.dueCause_eq_none.2 ⟨by simp [atOrPast_eq, hd], fun d hm => by simp [atOrPast_eq, hc d hm]⟩

/-- A row that ends with the test of a record's deadlines ends as the deadline row of that record,
and with the deadlines ahead it ends there. -/
theorem exec_ends_with_deadlinePass {i : Instr} {u : State} (hrun : u.resetPhase = .running)
    (hexec : exec i u = .next (s.expireIfDue l r.tag)) (hkept : s.kept = u.kept) (h : s.PoolSound)
    (hr : r ∈ s.queue l) :
    exec i u = exec (.deadlinePass (BitVec.ofNat 16 r.tag)) s ∧
      ((u.travel - r.deadline).msb = true → (∀ d ∈ r.clearDeadline, (u.travel - d).msb = true) →
        exec i u = .next s) := by
  have htravel : s.travel = u.travel := congrArg Kept.travel hkept
  refine ⟨?_, fun hd hc => ?_⟩
  · rw [hexec, exec_deadlinePass_of_mem ((congrArg Kept.resetPhase hkept).trans hrun) h hr]
  · rw [← htravel] at hd hc
    rw [hexec, State.expireIfDue, h.expireFor_of_none hr (State.dueCause_of_ahead hd hc)]

end

end Sys2Proof.Machine
end


section
/-!
PROOFS. Statement O39: a trailing edge at E0.
-/

namespace Sys2Proof.Machine

/-! ### What the edge writes in the record on E0 (R88, R102, R103) -/

section
variable {r : Record} {n : Nat}

/-- The first cause given stands, and a record without an origin is not classed. -/
theorem Record.cause_classify (r : Record) (n : Nat) : (r.classify n).cause =
    if r.cause ≠ none ∨ r.origin = none then r.cause else r.lengthCause n := by
  unfold Record.classify
  cases ho : r.origin with
  | none => simp
  | some st =>
    cases hl : r.lengthCause n with
    | none => cases hc : r.cause <;> simp
    | some c =>
      cases hc : r.cause <;> simp [Record.giveCause_eq, hc]

theorem State.cause_trailingTaken {s : State} {l : LaneNo} {x : Pos} (hn : r.lengthTo x = n) :
    (s.trailingTaken l x r).cause =
      if r.cause ≠ none ∨ r.origin = none then r.cause else r.lengthCause n := by
  unfold State.trailingTaken
  rw [hn, Record.cause_classify]
  (repeat' split) <;> rfl

/-- A CLEAR deadline is worked out again with the measured length. -/
theorem State.deadline_trailingTaken_of_clear {s : State} {l : LaneNo} {x le3 : Pos}
    (he : r.nextEye = .clear) (hle : r.le3 = some le3) (hn : r.lengthTo x = n) :
    (s.trailingTaken l x r).deadline =
      le3 + BitVec.ofNat 32 (n + (s.lane l).geometry.w3 + s.params.fe) := by
  unfold State.trailingTaken
  dsimp only
  rw [Record.classify_eq, he, hle, hn]
  rfl

theorem Record.clearReset_iff : r.clearReset = true ↔ r.nextEye = .clear ∧ r.le3 ≠ none := by
  simp [Record.clearReset, Option.isSome_iff_ne_none]

end

/-- With no record on E0 the edge is ignored (R102). -/
theorem State.recordOnE0_eq_none {s : State} {l : LaneNo}
    (h : ∀ y ∈ s.queue l, y.le0 = none ∨ y.te0 ≠ none) : s.recordOnE0 l = none := by
  refine List.find?_eq_none.2 fun y hy => ?_
  rcases h y hy with h | h <;> simp [h]

/-! ### The edge taken (R89, R102) -/

section
variable {s : State} {l : LaneNo} {x : Pos} {r : Record}

/-- The record on E0 measured, and its lane's point worked out again where it is the youngest. -/
def State.trailed (s : State) (l : LaneNo) (x : Pos) (r : Record) : State :=
  (s.modRecord l r.tag (s.trailingTaken l x)).workIf l (s.isYoungest l r)

theorem State.tag_trailingTaken (s : State) (l : LaneNo) (x : Pos) (r : Record) :
    (s.trailingTaken l x r).tag = r.tag :=
  congrArg Prod.fst (s.trailingTaken_stays l x r).label

theorem State.PoolSound.trailed (h : s.PoolSound) (hr : r ∈ s.queue l) (x : Pos) :
    (s.trailed l x r).PoolSound :=
  (State.calm_workIf _ l _).pool (h.modRecord hr (s.trailingTaken_stays l x r).label)

theorem State.mem_queue_trailed (hr : r ∈ s.queue l) (x : Pos) :
    s.trailingTaken l x r ∈ (s.trailed l x r).queue l :=
  (State.queue_workIf_prefix _ l _ l).subset (State.mem_queue_modRecord hr _)

theorem State.entryTrailing_of_plain (hon : s.recordOnE0 l = some r)
    (h : r.nextEye ≠ .clear ∨ r.le3 = none) : s.entryTrailing l x = s.trailed l x r := by
  have hc : ¬ r.clearReset = true := fun hc => by
    obtain ⟨he, hle⟩ := Record.clearReset_iff.1 hc
    exact h.elim (· he) hle
  unfold State.entryTrailing
  rw [hon]
  exact if_neg hc

/-- A CLEAR deadline set again is tested; the entry-clear deadline is dropped, so that no other is
left. -/
theorem State.PoolSound.entryTrailing_of_clear (h : s.PoolSound) (hon : s.recordOnE0 l = some r)
    (he : r.nextEye = .clear) (hle : r.le3 ≠ none) :
    s.entryTrailing l x = (s.trailed l x r).expireIfDue l (s.trailingTaken l x r).tag := by
  obtain ⟨hr, -⟩ := State.recordOnE0_some hon
  have hdropped : (s.trailingTaken l x r).clearDeadline = none := by rw [State.trailingTaken_eq]
  rw [← (h.trailed hr x).expireIfSetPast_eq (State.mem_queue_trailed hr x) hdropped,
    State.tag_trailingTaken]
  unfold State.entryTrailing
  rw [hon]
  exact if_pos (Record.clearReset_iff.2 ⟨he, hle⟩)

end

/-- Settles O39: the record on E0 with what the edge writes in it, the working for the youngest, and
the test of the CLEAR deadline alone. -/
theorem aTrailingEdgeAtE0MeasuresAndClasses : Obligations.ATrailingEdgeAtE0MeasuresAndClasses := by
  unfold Obligations.ATrailingEdgeAtE0MeasuresAndClasses
  intro l x s u hrun hp hopen hraw hx hd hu
  have hexec : exec (.edgeAccepted l 0) s = .next (u.entryTrailing l x) := by
    rw [hu]
    exact exec_edgeAccepted_of_due hrun hopen hraw hx hd
  have hqueue : ∀ m, u.queue m = s.queue m := fun m => hu ▸ s.queue_setEye l m 0 _
  have hlane : u.lane l = { s.lane l with eyes := (s.lane l).eyes.set 0 ⟨false, false, none⟩ } :=
    hu ▸ s.lane_setEye_self l 0 _
  have hpu : u.PoolSound := hu ▸ hp.setEye l 0 _
  refine ⟨fun hnone => ?_, fun r r' le0 n v hon hle hn hr' hv => ?_⟩
  · rw [hexec, State.entryTrailing, State.recordOnE0_eq_none (by rwa [hqueue])]
  have honu : u.recordOnE0 l = some r := by rwa [State.recordOnE0, hqueue]
  obtain ⟨hru, -⟩ := State.recordOnE0_some honu
  have hlength : r.lengthTo x = n := by rw [Record.lengthTo, hle, hn]
  have hdeadline : (u.trailingTaken l x r).deadline = r'.deadline := by
    rw [hr']
    dsimp only
    split
    · next le3 he hle3 =>
      rw [State.deadline_trailingTaken_of_clear he hle3 hlength, hlane, hu]
      rfl
    · next hother =>
      refine State.deadline_trailingTaken (Bool.eq_false_iff.2 fun hc => ?_) u l x
      obtain ⟨he, hne⟩ := Record.clearReset_iff.1 hc
      obtain ⟨le3, hle3⟩ := Option.ne_none_iff_exists'.1 hne
      exact hother le3 he hle3
  have hcause : (u.trailingTaken l x r).cause = r'.cause := by
    rw [State.cause_trailingTaken hlength, hr']
    rfl
  have htaken : u.trailingTaken l x r = r' := by
    rw [State.trailingTaken_eq, hdeadline, hcause, hlength, hr']
  have hmod : u.modRecord l r.tag (u.trailingTaken l x) = v := by
    rw [hv, hpu.modRecord_eq_map hru htaken, hqueue]
  have htrailed : u.trailed l x r = v.workIf l (u.isYoungest l r) := by rw [State.trailed, hmod]
  have hkept : (u.trailed l x r).kept = s.kept := by
    rw [htrailed, State.kept_workIf, hv, hu]
    rfl
  have hplain : r.nextEye ≠ .clear ∨ r.le3 = none →
      exec (.edgeAccepted l 0) s = .next (u.trailed l x r) := fun h => by
    rw [hexec, State.entryTrailing_of_plain honu h]
  have hclear : r.nextEye = .clear → r.le3 ≠ none →
      exec (.edgeAccepted l 0) s = exec (.deadlinePass (BitVec.ofNat 16 r.tag)) (u.trailed l x r) ∧
        ((s.travel - r'.deadline).msb = true →
          exec (.edgeAccepted l 0) s = .next (u.trailed l x r)) := fun he h3 => by
    obtain ⟨hrow, hahead⟩ := exec_ends_with_deadlinePass hrun
      (by rw [hexec, hpu.entryTrailing_of_clear honu he h3]) hkept (hpu.trailed hru x)
      (State.mem_queue_trailed hru x)
    rw [State.tag_trailingTaken] at hrow
    rw [htaken] at hahead
    exact ⟨hrow, fun h => hahead h (by simp [hr'])⟩
  rw [htrailed] at hplain hclear
  obtain ⟨hlanes, halarms, hreports⟩ := v.workIf_frame l (u.isYoungest l r)
  refine ⟨fun w hw => ?_, fun h => ⟨v.workIf l (u.isYoungest l r), ?_,
    v.queue_workIf_prefix l _ l, fun m hm => ?_, ?_, ?_⟩⟩
  · have harmed : v.armedStation l = s.armedStation l := by
      rw [hv, State.armedStation_setQueue, hu, State.armedStation_setEye]
    have hworked : v.workIf l (u.isYoungest l r) = w := by
      rw [← harmed, ← hqueue] at hw
      rcases hw with ⟨hidle, rfl⟩ | ⟨a, ha, hlast, hw⟩
      · exact hpu.workIf_of_idle hru hidle
      · exact hpu.workIf_of_release hlast (by rw [hv, hu]; exact hrun) ha hw
    exact hworked ▸ ⟨hplain, hclear⟩
  · by_cases hc : r.nextEye = .clear ∧ r.le3 ≠ none
    · obtain ⟨he, h3⟩ := hc
      exact (hclear he h3).2 ((h.resolve_left (not_not.2 he)).resolve_left h3)
    · exact hplain (by rwa [not_and_or, not_not] at hc)
  · rw [hlanes m hm, hv, State.lane_setQueue_ne _ hm, hu, State.lane_setEye_ne _ hm]
  · rw [halarms, hv, hu]
    rfl
  · rw [hreports, hv, hu]
    rfl

end Sys2Proof.Machine
end

section
/-!
PROOFS. Statement O38: a leading edge at E0 that matches no record.
-/

namespace Sys2Proof.Machine

/-! ### No match (R96) -/

/-- A foreign record joins ahead of the records that wait for E0 (R85). -/
theorem insertForeign_eq (r : Record) (q : List Record) : insertForeign r q =
    q.takeWhile (fun y => decide (y.nextEye ≠ .e0)) ++
      r :: q.dropWhile (fun y => decide (y.nextEye ≠ .e0)) := by
  induction q with
  | nil => rfl
  | cons y rest ih =>
    by_cases hy : y.nextEye = .e0
    · simp [insertForeign, hy]
    · simp [insertForeign, hy, ih]

theorem State.inEntryWindow_iff {s : State} {l : LaneNo} {r : Record} {x pred : Pos}
    (h : r.predLe0 = some pred) : s.inEntryWindow l r x = true ↔
      -((s.lane l).geometry.w0 : Int) ≤ (x - pred).toInt ∧
        (x - pred).toInt ≤ ((s.lane l).geometry.w0 : Int) := by
  rw [State.inEntryWindow, h]
  exact decide_eq_true_iff

/-- With no record that waits for E0, or the edge outside the window of the first, the edge makes a
foreign record (R96, R99). -/
theorem State.entryLeading_of_unmatched {s : State} {l : LaneNo} {x : Pos}
    (h : (∀ y ∈ s.queue l, y.nextEye ≠ .e0) ∨
      ∃ r pred, s.candidate l .e0 = some r ∧ r.predLe0 = some pred ∧
        ((x - pred).toInt < -((s.lane l).geometry.w0 : Int) ∨
          ((s.lane l).geometry.w0 : Int) < (x - pred).toInt)) :
    s.entryLeading l x = s.foreignSheet l x := by
  unfold State.entryLeading
  rcases h with hnone | ⟨r, pred, hc, hpred, hout⟩
  · have hc : s.candidate l .e0 = none :=
      List.find?_eq_none.2 fun y hy => by simpa using hnone y hy
    rw [hc]
  · rw [hc]
    refine if_neg fun hin => ?_
    obtain ⟨hlow, hhigh⟩ := (State.inEntryWindow_iff hpred).1 hin
    omega

/-! ### The foreign record (R80, R83, R85, R99) -/

theorem State.NextTag.congr {s t : State} {n : Nat} (h : t.NextTag n)
    (hrecords : t.records = s.records) (hcounter : t.tagCounter = s.tagCounter) : s.NextTag n := by
  unfold State.NextTag at *
  rwa [hrecords, hcounter] at h

theorem State.joinForeign_eq (s : State) (l : LaneNo) {r : Record} (h : r.tag ≤ 65535) :
    s.joinForeign l r =
      { s.setQueue l ((s.queue l).takeWhile (fun y => decide (y.nextEye ≠ .e0)) ++
          r :: (s.queue l).dropWhile (fun y => decide (y.nextEye ≠ .e0))) with
        tagCounter := if r.tag = 65535 then 1 else r.tag + 1 } := by
  rw [State.joinForeign, State.countTag, insertForeign_eq, tagAfter_of_le h]

/-- Settles O38: with no slot free the occurrence of STRAY, and else the foreign record, the working
of its lane and the test of its deadlines. -/
theorem anUnmatchedEdgeAtE0MakesAForeignRecord :
    Obligations.AnUnmatchedEdgeAtE0MakesAForeignRecord := by
  unfold Obligations.AnUnmatchedEdgeAtE0MakesAForeignRecord
  intro l x s u hrun hp hopen hraw hx hd hmatch hu
  have hqueue : ∀ m, u.queue m = s.queue m := fun m => hu ▸ s.queue_setEye l m 0 _
  have hrecords : u.records = s.records := hu ▸ s.records_setEye l 0 _
  have hlane : u.lane l = { s.lane l with eyes := (s.lane l).eyes.set 0 ⟨true, true, none⟩ } :=
    hu ▸ s.lane_setEye_self l 0 _
  have hexec : exec (.edgeAccepted l 0) s = .next (u.foreignSheet l x) := by
    rw [exec_edgeAccepted_of_due hrun hopen hraw hx hd, ← hu]
    refine congrArg Host.Outcome.next (State.entryLeading_of_unmatched ?_)
    rw [State.candidate, hqueue, hlane]
    exact hmatch
  refine ⟨fun hfull => ?_, fun hroom => ?_⟩
  · rw [hexec, State.foreignSheet, if_neg]
    · rfl
    · rw [State.hasSlot, State.poolCount, hrecords, decide_eq_true_eq]
      exact Nat.not_lt.2 hfull
  have hslot : u.hasSlot = true := by
    rw [State.hasSlot, State.poolCount, hrecords]
    exact decide_eq_true hroom
  have hpu : u.PoolSound := hu ▸ hp.setEye l 0 _
  obtain ⟨-, -, -, hcounter, -⟩ := id hp
  have hnext : s.NextTag u.newTag :=
    (State.nextTag_newTag (by rw [hu]; exact hcounter) hslot).congr hrecords (by rw [hu]; rfl)
  have hjoin := State.joined_joinForeign hslot l x
  have hv : u.joinForeign l (u.foreignRecord l x) =
      { u.setQueue l ((s.queue l).takeWhile (fun y => decide (y.nextEye ≠ .e0)) ++
          u.foreignRecord l x :: (s.queue l).dropWhile (fun y => decide (y.nextEye ≠ .e0))) with
        tagCounter := if u.newTag = 65535 then 1 else u.newTag + 1 } :=
    hqueue l ▸ u.joinForeign_eq l hnext.range.2
  have hend : exec (.edgeAccepted l 0) s = .next
      (((u.joinForeign l (u.foreignRecord l x)).work l).evalGuard.expireIfDue l
        (u.foreignRecord l x).tag) := by
    rw [hexec, State.foreignSheet, if_pos hslot]
  have harmed : (u.joinForeign l (u.foreignRecord l x)).armedStation l = s.armedStation l :=
    (u.armedStation_setQueue l _).trans (hu ▸ s.armedStation_setEye l 0 _)
  have hother : ∀ m, m ≠ l → (u.joinForeign l (u.foreignRecord l x)).lane m = s.lane m :=
    fun m hm => (u.lane_setQueue_ne hm _).trans (hu ▸ s.lane_setEye_ne hm 0 _)
  have hclear : (u.foreignRecord l x).clearDeadline =
      some (x + BitVec.ofNat 32 (12000 + s.params.fe)) := by
    rw [hu]
    rfl
  generalize u.joinForeign l (u.foreignRecord l x) = v at hjoin hv hend harmed hother
  have hkept : v.kept = s.kept := hjoin.kept.trans (hu ▸ s.kept_setEye l 0 _)
  have hmem : u.foreignRecord l x ∈ v.queue l := hjoin.queue.symm.subset (List.mem_cons_self ..)
  obtain ⟨hlanes, halarms, hreports⟩ := v.workIf_frame l true
  obtain ⟨hrow, hahead⟩ := exec_ends_with_deadlinePass (s := (v.work l).evalGuard) hrun hend
    ((v.kept_work l).trans hkept) ((v.calm_work l).pool (hjoin.pool hpu))
    ((v.queue_workIf_prefix l true l).subset hmem)
  simp only [hclear, Option.mem_some_iff, forall_eq'] at hahead
  refine ⟨u.newTag, u.foreignRecord l x, _, v, ⟨hnext.range.1, hnext.range.2, hnext.free⟩,
    hnext.eq_counter hcounter, hnext, ?_, rfl, hv, fun hidle => ?_, fun a t ha ht => ?_,
    fun hd hc => ⟨fun hidle => ?_, (v.work l).evalGuard, hahead hd hc,
      v.queue_workIf_prefix l true l, fun m hm => (hlanes m hm).trans (hother m hm),
      halarms.trans ?_, hreports.trans ?_⟩⟩
  · rw [State.foreignRecord, State.eyeDeadline, hlane, hu]
    rfl
  · rw [hrow, State.work_of_unarmed (harmed.trans hidle)]
    rfl
  · have hwork : v.work l = t :=
      State.work_of_release ((congrArg Kept.resetPhase hkept).trans hrun) (harmed.trans ha) ht
    rw [hwork] at hrow hahead
    exact ⟨hrow, hahead⟩
  · rw [hahead hd hc, State.work_of_unarmed (harmed.trans hidle)]
  · exact (congrArg Steady.alarms hjoin.steady).trans (by rw [hu]; rfl)
  · exact (congrArg Steady.reports hjoin.steady).trans (by rw [hu]; rfl)

end Sys2Proof.Machine
end

section
/-!
SUPPORT. A notice taken by a station, case by case (R47 to R49), and what it leaves of every lane.
-/

namespace Sys2Proof.Machine

/-! ### What a notice leaves as it is -/

/-- What of the lanes and of a plan change no notice writes. -/
structure Fixed where
  lanes : Quad LaneSteady
  phase : PlanPhase

def State.fixed (s : State) : Fixed := ⟨s.lanes.map Lane.steady, s.phase⟩

theorem State.fixed_of_steady {s t : State} (h : t.steady = s.steady) : t.fixed = s.fixed :=
  congrArg (fun x => Fixed.mk x.lanes x.phase) h

theorem State.lane_of_fixed {s t : State} (h : t.fixed = s.fixed) (l : LaneNo) :
    (t.lane l).steady = (s.lane l).steady := by
  have hl := congrArg (fun x => x.lanes.get l) h
  simpa only [State.fixed, Quad.get_map, State.lane] using hl

theorem State.fixed_modStation (s : State) (st : StationNo) (f : Station → Station) :
    (s.modStation st f).fixed = s.fixed := rfl

theorem State.fixed_offer (s : State) (r : Report) : (s.offer r).fixed = s.fixed := by
  rw [State.offer_eq]
  rfl

theorem State.fixed_completeBatch (s : State) (st : StationNo) (c : Bool) :
    (s.completeBatch st c).fixed = s.fixed := by
  unfold State.completeBatch
  split
  · rfl
  · rw [State.fixed_of_steady (State.steady_giveBack _ st), State.fixed_modStation,
      State.fixed_offer]

theorem State.fixed_notice (s : State) (st : StationNo) (batch : Nat) (d : Departure) :
    (s.notice st batch d).fixed = s.fixed := by
  unfold State.notice State.enterWaiting
  (repeat' split)
  · exact (State.fixed_of_steady (State.steady_testHold _ st)).trans rfl
  · exact State.fixed_completeBatch (s.modStation st _) st false
  · rfl
  · rfl

theorem State.fixed_noticeOf (s : State) (r : Record) (d : Departure) :
    (s.noticeOf r d).fixed = s.fixed := by
  unfold State.noticeOf
  split
  · exact s.fixed_notice _ _ _
  · rfl

/-! ### The station's part (R47, R48) -/

section
variable {x : Station} {batch : Nat} {d : Departure} {b : Batch}

theorem Station.notice_of_kept (h : x.restores batch d = false) :
    x.notice batch d = { x with outstanding := x.outstanding - 1 } := by
  rw [Station.notice, h]
  rfl

theorem Station.notice_of_restored (h : x.restores batch d = true) (hb : x.current = some b) :
    x.notice batch d = { x with
      outstanding := x.outstanding - 1,
      current := some { b with remaining := b.remaining + 1 } } := by
  rw [Station.notice, h, hb]
  rfl

theorem Station.restores_iff : x.restores batch d = true ↔
    d = .misfeed ∧ ∃ b, x.current = some b ∧ b.id = batch ∧ b.remaining < b.pieces := by
  unfold Station.restores
  cases x.current <;> simp

theorem Station.restores_of_other (h : d ≠ .misfeed) : x.restores batch d = false :=
  Bool.eq_false_iff.2 fun hr => h (Station.restores_iff.1 hr).1

end

/-! ### The notice (R49) -/

section
variable {s : State} {st : StationNo} {batch : Nat} {d : Departure}

theorem State.noticeOf_eq {r : Record} (he : r.nextEye = .e0) (ho : r.origin = some st) :
    s.noticeOf r d = s.notice st r.batch d := by
  rw [State.noticeOf, he, ho]

theorem State.noticeOf_foreign {r : Record} (ho : r.origin = none) : s.noticeOf r d = s := by
  unfold State.noticeOf
  split
  · next st _ hst => cases ho.symm.trans hst
  · rfl

/-- A station that is not in FINISHING, or has more outstanding, counts the notice and no more. -/
theorem State.notice_of_counted (hk : (s.station st).restores batch d = false)
    (h : (s.station st).state ≠ .finishing ∨ 1 < (s.station st).outstanding) :
    s.notice st batch d =
      s.setStation st { s.station st with outstanding := (s.station st).outstanding - 1 } := by
  have hplain : s.modStation st (fun x => x.notice batch d) =
      s.setStation st { s.station st with outstanding := (s.station st).outstanding - 1 } := by
    rw [State.modStation_eq, Station.notice_of_kept hk]
  unfold State.notice
  rw [hk, hplain]
  split
  · next hf =>
    have hmore := h.resolve_left (not_not.2 hf)
    rw [if_neg Bool.false_ne_true, if_neg (by omega)]
  · rfl

/-- The last notice of a station in FINISHING completes its batch (R43). -/
theorem State.notice_of_last {b : Batch} (hk : (s.station st).restores batch d = false)
    (hf : (s.station st).state = .finishing) (ho : (s.station st).outstanding = 1)
    (hb : (s.station st).current = some b) :
    s.notice st batch d = (s.ended st { s.station st with
        outstanding := 0, current := (s.station st).next, next := none,
        state := if (s.station st).next = none then .noBatch else .waiting }
      (.batchEnd st b.id b.pieces (b.pieces - b.remaining) false)).giveBack st := by
  have hpaid : s.modStation st (fun x => x.notice batch d) =
      s.setStation st { s.station st with outstanding := 0 } := by
    rw [State.modStation_eq, Station.notice_of_kept hk, ho]
  unfold State.notice
  rw [if_pos hf, hk, if_neg Bool.false_ne_true, if_pos (by omega), hpaid,
    State.completeBatch_eq (b := b) false (by rw [State.station_setStation_self]; exact hb),
    State.station_setStation_self, State.offer_setStation, State.setStation_setStation, State.ended,
    State.offer_setStation, Station.promote_eq]

theorem State.notice_of_completed {b : Batch} {g v : State} (hrun : s.resetPhase = .running)
    (hk : (s.station st).restores batch d = false) (hf : (s.station st).state = .finishing)
    (ho : (s.station st).outstanding = 1) (hb : (s.station st).current = some b)
    (hg : g = (s.setStation st { s.station st with
        outstanding := 0, current := (s.station st).next, next := none,
        state := if (s.station st).next = none then .noBatch else .waiting }).offer
      (.batchEnd st b.id b.pieces (b.pieces - b.remaining) false))
    (hv : ((s.lane (s.laneOf st)).grant ≠ some st ∧ v = g) ∨
      ((s.lane (s.laneOf st)).grant = some st ∧ g.GaveBack (s.laneOf st) v)) :
    s.notice st batch d = v := by
  rw [State.notice_of_last hk hf ho hb]
  subst hg
  rcases hv with ⟨hfree, rfl⟩ | ⟨hheld, hback⟩
  · exact State.ended_giveBack_of_free hfree
  · exact State.ended_giveBack_of_gaveBack hrun hheld hback

/-- A notice that restores a piece brings a station in FINISHING to WAITING, with the run-hold test
made there (R48 to R50). -/
theorem State.notice_of_restored {b : Batch} (hk : (s.station st).restores batch d = true)
    (hb : (s.station st).current = some b) {g : State}
    (hg : g = s.setStation st { s.station st with
      outstanding := (s.station st).outstanding - 1,
      current := some { b with remaining := b.remaining + 1 },
      state := if (s.station st).state = .finishing then .waiting else (s.station st).state }) :
    s.notice st batch d = if (s.station st).state = .finishing then g.testHold st else g := by
  unfold State.notice State.enterWaiting
  rw [hk, if_pos rfl]
  split
  · next hf =>
    rw [hg, if_pos hf, State.modStation_modStation, State.modStation_eq,
      Station.notice_of_restored hk hb]
  · next hf =>
    rw [hg, if_neg hf, State.modStation_eq, Station.notice_of_restored hk hb]

/-- In WAITING the station keeps a grant it holds, unless it is in RUN mode and its hold is over
(R50). -/
theorem State.notice_of_resumed {b : Batch} {g v : State} (hrun : s.resetPhase = .running)
    (hk : (s.station st).restores batch d = true) (hb : (s.station st).current = some b)
    (hg : g = s.setStation st { s.station st with
      outstanding := (s.station st).outstanding - 1,
      current := some { b with remaining := b.remaining + 1 },
      state := if (s.station st).state = .finishing then .waiting else (s.station st).state })
    (hv : (((s.station st).state ≠ .finishing ∨ (s.station st).params.mode = .single ∨
          (s.lane (s.laneOf st)).grant ≠ some st ∨
          (s.travel - ((s.station st).holdOrigin +
            BitVec.ofNat 32 (s.station st).params.hold)).msb = true) ∧ v = g) ∨
      ((s.station st).state = .finishing ∧ (s.station st).params.mode = .run ∧
        (s.lane (s.laneOf st)).grant = some st ∧
        (s.travel - ((s.station st).holdOrigin +
          BitVec.ofNat 32 (s.station st).params.hold)).msb = false ∧
        g.GaveBack (s.laneOf st) v)) : s.notice st batch d = v := by
  have hover : (s.station st).state = .finishing → (g.runHoldOver st = true ↔
      (s.station st).params.mode = .run ∧ (s.lane (s.laneOf st)).grant = some st ∧
        (s.travel - ((s.station st).holdOrigin +
          BitVec.ofNat 32 (s.station st).params.hold)).msb = false) := fun hf => by
    rw [hg, State.runHoldOver_iff, State.station_setStation_self, if_pos hf, and_iff_right rfl]
    exact Iff.rfl
  rw [State.notice_of_restored hk hb hg]
  rcases hv with ⟨hstays, rfl⟩ | ⟨hf, hmode, hheld, hpast, hback⟩
  · split
    · next hf =>
      refine State.testHold_of_not_over (Bool.eq_false_iff.2 fun hends => ?_)
      obtain ⟨hmode, hheld, hpast⟩ := (hover hf).1 hends
      simp [hf, hmode, hheld, hpast] at hstays
    · rfl
  · rw [if_pos hf, State.testHold_of_over ((hover hf).2 ⟨hmode, hheld, hpast⟩)]
    refine State.giveBack_of_gaveBack ?_ ?_ (hg ▸ hback) <;> rw [hg]
    · exact hrun
    · exact hheld

end

end Sys2Proof.Machine
end

section
/-!
PROOFS. Statement O37: a leading edge at E0 that matches.
-/

namespace Sys2Proof.Machine

/-- A match keeps alarms, lane states, fold interfaces and stacking units until its deadlines are
tested, and records only join the tails of the queues. -/
theorem State.noticeOf_workIf_frame (s : State) (r : Record) (d : Departure) (l : LaneNo)
    (youngest : Bool) :
    (∀ m, s.queue m <+: ((s.noticeOf r d).workIf l youngest).queue m) ∧
      ((s.noticeOf r d).workIf l youngest).alarms = s.alarms ∧
        ∀ m, (((s.noticeOf r d).workIf l youngest).lane m).steady = (s.lane m).steady := by
  have hlines : ((s.noticeOf r d).workIf l youngest).lines = s.lines := by
    rw [State.lines_workIf, State.lines_noticeOf]
  have hfixed : ((s.noticeOf r d).workIf l youngest).fixed = s.fixed :=
    (State.fixed_of_steady (State.steady_workIf _ l youngest)).trans (s.fixed_noticeOf r d)
  exact ⟨fun m => (s.queue_noticeOf_prefix r d m).trans (State.queue_workIf_prefix _ l youngest m),
    congrArg Lines.alarms hlines, State.lane_of_fixed hfixed⟩

/-! ### The match (R97, R98) -/

section
variable {s : State} {l : LaneNo} {x : Pos} {r : Record}

/-- The record matched, the notice to its station, and its lane's point worked out again where it is
the youngest. -/
def State.matched (s : State) (l : LaneNo) (x : Pos) (r : Record) : State :=
  ((s.modRecord l r.tag (s.entryMatched l x)).noticeOf r .confirmation).workIf l (s.isYoungest l r)

theorem State.matchEntry_eq : s.matchEntry l r x =
    (s.matched l x r).evalGuard.expireIfDue l (s.entryMatched l x r).tag := rfl

theorem State.PoolSound.matched (h : s.PoolSound) (hr : r ∈ s.queue l) (x : Pos) :
    (s.matched l x r).PoolSound :=
  (State.calm_workIf _ l _).pool
    ((State.notified_noticeOf _ r .confirmation).pool (h.modRecord hr rfl))

theorem State.mem_queue_matched (hr : r ∈ s.queue l) (x : Pos) :
    s.entryMatched l x r ∈ (s.matched l x r).queue l := by
  obtain ⟨hprefix, -⟩ := (s.modRecord l r.tag (s.entryMatched l x)).noticeOf_workIf_frame r
    .confirmation l (s.isYoungest l r)
  exact (hprefix l).subset (State.mem_queue_modRecord hr _)

/-- An edge in the window of the record nearest the head that waits for E0 matches it (R96). -/
theorem State.entryLeading_of_matched {pred : Pos} (hc : s.candidate l .e0 = some r)
    (hpred : r.predLe0 = some pred) (hlow : -((s.lane l).geometry.w0 : Int) ≤ (x - pred).toInt)
    (hhigh : (x - pred).toInt ≤ ((s.lane l).geometry.w0 : Int)) :
    s.entryLeading l x = s.matchEntry l r x := by
  rw [State.entryLeading, hc]
  exact if_pos ((State.inEntryWindow_iff hpred).2 ⟨hlow, hhigh⟩)

end

/-- Settles O37: the record matched, the notice to its station by the station's state, the working
for the youngest, and the test of the deadlines the match has set. -/
theorem anEdgeInTheEntryWindowMatches : Obligations.AnEdgeInTheEntryWindowMatches := by
  unfold Obligations.AnEdgeInTheEntryWindowMatches
  intro l x pred r r' s u hrun hp hopen hraw hx hd hfirst hpred hlow hhigh hr' hu
  obtain ⟨e, he⟩ : ∃ e, e = s.setEye l 0 ⟨true, true, none⟩ := ⟨_, rfl⟩
  rw [← he] at hu
  have hqueue : ∀ m, e.queue m = s.queue m := fun m => he ▸ s.queue_setEye l m 0 _
  have hlane : e.lane l = { s.lane l with eyes := (s.lane l).eyes.set 0 ⟨true, true, none⟩ } :=
    he ▸ s.lane_setEye_self l 0 _
  have hframe := fun m => s.lane_setEye_frame l m 0 ⟨true, true, none⟩
  rw [← he] at hframe
  have hpe : e.PoolSound := he ▸ hp.setEye l 0 _
  have hcand : e.candidate l .e0 = some r := by rwa [State.candidate, hqueue]
  obtain ⟨hre, hnext⟩ := State.candidate_some hcand
  have hentry : e.entryMatched l x r = r' := by
    rw [hr', State.entryMatched, State.eyeDeadline, hlane, he]
    rfl
  have hmod : e.modRecord l r.tag (e.entryMatched l x) = u := by
    rw [hpe.modRecord_eq_map hre hentry, hqueue, hu]
  have hmatched : e.matched l x r =
      (u.noticeOf r .confirmation).workIf l (e.isYoungest l r) := by rw [State.matched, hmod]
  have hkept : u.kept = s.kept := by
    rw [hu, he]
    rfl
  have hexec : exec (.edgeAccepted l 0) s = .next
      ((e.matched l x r).evalGuard.expireIfDue l (e.entryMatched l x r).tag) := by
    rw [exec_edgeAccepted_of_due hrun hopen hraw hx hd, ← he]
    refine congrArg Host.Outcome.next (State.entryLeading_of_matched hcand hpred ?_ ?_) <;>
      rw [hlane] <;> assumption
  obtain ⟨hrow, hahead⟩ := exec_ends_with_deadlinePass (s := (e.matched l x r).evalGuard) hrun
    hexec (by rw [hmatched, State.kept_evalGuard, State.kept_workIf, State.kept_noticeOf, hkept])
    (hpe.matched hre x) (State.mem_queue_matched hre x)
  have hclear : r'.clearDeadline = some (x + BitVec.ofNat 32 (2 * r.lnom + s.params.fe)) := by
    rw [hr']
  have htag : r'.tag = r.tag := by rw [hr']
  simp only [hentry, hmatched, hclear, htag, Option.mem_some_iff, forall_eq'] at hrow hahead
  have hlanes : ∀ m, (u.lane m).steady = (e.lane m).steady :=
    State.steady_lane (by rw [hu, State.steady_setQueue])
  obtain ⟨hprefix, halarms, hsteady⟩ :=
    u.noticeOf_workIf_frame r .confirmation l (e.isYoungest l r)
  refine ⟨fun v hv => ?_, fun hd hc => ⟨_, hahead hd hc, hprefix, halarms.trans ?_, fun m => ?_⟩⟩
  · have hstation : ∀ st, u.station st = s.station st := fun st => by
      rw [hu, he]
      rfl
    have hlaneOf : ∀ st, u.laneOf st = s.laneOf st := fun st => by
      rw [hu, he]
      rfl
    have hgrant : ∀ m, (u.lane m).grant = (s.lane m).grant := fun m => by
      obtain ⟨-, hg, -⟩ := hframe m
      rw [hu, State.grant_setQueue, hg]
    have hkeep : ∀ y : Station, y.restores r.batch .confirmation = false := fun y =>
      Station.restores_of_other (by decide)
    have hurun : u.resetPhase = .running := (congrArg Kept.resetPhase hkept).trans hrun
    have hnotice : u.noticeOf r .confirmation = v := by
      rcases hv with ⟨ho, rfl⟩ | ⟨st, ho, hcount, rfl⟩ | ⟨st, b, g, ho, hf, hlast, hb, hg, hback⟩
      · exact State.noticeOf_foreign ho
      · rw [← hstation] at hcount ⊢
        exact (State.noticeOf_eq hnext ho).trans (State.notice_of_counted (hkeep _) hcount)
      · rw [← hstation] at hf hlast hb hg
        rw [← hlaneOf, ← hgrant] at hback
        exact (State.noticeOf_eq hnext ho).trans
          (State.notice_of_completed hurun (hkeep _) hf hlast hb hg hback)
    have hvrun : v.resetPhase = .running :=
      hnotice ▸ (congrArg Kept.resetPhase (u.kept_noticeOf r _)).trans hurun
    rw [hnotice] at hrow hahead
    rw [← hqueue]
    refine ⟨fun hidle => ?_, fun a t ha hlast ht => ?_⟩
    · rw [hpe.workIf_of_idle hre hidle] at hrow hahead
      exact ⟨hrow, hahead⟩
    · rw [hpe.workIf_of_release hlast hvrun ha ht] at hrow hahead
      exact ⟨hrow, hahead⟩
  · rw [hu, he]
    rfl
  · obtain ⟨hstate, -, hfolder, hstacker⟩ := hframe m
    have hall := (hsteady m).trans (hlanes m)
    exact ⟨(congrArg LaneSteady.state hall).trans hstate,
      (congrArg LaneSteady.folder hall).trans hfolder,
      (congrArg LaneSteady.stacker hall).trans hstacker⟩

end Sys2Proof.Machine
end

section
/-!
PROOFS. Statement O45: the end of an entry window.
-/

namespace Sys2Proof.Machine

/-! ### The parts of the loss (R90, R91, R105 to R107) -/

/-- With E0 clear, or with no record on E0, no record takes DOUBLE. -/
theorem State.markMerged_of_none {s : State} {l : LaneNo} {c : LostCause}
    (h : c ≠ .merged ∨ s.recordOnE0 l = none) : s.markMerged l c = s := by
  unfold State.markMerged
  split
  · next y hon =>
    rcases h with h | h
    · exact absurd rfl h
    · cases h.symm.trans hon
  · rfl

/-- At MERGED the record on E0 takes DOUBLE where it has no cause (R107). -/
theorem State.markMerged_of_some {s : State} {l : LaneNo} {y : Record}
    (h : s.recordOnE0 l = some y) : s.markMerged l .merged =
      s.setQueue l ((s.queue l).map fun z =>
        if z.tag = y.tag then { z with cause := some (z.cause.getD .double) } else z) := by
  unfold State.markMerged
  rw [h]
  exact s.modRecord_giveCause l y.tag .double

theorem State.lossOccurrence_misfeed {s : State} {l : LaneNo} {r : Record} {st : StationNo}
    (h : r.origin = some st) : s.lossOccurrence l r .misfeed = s.occur (.misfeed st) 1 := by
  unfold State.lossOccurrence
  rw [h]
  rfl

/-- MISFEED is an occurrence of its station, and halts no lane (R106, R146). -/
theorem State.fixed_occur_misfeed (s : State) (st : StationNo) (code : Nat) :
    (s.occur (.misfeed st) code).fixed = s.fixed := by
  rw [State.occur_eq]
  change (s.latched (.misfeed st) code).fixed = s.fixed
  rw [State.latched_eq]
  rfl

/-- The row of a deadline that is due removes its record, and moves a plan change on (R90, R151). -/
theorem exec_deadlinePass_of_due {s : State} {l : LaneNo} {r : Record} {c : LostCause}
    {tag : BitVec 16} (hrun : s.resetPhase = .running) (h : s.PoolSound) (hr : r ∈ s.queue l)
    (ht : r.tag = tag.toNat) (hd : s.dueCause l r = some c) :
    exec (.deadlinePass tag) s = .next (s.loseRecord l r c).planMoved := by
  have hrow := exec_deadlinePass_of_mem hrun h hr
  rwa [ht, BitVec.ofNat_toNat, BitVec.setWidth_eq, ← ht, State.expireIfDue,
    h.expireFor_of_some hr hd, State.planTest_eq_planMoved] at hrow

/-- Settles O45: the outcome found due, then the parts of the removal one after another (R91, log
entry 14): record, notice, report, occurrence, working and zone, and last the tests of a plan
change. -/
theorem anEntryWindowEndsAsMisfeedOrMerged : Obligations.AnEntryWindowEndsAsMisfeedOrMerged := by
  unfold Obligations.AnEntryWindowEndsAsMisfeedOrMerged
  intro tag l r st x restores s u m v w hrun hp hr ht hd hnext ho hx hrestores hu hm hv hw
  obtain ⟨c, hc⟩ : ∃ c, c = if (s.eye l 0).accepted then LostCause.merged else .misfeed := ⟨_, rfl⟩
  have hdrop : s.dropRecord l r.tag = u := by
    rw [State.dropRecord_eq_filter hp hr, hu, ht]
  have hmark : u.markMerged l c = m := by
    rcases hm with ⟨hnone, rfl⟩ | ⟨hacc, y, hy, rfl⟩
    · refine State.markMerged_of_none (hnone.imp (fun hacc => ?_) State.recordOnE0_eq_none)
      rw [hc, hacc]
      decide
    · rw [hc, hacc]
      exact State.markMerged_of_some hy
  obtain ⟨q, rfl⟩ : ∃ q, m = s.setQueue l q := by
    rcases hm with ⟨-, rfl⟩ | ⟨-, y, -, rfl⟩
    · exact ⟨_, hu⟩
    · exact ⟨_, by rw [hu, State.setQueue_setQueue]⟩
  have hkeep : x.restores r.batch c.departure = restores := by
    rw [Bool.eq_iff_iff, Station.restores_iff, hrestores, hc]
    cases (s.eye l 0).accepted <;> simp [LostCause.departure]
  have hnotice : (s.setQueue l q).noticeOf r c.departure = v := by
    rw [State.noticeOf_eq hnext ho]
    rw [← s.grant_setQueue l _ q] at hv
    obtain rfl : x = (s.setQueue l q).station st := hx
    rcases hv with ⟨rfl, b, g, hb, hg, hback⟩ | ⟨rfl, hcount, rfl⟩ |
      ⟨rfl, hf, hlast, b, g, hb, hg, hback⟩
    · exact State.notice_of_resumed hrun hkeep hb hg hback
    · exact State.notice_of_counted hkeep hcount
    · exact State.notice_of_completed hrun hkeep hf hlast hb hg hback
  have hloss : (v.offer (r.lostReport l c)).lossOccurrence l r c = w := by
    rw [hw, hc]
    cases (s.eye l 0).accepted
    · exact State.lossOccurrence_misfeed ho
    · rfl
  have hdue : s.dueCause l r = some c := by
    rw [State.dueCause, if_pos (by rw [atOrPast_eq, hd]; rfl), State.expiryCause, hnext, hc]
  have hexec : exec (.deadlinePass tag) s = .next (w.work l).evalGuard.planMoved := by
    rw [exec_deadlinePass_of_due hrun hp hr ht hdue, State.loseRecord, hdrop, hmark, hnotice, hloss]
  have hphase : (w.work l).phase = s.phase := by
    have hv : v.fixed = s.fixed := by
      rw [← hnotice, State.fixed_noticeOf, State.fixed_of_steady (s.steady_setQueue l q)]
    have hw : w.fixed = s.fixed := by
      rw [hw]
      split
      · rw [State.fixed_offer, hv]
      · rw [State.fixed_occur_misfeed, State.fixed_offer, hv]
    exact (congrArg Steady.phase (w.steady_work l)).trans (congrArg Fixed.phase hw)
  have hkept : w.kept = s.kept := by
    rw [← hloss, State.kept_lossOccurrence, State.kept_offer, ← hnotice, State.kept_noticeOf,
      State.kept_setQueue]
  have hstill : s.phase = .noChange → exec (.deadlinePass tag) s = .next (w.work l).evalGuard :=
    fun h => by rw [hexec, State.planMoved, State.evalGuard_phase, hphase, h]
  refine ⟨fun hidle => ?_, fun a t ha hrow => ?_⟩
  · rw [State.work_of_unarmed hidle] at hexec hstill
    exact ⟨hexec, hstill⟩
  · rw [State.work_of_release ((congrArg Kept.resetPhase hkept).trans hrun) ha hrow] at hexec hstill
    exact ⟨hexec, hstill⟩

end Sys2Proof.Machine
end

section
/-!
PROOFS. Statement O50: the ends of a fold strobe and of the gap after it.
-/

namespace Sys2Proof.Machine

/-! ### A fold interface, phase by phase (R122 to R124) -/

section
variable {f : Folder} {c : FoldCommand}

theorem Folder.issue_of_empty (h : f.queue = []) : f.issue =
    { queue := [], phase := .idle, timer := none, strobe := false, code := 0 } := by
  unfold Folder.issue
  rw [h]

theorem Folder.issue_of_head {rest : List FoldCommand} (h : f.queue = c :: rest) : f.issue =
    { queue := c :: rest, phase := .strobe, timer := some 40, strobe := true, code := c.code } := by
  unfold Folder.issue
  rw [h]
  rfl

theorem Folder.strobeOver_of_strobe (h : f.phase = .strobe) : f.strobeOver =
    { queue := f.queue.tail, phase := .gap, timer := some 10, strobe := false, code := 0 } := by
  unfold Folder.strobeOver
  rw [h]
  rfl

theorem Folder.gapOver_of_gap (h : f.phase = .gap) : f.gapOver = f.issue := by
  unfold Folder.gapOver
  rw [h]

/-- A command that arrives in STROBE or GAP waits (R123). -/
theorem Folder.accept_of_busy (h : f.phase ≠ .idle) :
    f.accept c = { f with queue := f.queue ++ [c] } := by
  unfold Folder.accept
  split
  · next hp => exact absurd hp h
  · rfl

/-- A command that finds the interface in IDLE, and so with an empty queue, is strobed at once
(R123). -/
theorem Folder.accept_of_idle (h : f.phase = .idle) (hq : f.queue = []) : f.accept c =
    { queue := [c], phase := .strobe, timer := some 40, strobe := true, code := c.code } := by
  unfold Folder.accept
  rw [h, hq]
  rfl

end

/-! ### The rows (R124) -/

theorem State.modFolder_eq (s : State) (l : LaneNo) (f : Folder → Folder) :
    s.modFolder l f = s.setLane l { s.lane l with folder := f (s.lane l).folder } := rfl

theorem exec_foldStrobeEnd {s : State} (hr : s.resetPhase = .running) (l : LaneNo) :
    exec (.foldStrobeEnd l) s = .next (s.modFolder l Folder.strobeOver) :=
  congrArg Host.Outcome.next (if_pos (decide_eq_true hr))

theorem exec_foldGapEnd {s : State} (hr : s.resetPhase = .running) (l : LaneNo) :
    exec (.foldGapEnd l) s = .next (s.modFolder l Folder.gapOver) :=
  congrArg Host.Outcome.next (if_pos (decide_eq_true hr))

/-- Settles O50: each row by the phase of the interface, and the gap by what its queue holds. -/
theorem foldStrobesAndGapsEnd : Obligations.FoldStrobesAndGapsEnd := by
  unfold Obligations.FoldStrobesAndGapsEnd
  rintro l f s hrun rfl
  refine ⟨fun hstrobe => ?_, fun hgap => ⟨fun hempty => ?_, fun c rest hqueue => ?_⟩⟩
  · rw [exec_foldStrobeEnd hrun, State.modFolder_eq, Folder.strobeOver_of_strobe hstrobe]
  · rw [exec_foldGapEnd hrun, State.modFolder_eq, Folder.gapOver_of_gap hgap,
      Folder.issue_of_empty hempty]
  · rw [exec_foldGapEnd hrun, State.modFolder_eq, Folder.gapOver_of_gap hgap,
      Folder.issue_of_head hqueue]

end Sys2Proof.Machine
end

section
/-!
PROOFS. Statement O40: leading edges at E1 to E3 that match or that no record expects, and trailing
edges that are ignored.
-/

namespace Sys2Proof.Machine

/-! ### The deadline a match has set (R89) -/

section
variable {s : State} {l : LaneNo} {r : Record}

theorem State.nextEyeCause_of_ahead (h : (s.travel - r.deadline).msb = true) :
    s.nextEyeCause l r = none := by
  rw [State.nextEyeCause, atOrPast_eq, h]
  rfl

theorem State.nextEyeCause_of_passed (h : (s.travel - r.deadline).msb = false) :
    s.nextEyeCause l r = some (s.expiryCause l r) := by
  rw [State.nextEyeCause, atOrPast_eq, h]
  rfl

/-- A next-eye deadline that has passed comes before an entry-clear deadline. -/
theorem State.dueCause_of_passed (h : (s.travel - r.deadline).msb = false) :
    s.dueCause l r = some (s.expiryCause l r) := by
  rw [State.dueCause, atOrPast_eq, h]
  rfl

/-- A row that ends with the test of the next-eye deadline it has set ends as the deadline row of
that record where the deadline has passed, and else ends there, whatever entry-clear deadline the
record has. -/
theorem exec_ends_with_nextEye {i : Instr} {u : State} (hrun : u.resetPhase = .running)
    (hexec : exec i u = .next (s.expireIfSetPast l r.tag)) (hkept : s.kept = u.kept)
    (h : s.PoolSound) (hr : r ∈ s.queue l) :
    ((u.travel - r.deadline).msb = false →
        exec i u = exec (.deadlinePass (BitVec.ofNat 16 r.tag)) s) ∧
      ((u.travel - r.deadline).msb = true → exec i u = .next s) := by
  have htravel : s.travel = u.travel := congrArg Kept.travel hkept
  rw [← htravel, hexec, State.expireIfSetPast]
  refine ⟨fun hpast => ?_, fun hahead => ?_⟩
  · rw [exec_deadlinePass_of_mem ((congrArg Kept.resetPhase hkept).trans hrun) h hr,
      State.expireIfDue, h.expireFor_of_some hr (State.nextEyeCause_of_passed hpast),
      h.expireFor_of_some hr (State.dueCause_of_passed hpast)]
  · rw [h.expireFor_of_none hr (State.nextEyeCause_of_ahead hahead)]

end

/-! ### Leading edges past E0 (R113, R114) -/

/-- A record with this next eye waits for this eye, one past E0. -/
def NextEye.Awaits (eye : NextEye) (k : EyeNo) : Prop :=
  (k = 1 ∧ eye = .e1) ∨ (k = 2 ∧ eye = .e2) ∨ (k = 3 ∧ eye = .e3)

/-- The match of a record at an eye past E0 (R115, R116, R118). -/
def State.matchAt (s : State) (l : LaneNo) (k : EyeNo) (x : Pos) (r : Record) : State :=
  match k with
  | 1 => s.matchE1 l r
  | 2 => s.matchE2 l r
  | _ => s.matchE3 l r x

section
variable {s : State} {l : LaneNo} {k : EyeNo} {eye : NextEye} {x le0 : Pos} {r : Record}

theorem State.takeEdge_leading (h : eye.Awaits k) :
    s.takeEdge l k true x = s.eyeLeading l k eye x (s.matchAt l k x) := by
  rcases h with ⟨rfl, rfl⟩ | ⟨rfl, rfl⟩ | ⟨rfl, rfl⟩ <;> rfl

theorem State.inEyeWindow_iff (h : r.le0 = some le0) : s.inEyeWindow l eye r x = true ↔
    -((s.lane l).geometry.window eye : Int) ≤
        (x - (le0 + BitVec.ofNat 32 ((s.lane l).geometry.pos eye))).toInt ∧
      (x - (le0 + BitVec.ofNat 32 ((s.lane l).geometry.pos eye))).toInt ≤
        ((s.lane l).geometry.window eye : Int) := by
  rw [State.inEyeWindow, h]
  exact decide_eq_true_iff

/-- With no record that waits for the eye, or the edge outside the window of the first, the edge is a
stray. -/
theorem State.takeEdge_of_stray (hk : eye.Awaits k)
    (h : ∀ r, s.candidate l eye = some r → ¬ s.inEyeWindow l eye r x = true) :
    s.takeEdge l k true x = s.occur (.stray l) (k.val + 1) := by
  rw [State.takeEdge_leading hk, State.eyeLeading]
  split
  · next r hc => exact if_neg (h r hc)
  · rfl

theorem State.takeEdge_of_match (hk : eye.Awaits k) (hc : s.candidate l eye = some r)
    (hin : s.inEyeWindow l eye r x = true) : s.takeEdge l k true x = s.matchAt l k x r := by
  rw [State.takeEdge_leading hk, State.eyeLeading, hc]
  exact if_pos hin

end

/-! ### Trailing edges past E0 (R112, R119) -/

theorem State.takeEdge_trailing_ignored {s : State} {l : LaneNo} {k : EyeNo} (x : Pos)
    (h : k = 1 ∨ k = 2 ∨ (k = 3 ∧ ∀ y ∈ s.queue l, y.nextEye ≠ .clear)) :
    s.takeEdge l k false x = s := by
  rcases h with rfl | rfl | ⟨rfl, hnone⟩
  · rfl
  · rfl
  · have hc : s.candidate l .clear = none :=
      List.find?_eq_none.2 fun y hy => by simpa using hnone y hy
    change s.stackTrailing l = s
    rw [State.stackTrailing, hc]

/-- Settles O40: trailing edges that are ignored, edges that match no record, and the two matches that
make no fold command, each with the test of the deadline it has set. -/
theorem edgesDownstreamMatchOrStray : Obligations.EdgesDownstreamMatchOrStray := by
  unfold Obligations.EdgesDownstreamMatchOrStray
  intro l k x s u hrun hopen hx hd hu
  have hexec : ∀ covered, (s.eye l k).raw = covered →
      exec (.edgeAccepted l k) s = .next (u.takeEdge l k covered x) := fun covered hraw => by
    rw [hu, hraw]
    exact exec_edgeAccepted_of_due hrun hopen hraw hx hd
  have hqueue : ∀ m, u.queue m = s.queue m := fun m => hu ▸ s.queue_setEye l m k _
  have hgeometry : (u.lane l).geometry = (s.lane l).geometry := by
    rw [hu, State.lane_setEye_self]
  have hparams : u.params = s.params := by
    rw [hu]
    rfl
  refine ⟨fun hraw hk => ?_, fun hraw eye pos w hk => ?_⟩
  · rw [hexec false hraw, State.takeEdge_trailing_ignored x (by rwa [hqueue])]
  obtain ⟨hk, hpos, hw⟩ : eye.Awaits k ∧ (s.lane l).geometry.pos eye = pos ∧
      (s.lane l).geometry.window eye = w := by
    rcases hk with ⟨rfl, rfl, rfl, rfl⟩ | ⟨rfl, rfl, rfl, rfl⟩ | ⟨rfl, rfl, rfl, rfl⟩
    exacts [⟨.inl ⟨rfl, rfl⟩, rfl, rfl⟩, ⟨.inr (.inl ⟨rfl, rfl⟩), rfl, rfl⟩,
      ⟨.inr (.inr ⟨rfl, rfl⟩), rfl, rfl⟩]
  refine ⟨fun hnone => ?_, fun r le0 hfirst hle0 => ?_⟩
  · rw [hexec true hraw, State.takeEdge_of_stray hk fun r hc => ?_]
    obtain ⟨hr, he⟩ := State.candidate_some hc
    exact absurd he (hnone r (by rwa [hqueue] at hr))
  have hcand : u.candidate l eye = some r := by rwa [State.candidate, hqueue]
  have hwindow := State.inEyeWindow_iff (s := u) (l := l) (eye := eye) (x := x) hle0
  rw [hgeometry, hpos, hw] at hwindow
  refine ⟨fun hout => ?_, fun hlow hhigh hp r' v hr' hv => ?_⟩
  · rw [hexec true hraw, State.takeEdge_of_stray hk fun y hc hin => ?_]
    obtain rfl : r = y := Option.some.inj (hcand.symm.trans hc)
    obtain ⟨hlow, hhigh⟩ := hwindow.1 hin
    omega
  obtain ⟨f, hmatch, hf, hlabel⟩ : ∃ f, u.matchAt l k x r =
      (u.modRecord l r.tag f).expireIfSetPast l r.tag ∧ f r = r' ∧ r'.label = r.label := by
    rcases hr' with ⟨rfl, rfl⟩ | ⟨rfl, rfl⟩
    · refine ⟨_, rfl, ?_, rfl⟩
      rw [State.eyeDeadline, Record.entry, hle0, hgeometry, hparams]
      rfl
    · refine ⟨_, rfl, ?_, rfl⟩
      rw [State.stackDeadline, hgeometry, hparams]
      rfl
  have hpu : u.PoolSound := hu ▸ hp.setEye l k _
  obtain ⟨hr, -⟩ := State.candidate_some hcand
  have hmod : u.modRecord l r.tag f = v := by
    rw [hpu.modRecord_eq_map hr hf, hqueue, hv]
  have hpv : v.PoolSound := hmod ▸ hpu.modRecord hr (by rw [hf, hlabel])
  have hmem : r' ∈ v.queue l := by
    rw [← hmod, ← hf]
    exact State.mem_queue_modRecord hr f
  have hkept : v.kept = s.kept := by
    rw [← hmod, hu]
    rfl
  have htag : r'.tag = r.tag := congrArg Prod.fst hlabel
  rw [← htag]
  refine exec_ends_with_nextEye hrun ?_ hkept hpv hmem
  rw [hexec true hraw, State.takeEdge_of_match hk hcand (hwindow.2 ⟨hlow, hhigh⟩), hmatch, hmod, htag]

end Sys2Proof.Machine
end

section
/-!
PROOFS. Statement O41: a match at E2 and its fold command.
-/

namespace Sys2Proof.Machine

/-! ### The record and its command (R116) -/

section
variable {s : State} {l : LaneNo} {r : Record} {le0 : Pos}

/-- The record as the match leaves it, before its command arrives. -/
def State.foldMatched (s : State) (l : LaneNo) (r : Record) : Record :=
  { r.foldTaken with nextEye := .e3, deadline := s.eyeDeadline l .e3 r.entry }

theorem State.matchE2_eq : s.matchE2 l r =
    (((s.modRecord l r.tag (s.foldMatched l)).foldArrival l
      ⟨r.tag, r.foldTaken.commandCode⟩).evalGuard).expireIfSetPast l r.tag := rfl

theorem Record.cause_foldTaken (r : Record) : r.foldTaken.cause =
    if r.te0 = none ∧ r.cause = none then some .long else r.cause := by
  unfold Record.foldTaken
  cases hte : r.te0 with
  | none => cases hc : r.cause <;> simp [Record.giveCause_eq, hc]
  | some te => simp

theorem Record.commandCode_eq (r : Record) :
    r.commandCode = if r.cause = none then r.fold else 0 := by
  unfold Record.commandCode
  split
  · next hc => rw [if_pos hc]
  · next c hc => rw [if_neg (by rw [hc]; exact Option.some_ne_none c)]

theorem State.foldMatched_eq (hle0 : r.le0 = some le0) : s.foldMatched l r = { r with
    cause := if r.te0 = none ∧ r.cause = none then some .long else r.cause,
    folded := true, nextEye := .e3,
    deadline := le0 + BitVec.ofNat 32
      ((s.lane l).geometry.pos3 + (s.lane l).geometry.w3 + s.params.fe) } := by
  rw [State.foldMatched, Record.foldTaken_eq, Record.cause_foldTaken, State.eyeDeadline, Record.entry,
    hle0]
  rfl

theorem State.label_foldMatched (s : State) (l : LaneNo) (r : Record) :
    (s.foldMatched l r).label = r.label := by
  rw [State.foldMatched, Record.foldTaken_eq]
  rfl

theorem State.tag_foldMatched (s : State) (l : LaneNo) (r : Record) :
    (s.foldMatched l r).tag = r.tag :=
  congrArg Prod.fst (s.label_foldMatched l r)

/-! ### The arrival of the command (R123, R125) -/

theorem State.modRecord_modRecord (s : State) (l : LaneNo) {tag : Nat} {f : Record → Record}
    (hf : ∀ y, (f y).tag = y.tag) (g : Record → Record) :
    (s.modRecord l tag f).modRecord l tag g = s.modRecord l tag fun y => g (f y) := by
  rw [State.modRecord, State.queue_modRecord, if_pos rfl, List.map_map]
  refine (State.setQueue_setQueue s l _ _).trans
    (congrArg (s.setQueue l) (List.map_congr_left fun y _ => ?_))
  by_cases ht : y.tag = tag
  · simp [ht, hf]
  · simp [ht]

theorem State.modFolder_setQueue (s : State) (l : LaneNo) (q : List Record) (f : Folder → Folder) :
    (s.setQueue l q).modFolder l f =
      s.setLane l { s.lane l with folder := f (s.lane l).folder, queue := q } := by
  rw [State.modFolder, State.setQueue, State.modLane_modLane]
  rfl

theorem State.foldArrival_of_room {c : FoldCommand} (h : (s.lane l).folder.queue.length < 2) :
    s.foldArrival l c = s.modFolder l fun f => f.accept c := if_pos h

theorem State.foldArrival_of_full {c : FoldCommand} (h : 2 ≤ (s.lane l).folder.queue.length) :
    s.foldArrival l c = (s.modRecord l c.tag (Record.giveCause .foldMissed)).occur (.jam l) 5 :=
  if_neg (Nat.not_lt.2 h)

/-- A command that arrives changes no record but in its cause. -/
theorem State.mem_queue_foldArrival (hr : r ∈ s.queue l) (c : FoldCommand) :
    ∃ y ∈ (s.foldArrival l c).queue l, y.tag = r.tag ∧ y.deadline = r.deadline := by
  have hcores := State.cores_of_poolView (State.poolView_foldArrival s l c) l
  obtain ⟨y, hy, hcore⟩ := List.mem_map.1 (hcores ▸ List.mem_map_of_mem (f := Record.core) hr)
  exact ⟨y, hy, (congrArg Record.tag hcore :), (congrArg Record.deadline hcore :)⟩

end

/-- Settles O41: the record matched, its command taken by the interface or lost with a JAM, and the
test of the deadline the match has set. -/
theorem aMatchAtE2MakesAFoldCommand : Obligations.AMatchAtE2MakesAFoldCommand := by
  unfold Obligations.AMatchAtE2MakesAFoldCommand
  intro l x le0 r r' code s u hrun hp hopen hraw hx hd hfirst hle0 hlow hhigh hr' hcode hu v hv
  have hqueue : ∀ m, u.queue m = s.queue m := fun m => hu ▸ s.queue_setEye l m 2 _
  have hlane : u.lane l = { s.lane l with eyes := (s.lane l).eyes.set 2 ⟨true, true, none⟩ } :=
    hu ▸ s.lane_setEye_self l 2 _
  have hcand : u.candidate l .e2 = some r := by rwa [State.candidate, hqueue]
  obtain ⟨hr, -⟩ := State.candidate_some hcand
  have hpu : u.PoolSound := hu ▸ hp.setEye l 2 _
  have hmatched : u.foldMatched l r = r' := by
    rw [State.foldMatched_eq hle0, hlane, hr', hu]
    rfl
  have hcommand : r.foldTaken.commandCode = code := by
    rw [Record.commandCode_eq, Record.foldTaken_eq, Record.cause_foldTaken, hcode, hr']
  have hfolder : ((u.modRecord l r.tag (u.foldMatched l)).lane l).folder = (s.lane l).folder := by
    rw [State.modRecord, State.lane_setQueue_self, hlane]
  have harrived : (u.modRecord l r.tag (u.foldMatched l)).foldArrival l
      ⟨r.tag, r.foldTaken.commandCode⟩ = v := by
    rw [hcommand]
    rcases hv with ⟨hroom, f, hbusy, hidle, rfl⟩ | ⟨hfull, rfl⟩
    · have haccept : (s.lane l).folder.accept ⟨r.tag, code⟩ = f := by
        by_cases hphase : (s.lane l).folder.phase = .idle
        · obtain ⟨hempty, rfl⟩ := hidle hphase
          exact Folder.accept_of_idle hphase hempty
        · rw [hbusy hphase, Folder.accept_of_busy hphase]
      rw [State.foldArrival_of_room (by rwa [hfolder]), hpu.modRecord_eq_map hr hmatched,
        State.modFolder_setQueue, hqueue, hlane, haccept]
    · rw [State.foldArrival_of_full (by rwa [hfolder]),
        State.modRecord_modRecord u l (u.tag_foldMatched l),
        hpu.modRecord_eq_map hr (by rw [hmatched, Record.giveCause_eq]), hqueue]
  have hpool : v.PoolSound := by
    rw [← harrived]
    exact (State.Calm.of_same (State.poolView_foldArrival _ _ _)
      (State.eyeBanks_foldArrival _ _ _)).pool (hpu.modRecord hr (u.label_foldMatched l r))
  obtain ⟨y, hy, htag, hdeadline⟩ := State.mem_queue_foldArrival
    (State.mem_queue_modRecord hr (u.foldMatched l)) ⟨r.tag, r.foldTaken.commandCode⟩
  rw [harrived] at hy
  rw [State.tag_foldMatched] at htag
  rw [hmatched] at hdeadline
  rw [← hdeadline, ← htag]
  refine exec_ends_with_nextEye (s := v.evalGuard) hrun ?_ ?_ hpool hy
  · rw [exec_edgeAccepted_of_due hrun hopen hraw hx hd, ← hu,
      State.takeEdge_of_match (.inr (.inl ⟨rfl, rfl⟩)) hcand ((State.inEyeWindow_iff hle0).2 ?_),
      State.matchAt, State.matchE2_eq, harrived, htag]
    rw [hlane]
    exact ⟨hlow, hhigh⟩
  · rw [State.kept_evalGuard, ← harrived, State.kept_foldArrival, hu]
    rfl

end Sys2Proof.Machine
end

section
/-!
PROOFS. Statement O42: a trailing edge at E3 that retires a record.
-/

namespace Sys2Proof.Machine

/-! ### The piece at the stacking unit (R119, R130 to R133) -/

section
variable {s : State} {l : LaneNo} {r : Record} {o : DoneOutcome} {z' : Stacker}

/-- Where no plan change closes its lane, a stack that starts is a stack a piece has joined. -/
theorem State.startPile_of_open (h : s.planCloses l = false) (piece : PocketPiece) :
    s.startPile l piece = s.putPile l ⟨piece.batch, piece.cls, 1, piece.target⟩ :=
  if_neg fun hc => Bool.false_ne_true (h.symm.trans hc.2)

/-- A stack that a piece has joined stays BUILDING below its target, and discharges at it (R131). -/
theorem State.putPile_eq_ite (s : State) (l : LaneNo) (p : Pile) : s.putPile l p =
    s.modStacker l fun _ =>
      if p.count < p.target then { (s.lane l).stacker with state := .building p }
      else (s.lane l).stacker.dischargePile p .full none s.estop s.params.ts := by
  rw [State.putPile_eq, ← ite_not]
  simp only [Nat.not_lt]
  rfl

theorem State.beginDischarge_of_building {p : Pile} (h : (s.lane l).stacker.state = .building p)
    (reason : StackReason) (pocket : Option PocketPiece) : s.beginDischarge l reason pocket =
      s.modStacker l fun x => x.dischargePile p reason pocket s.estop s.params.ts := by
  unfold State.beginDischarge
  rw [h]

/-- After the piece is handed over: one without a place is an occurrence of STACKER (R132). -/
def State.handedOver (s : State) (l : LaneNo) (o : DoneOutcome) : State :=
  if o = .unstacked then s.occur (.stacker l) 1 else s

/-- A good piece where no plan change closes the lane (R131, R132). -/
theorem State.stackGood_of_stacks (hopen : s.planCloses l = false) (hgood : r.cause = none)
    (h : s.Stacks (s.lane l).stacker r o z') : s.stackGood l r.batch r.cls =
      (o, (s.modStacker l fun _ => z').handedOver l o) := by
  unfold State.Stacks at h
  unfold State.stackGood
  rw [hgood] at h
  rcases hstate : (s.lane l).stacker.state with _ | p | ⟨out, _ | q⟩ <;> rw [hstate] at h <;>
    obtain ⟨rfl, rfl⟩ := h
  case empty =>
    refine congrArg (Prod.mk DoneOutcome.stacked) ?_
    rw [State.startPile_of_open hopen, State.putPile_eq_ite]
    rfl
  case building =>
    by_cases hb : p.batch = r.batch
    · rw [if_neg (not_not.2 hb)]
      exact (if_pos hb).trans (congrArg (Prod.mk DoneOutcome.stacked) (s.putPile_eq_ite l _))
    · rw [if_pos hb]
      exact (if_neg hb).trans
        (congrArg (Prod.mk DoneOutcome.stacked) (State.beginDischarge_of_building hstate _ _))
  case discharging.none => rfl
  case discharging.some =>
    exact congrArg (fun t : State => (DoneOutcome.unstacked, t.occur (.stacker l) 1))
      (s.setLane_lane l).symm

/-- The unit takes the piece as `State.Stacks` has it, and a piece it has no place for is an occurrence
of STACKER. -/
theorem State.receivePiece_of_stacks (hopen : r.cause = none → s.planCloses l = false)
    (h : s.Stacks (s.lane l).stacker r o z') : s.receivePiece l r =
      (o, (s.modStacker l fun _ => z').handedOver l o) := by
  unfold State.receivePiece
  cases hcause : r.cause with
  | some c =>
    unfold State.Stacks at h
    rw [hcause] at h
    obtain ⟨rfl, rfl⟩ := h
    rfl
  | none => exact State.stackGood_of_stacks (hopen hcause) hcause h

end

/-! ### An occurrence that halts one lane (R144, R146) -/

theorem State.lane_occur {src : Source} {l : LaneNo} (h : ∀ t : State, t.haltFor src = t.haltLane l)
    (s : State) (code : Nat) (m : LaneNo) : (s.occur src code).lane m =
      if m = l ∧ (s.lane m).state = .opened then
        { s.lane m with state := .halted, grant := none, releasePoint := none }
      else s.lane m := by
  rw [State.occur_eq, State.lane_applyAlarmRule, h, State.haltLane, State.lane_leaveOpen,
    State.lane_latched]

/-! ### What the hand-over leaves as it is -/

theorem State.lane_handedOver (s : State) (l m : LaneNo) (o : DoneOutcome) :
    (s.handedOver l o).lane m =
      if o = .unstacked ∧ m = l ∧ (s.lane m).state = .opened then
        { s.lane m with state := .halted, grant := none, releasePoint := none }
      else s.lane m := by
  unfold State.handedOver
  split
  · next ho =>
    rw [State.lane_occur fun _ => rfl]
    simp only [ho, true_and]
  · next ho => rw [if_neg fun ⟨h, _⟩ => ho h]

/-- The hand-over writes neither queue, fold interface nor stacking unit, and halts no DRAINING lane. -/
theorem State.lane_handedOver_frame (s : State) (l : LaneNo) (o : DoneOutcome) :
    ((s.handedOver l o).lane l).queue = (s.lane l).queue ∧
      ((s.handedOver l o).lane l).folder = (s.lane l).folder ∧
      ((s.handedOver l o).lane l).stacker = (s.lane l).stacker ∧
      ((s.lane l).state = .draining → ((s.handedOver l o).lane l).state = .draining) := by
  rw [State.lane_handedOver]
  split
  · next h =>
    obtain ⟨-, -, hopen⟩ := h
    exact ⟨rfl, rfl, rfl, fun hd => LaneState.noConfusion (hd.symm.trans hopen)⟩
  · exact ⟨rfl, rfl, rfl, id⟩

theorem State.handedOver_plan (s : State) (l : LaneNo) (o : DoneOutcome) :
    (s.handedOver l o).phase = s.phase ∧ (s.handedOver l o).planNow = s.planNow := by
  unfold State.handedOver
  split
  · obtain ⟨lanes, stations, hhalt⟩ := (s.latched (.stacker l) 1).frame_leaveOpen l .halted
    rw [State.occur_eq]
    change ((s.latched (.stacker l) 1).leaveOpen l .halted).phase = _ ∧
      ((s.latched (.stacker l) 1).leaveOpen l .halted).planNow = _
    rw [hhalt, State.latched_eq]
    exact ⟨rfl, rfl⟩
  · exact ⟨rfl, rfl⟩

theorem State.kept_handedOver (s : State) (l : LaneNo) (o : DoneOutcome) :
    (s.handedOver l o).kept = s.kept := by
  unfold State.handedOver
  split
  · exact s.kept_occur _ _
  · rfl

theorem State.lane_offer (s : State) (x : Report) (m : LaneNo) : (s.offer x).lane m = s.lane m := by
  rw [State.offer_eq]
  rfl

/-- A lane that the occurrence has halted has no ARMED station to work for (R146). -/
theorem State.armedStation_handedOver (s : State) (l : LaneNo) (o : DoneOutcome) :
    (s.handedOver l o).armedStation l = if o = .unstacked then none else s.armedStation l := by
  split
  · next ho =>
    refine State.armedStation_of_shut ?_
    rw [State.lane_handedOver]
    split
    · exact LaneState.noConfusion
    · next h => exact fun hopen => h ⟨ho, rfl, hopen⟩
  · next ho => rw [State.handedOver, if_neg ho]

/-! ### A plan change that waits (R151, R152) -/

/-- A removal finds a plan change with something left to wait for, or none at all. -/
def State.PlanWaits (s : State) : Prop :=
  s.phase = .noChange ∨ (s.phase = .track ∧ s.queueLeft) ∨
    (s.phase = .stack ∧ (s.queueLeft ∨ ∃ m : LaneNo, (s.lane m).state = .draining ∧
      (s.lane m).stacker.state.isDischarging = true))

theorem State.planTest_of_waits {s : State} (h : s.PlanWaits) : s.planTest = s := by
  rw [State.planTest_eq_planMoved, State.planMoved]
  rcases h with hphase | ⟨hphase, hleft⟩ | ⟨hphase, hleft⟩ <;> rw [hphase]
  · exact if_pos hleft
  · exact if_pos hleft

/-- No plan change waits for the removal of a record alone: there is none, or it waits for another
record or, where this record goes to the reject tally, for a discharge. -/
def State.PlanWaitsBeyond (s : State) (r : Record) : Prop :=
  s.phase = .noChange ∨
    (s.phase = .track ∧ ∃ m, (s.lane m).state = .draining ∧ ∃ y ∈ s.queue m, y.tag ≠ r.tag) ∨
    (s.phase = .stack ∧ r.cause ≠ none ∧ ∃ m, (s.lane m).state = .draining ∧
      ((∃ y ∈ s.queue m, y.tag ≠ r.tag) ∨ (s.lane m).stacker.state.isDischarging = true))

theorem State.PlanWaitsBeyond.planWaits {s t : State} {r : Record} (h : s.PlanWaitsBeyond r)
    (hphase : t.phase = s.phase)
    (hstate : ∀ m, (s.lane m).state = .draining → (t.lane m).state = .draining)
    (hqueue : ∀ m, ∀ y ∈ s.queue m, y.tag ≠ r.tag → y ∈ t.queue m)
    (hstacker : r.cause ≠ none → ∀ m, (t.lane m).stacker.state = (s.lane m).stacker.state) :
    t.PlanWaits := by
  have hleft : ∀ m, (s.lane m).state = .draining → (∃ y ∈ s.queue m, y.tag ≠ r.tag) →
      t.queueLeft := fun m hm ⟨y, hy, ht⟩ =>
    ⟨m, hstate m hm, List.ne_nil_of_mem (hqueue m y hy ht)⟩
  unfold State.PlanWaits
  rw [hphase]
  rcases h with h | ⟨h, m, hm, hy⟩ | ⟨h, hc, m, hm, hy | hdis⟩
  · exact .inl h
  · exact .inr (.inl ⟨h, hleft m hm hy⟩)
  · exact .inr (.inr ⟨h, .inl (hleft m hm hy)⟩)
  · exact .inr (.inr ⟨h, .inr ⟨m, hstate m hm, (hstacker hc m).symm ▸ hdis⟩⟩)

/-! ### The retirement (R91, R119, R120) -/

section
variable {s : State} {l : LaneNo} {r : Record} {o : DoneOutcome} {z' : Stacker}

/-- A record retired, up to its SHEET_DONE: the queue without it, and the unit with its piece. -/
def State.retired (s : State) (l : LaneNo) (r : Record) (o : DoneOutcome) (z' : Stacker) : State :=
  (((s.setQueue l ((s.queue l).filter fun y => decide (y.tag ≠ r.tag))).modStacker l
    fun _ => z').handedOver l o).offer (r.doneReport l o)

theorem State.retire_eq (h : s.PoolSound) (hr : r ∈ s.queue l)
    (hopen : r.cause = none → s.phase ≠ .stack) (hz : s.Stacks (s.lane l).stacker r o z') :
    s.retire l r = (((s.retired l r o z').work l).evalGuard).planTest := by
  have hpiece : (s.dropRecord l r.tag).receivePiece l r =
      (o, ((s.dropRecord l r.tag).modStacker l fun _ => z').handedOver l o) := by
    refine State.receivePiece_of_stacks (fun hgood => ?_) ?_
    · rw [State.planCloses, decide_eq_false (by exact hopen hgood), Bool.false_and]
    · rw [State.dropRecord, State.lane_setQueue_self]
      exact hz
  rw [State.retire, hpiece, State.dropRecord_eq_filter h hr]
  rfl

theorem State.lane_retired_ne {m : LaneNo} (hm : m ≠ l) :
    (s.retired l r o z').lane m = s.lane m := by
  rw [State.retired, State.lane_offer, State.lane_handedOver, if_neg fun ⟨_, h, _⟩ => hm h,
    State.lane_modStacker, if_neg hm, State.lane_setQueue_ne s hm]

theorem State.lane_retired_self (s : State) (l : LaneNo) (r : Record) (o : DoneOutcome)
    (z' : Stacker) :
    (s.retired l r o z').queue l = (s.queue l).filter (fun y => decide (y.tag ≠ r.tag)) ∧
      ((s.retired l r o z').lane l).folder = (s.lane l).folder ∧
      ((s.retired l r o z').lane l).stacker = z' ∧
      ((s.lane l).state = .draining → ((s.retired l r o z').lane l).state = .draining) := by
  obtain ⟨q, hq⟩ : ∃ q, q = (s.queue l).filter fun y => decide (y.tag ≠ r.tag) := ⟨_, rfl⟩
  have hlane : ((s.setQueue l q).modStacker l fun _ => z').lane l =
      { s.lane l with queue := q, stacker := z' } := by
    rw [State.lane_modStacker, if_pos rfl, State.lane_setQueue_self]
  have hframe := ((s.setQueue l q).modStacker l fun _ => z').lane_handedOver_frame l o
  rw [hlane] at hframe
  rw [State.queue, State.retired, State.lane_offer, ← hq]
  exact hframe

theorem State.plan_retired (s : State) (l : LaneNo) (r : Record) (o : DoneOutcome) (z' : Stacker) :
    (s.retired l r o z').phase = s.phase ∧ (s.retired l r o z').planNow = s.planNow := by
  rw [State.retired, State.offer_eq]
  exact State.handedOver_plan _ l o

theorem State.kept_retired (s : State) (l : LaneNo) (r : Record) (o : DoneOutcome) (z' : Stacker) :
    (s.retired l r o z').kept = s.kept := by
  rw [State.retired, State.kept_offer, State.kept_handedOver]
  rfl

/-- An UNSTACKED piece leaves its lane without an ARMED station. -/
theorem State.armedStation_retired (s : State) (l : LaneNo) (r : Record) (o : DoneOutcome)
    (z' : Stacker) : (s.retired l r o z').armedStation l =
      if o = .unstacked then none else s.armedStation l := by
  obtain ⟨q, hq⟩ : ∃ q, q = (s.queue l).filter fun y => decide (y.tag ≠ r.tag) := ⟨_, rfl⟩
  have harmed : ((s.setQueue l q).modStacker l fun _ => z').armedStation l = s.armedStation l := by
    rw [← s.armedStation_setQueue l q]
    refine State.armedStation_congr ?_ ?_ rfl <;> rw [State.lane_modStacker, if_pos rfl]
  rw [State.retired, State.offer_eq, ← harmed, ← hq]
  exact State.armedStation_handedOver _ l o

/-- A rejected piece, the only kind a DRAINING lane retires in phase STACK, leaves its unit in its
state (R130). -/
theorem State.Stacks.state_of_rejected {z : Stacker} (h : s.Stacks z r o z') (hc : r.cause ≠ none) :
    z'.state = z.state := by
  obtain ⟨c, hc⟩ := Option.ne_none_iff_exists'.1 hc
  unfold State.Stacks at h
  rw [hc] at h
  obtain ⟨-, rfl⟩ := h
  rfl

/-- What a plan change waits for is left by the retirement of another record. -/
theorem State.retired_keeps (hz : s.Stacks (s.lane l).stacker r o z') (m : LaneNo) :
    (∀ y ∈ s.queue m, y.tag ≠ r.tag → y ∈ (s.retired l r o z').queue m) ∧
      ((s.lane m).state = .draining → ((s.retired l r o z').lane m).state = .draining) ∧
      (r.cause ≠ none →
        ((s.retired l r o z').lane m).stacker.state = (s.lane m).stacker.state) := by
  by_cases hm : m = l
  · obtain ⟨hqueue, -, hstacker, hdraining⟩ := s.lane_retired_self l r o z'
    rw [hm, hqueue, hstacker]
    exact ⟨fun y hy ht => List.mem_filter.2 ⟨hy, decide_eq_true ht⟩, hdraining,
      hz.state_of_rejected⟩
  · rw [State.queue, State.queue, State.lane_retired_ne hm]
    exact ⟨fun y hy _ => hy, id, fun _ => rfl⟩

/-- The working for the lane leaves all of that too, and so a plan change waits on. -/
theorem State.planWaits_retired (hz : s.Stacks (s.lane l).stacker r o z')
    (h : s.PlanWaitsBeyond r) : ((s.retired l r o z').work l).PlanWaits := by
  have hsteady := (s.retired l r o z').steady_work l
  have hprefix := (s.retired l r o z').queue_workIf_prefix l true
  refine h.planWaits ((congrArg Steady.phase hsteady).trans (s.plan_retired l r o z').1)
    (fun m hm => ?_) (fun m y hy ht => ?_) fun hc m => ?_ <;>
    obtain ⟨hqueue, hdraining, hstacker⟩ := State.retired_keeps hz m
  · exact (congrArg LaneSteady.state (State.steady_lane hsteady m)).trans (hdraining hm)
  · exact (hprefix m).subset (hqueue y hy ht)
  · exact (congrArg (fun x => x.stacker.state) (State.steady_lane hsteady m)).trans (hstacker hc)

/-- A trailing edge at E3 that no plan change waits for alone (R119). -/
theorem State.stackTrailing_of_waits (h : s.PoolSound) (hc : s.candidate l .clear = some r)
    (hz : s.Stacks (s.lane l).stacker r o z') (hwaits : s.PlanWaitsBeyond r) :
    s.stackTrailing l = ((s.retired l r o z').work l).evalGuard := by
  have hopen : r.cause = none → s.phase ≠ .stack := fun hgood hphase => by
    simp [State.PlanWaitsBeyond, hphase, hgood] at hwaits
  obtain ⟨hr, -⟩ := State.candidate_some hc
  rw [State.stackTrailing, hc]
  exact (State.retire_eq h hr hopen hz).trans
    (State.planTest_of_waits (s := State.evalGuard _) (State.planWaits_retired hz hwaits))

end

/-- Settles O42: the record retired, the working of its lane, and a plan change that waits on. -/
theorem aTrailingEdgeAtE3Retires : Obligations.ATrailingEdgeAtE3Retires := by
  unfold Obligations.ATrailingEdgeAtE3Retires
  intro l x r o z' s u v w hrun hp hopen hraw hx hd hfirst hwaits hu hz hv hw
  obtain ⟨e, he⟩ : ∃ e, e = s.setEye l 3 ⟨false, false, none⟩ := ⟨_, rfl⟩
  have hqueue : ∀ m, e.queue m = s.queue m := fun m => he ▸ s.queue_setEye l m 3 _
  have hlane : ∀ m, (e.lane m).state = (s.lane m).state ∧ (e.lane m).grant = (s.lane m).grant ∧
      (e.lane m).folder = (s.lane m).folder ∧ (e.lane m).stacker = (s.lane m).stacker :=
    fun m => he ▸ s.lane_setEye_frame l m 3 _
  have hpe : e.PoolSound := he ▸ hp.setEye l 3 _
  have hcand : e.candidate l .clear = some r := by rwa [State.candidate, hqueue]
  have hretired : e.retired l r o z' = w := by
    rw [hw, hv, hu, ← he, ← hqueue]
    rfl
  obtain ⟨-, -, hfolder, hstacker⟩ := hlane l
  have hze : e.Stacks (e.lane l).stacker r o z' := by
    rw [hstacker, he]
    exact hz
  have hwaitse : e.PlanWaitsBeyond r := by
    unfold State.PlanWaitsBeyond
    simp only [hqueue, hlane]
    rw [he]
    exact hwaits
  have hexec : exec (.edgeAccepted l 3) s = .next (w.work l).evalGuard := by
    rw [exec_edgeAccepted_of_due hrun hopen hraw hx hd, ← he]
    change Host.Outcome.next (e.stackTrailing l) = _
    rw [State.stackTrailing_of_waits hpe hcand hze hwaitse, hretired]
  have harmed : w.armedStation l = if o = .unstacked then none else s.armedStation l := by
    rw [← hretired, State.armedStation_retired, he, State.armedStation_setEye]
  have hkept : w.kept = s.kept := by
    rw [← hretired, State.kept_retired, he]
    rfl
  have hsteady := w.steady_work l
  obtain ⟨hlanes, halarms, hreports⟩ := w.workIf_frame l true
  obtain ⟨-, hfolderw, hstackerw, -⟩ := e.lane_retired_self l r o z'
  obtain ⟨hphase, hplan⟩ := e.plan_retired l r o z'
  rw [hretired] at hfolderw hstackerw hphase hplan
  refine ⟨fun hidle => ?_, fun a t ha ho ht => ?_, (w.work l).evalGuard, hexec,
    w.queue_workIf_prefix l true l, ?_, ?_, hlanes, halarms, hreports, ?_, ?_⟩
  · rw [hexec, State.work_of_unarmed]
    rw [harmed]
    rcases hidle with hidle | ho
    · rw [hidle, ite_self]
    · exact if_pos ho
  · rw [hexec, State.work_of_release ((congrArg Kept.resetPhase hkept).trans hrun) ?_ ht]
    rw [harmed, if_neg ho, ha]
  · exact (congrArg LaneSteady.stacker (State.steady_lane hsteady l)).trans hstackerw
  · exact (congrArg LaneSteady.folder (State.steady_lane hsteady l)).trans (hfolderw.trans hfolder)
  · exact (congrArg Steady.phase hsteady).trans (hphase.trans (by rw [he]; rfl))
  · exact (congrArg Steady.planNow hsteady).trans (hplan.trans (by rw [he]; rfl))

end Sys2Proof.Machine
end

section
/-!
PROOFS. Statement O51: the end of a discharge at CLEAR_l, and the stacker timer running out.
-/

namespace Sys2Proof.Machine

/-! ### The test of phase STACK (R152) -/

/-- A plan change is not at its end: it is not in phase STACK, or waits for a record or a
discharge. -/
theorem State.stackTest_of_waits {s : State} (h : s.phase = .stack → s.queueLeft ∨
      ∃ m : LaneNo, (s.lane m).state = .draining ∧ (s.lane m).stacker.state.isDischarging = true) :
    s.stackTest = s := by
  by_cases hphase : s.phase = .stack
  · rw [State.stackTest_of_stack hphase, if_pos (h hphase)]
  · unfold State.stackTest
    split
    · exact if_neg fun ⟨hp, _⟩ => hphase hp
    · rfl

/-- A plan change with nothing left to wait for completes. -/
theorem State.stackTest_of_ready {s : State} {pair : PlanPair} (hphase : s.phase = .stack)
    (hpair : s.planNext = some pair) (h : ∀ m, (s.lane m).state = .draining →
      s.queue m = [] ∧ (s.lane m).stacker.state.isDischarging = false) :
    s.stackTest = s.planDone pair := by
  rw [State.stackTest_of_stack hphase, if_neg, hpair]
  · rfl
  · rintro (⟨m, hm, hq⟩ | ⟨m, hm, hdis⟩)
    · obtain ⟨hempty, -⟩ := h m hm
      exact hq hempty
    · obtain ⟨-, hgone⟩ := h m hm
      exact Bool.false_ne_true (hgone.symm.trans hdis)

theorem State.planDone_frame (s : State) (pair : PlanPair) :
    (s.planDone pair).phase = .noChange ∧ (s.planDone pair).planNow = pair ∧
      (s.planDone pair).planNext = none ∧
      (∀ m, ((s.planDone pair).lane m).stacker = (s.lane m).stacker) ∧
      (s.planDone pair).reports = s.reports.offered (.planDone pair) := by
  rw [State.planDone, State.offer_eq]
  refine ⟨rfl, rfl, rfl, fun m => ?_, rfl⟩
  fin_cases m <;> rfl

theorem Reports.queue_offered_of_room {x : Reports} (h : x.queue.length < 32) (r : Report) :
    (x.offered r).queue = x.queue ++ [r] :=
  congrArg Reports.queue (if_pos h)

/-! ### The stack that starts with the pocket piece (R131, R134, R138) -/

/-- Where no plan change closes its lane, a stack started with one piece is BUILDING, or discharges
if that piece is its target. -/
theorem Stacker.start_of_open (x : Stacker) (q : PocketPiece) (e : Bool) (ts : Nat) :
    x.start q false e ts =
      if 1 < q.target then { x with state := .building ⟨q.batch, q.cls, 1, q.target⟩ }
      else x.dischargePile ⟨q.batch, q.cls, 1, q.target⟩ .full none e ts := by
  rw [Stacker.start, if_neg fun ⟨_, hc⟩ => Bool.false_ne_true hc, Stacker.put, ← ite_not]
  simp only [Nat.not_le]

/-- Where a plan change closes its lane, it discharges at once, with reason PLAN unless it is
full. -/
theorem Stacker.start_of_closing (x : Stacker) (q : PocketPiece) (e : Bool) (ts : Nat) :
    x.start q true e ts = x.dischargePile ⟨q.batch, q.cls, 1, q.target⟩
      (if 1 < q.target then .plan else .full) none e ts := by
  unfold Stacker.start Stacker.put
  by_cases h : 1 < q.target
  · rw [if_pos ⟨h, rfl⟩, if_pos h]
  · rw [if_neg fun ⟨ht, _⟩ => h ht, if_neg h]
    exact if_pos (Nat.not_lt.1 h)

theorem State.planCloses_iff {s : State} {l : LaneNo} :
    s.planCloses l = true ↔ s.phase = .stack ∧ (s.lane l).state = .draining := by
  simp [State.planCloses]

/-- A unit whose outgoing stack has gone: EMPTY, or with a stack started by the piece in the
pocket. -/
def Stacker.cleared (x : Stacker) (pocket : Option PocketPiece) (closes e : Bool) (ts : Nat) :
    Stacker :=
  pocket.elim x.emptied fun q => x.emptied.start q closes e ts

/-! ### CLEAR_l (R134) -/

section
variable {s : State} {l : LaneNo} {out : Outgoing} {pocket : Option PocketPiece} {z' : Stacker}

/-- A discharge ended: the unit as it goes on, EMPTY (`State.discharged`) or not, and STACK_DONE of
the stack that has gone. -/
def State.stackTaken (s : State) (l : LaneNo) (out : Outgoing) (z' : Stacker) : State :=
  (s.setLane l { s.lane l with stacker := z' }).offer
    (.stackDone l out.batch out.cls out.count out.reason)

theorem State.lane_stackTaken (s : State) (l : LaneNo) (out : Outgoing) (z' : Stacker)
    (m : LaneNo) : (s.stackTaken l out z').lane m =
      if m = l then { s.lane l with stacker := z' } else s.lane m := by
  rw [State.stackTaken, State.lane_offer, State.lane_setLane]

theorem State.stackTaken_frame (s : State) (l : LaneNo) (out : Outgoing) (z' : Stacker) :
    (s.stackTaken l out z').phase = s.phase ∧ (s.stackTaken l out z').planNext = s.planNext ∧
      (∀ m, ((s.stackTaken l out z').lane m).state = (s.lane m).state) ∧
      (∀ m, (s.stackTaken l out z').queue m = s.queue m) ∧
      (s.stackTaken l out z').reports =
        s.reports.offered (.stackDone l out.batch out.cls out.count out.reason) := by
  have hlane := s.lane_stackTaken l out z'
  refine ⟨?_, ?_, fun m => ?_, fun m => ?_, ?_⟩
  · rw [State.stackTaken, State.offer_eq]
    rfl
  · rw [State.stackTaken, State.offer_eq]
    rfl
  · rw [hlane]
    split
    · next hm => rw [hm]
    · rfl
  · rw [State.queue, hlane]
    split
    · next hm => rw [hm]; rfl
    · rfl
  · rw [State.stackTaken, State.offer_eq]
    rfl

/-- STACK_DONE does not see the stack that the pocket piece starts after it. -/
theorem State.discharged_startPile (s : State) (l : LaneNo) (out : Outgoing) (q : PocketPiece) :
    (s.discharged l out).startPile l q = s.stackTaken l out
      ((s.lane l).stacker.cleared (some q) (s.planCloses l) s.estop s.params.ts) := by
  have hcloses : (s.discharged l out).planCloses l = s.planCloses l := by
    rw [State.planCloses, State.lane_discharged, if_pos rfl, State.discharged, State.offer_eq]
    rfl
  rw [State.startPile_eq, hcloses, State.modStacker, State.modLane_eq, State.lane_discharged,
    if_pos rfl, State.discharged, State.modStacker, State.modLane_eq, State.stackTaken,
    State.offer_eq, State.offer_eq]
  simp [State.setLane, Stacker.cleared]

/-- A CLEAR_l edge ends the discharge that goes on, and the test of phase STACK follows. -/
theorem State.clearStack_of_discharging (h : (s.lane l).stacker.state = .discharging out pocket) :
    s.clearStack l = (s.stackTaken l out ((s.lane l).stacker.cleared pocket (s.planCloses l)
      s.estop s.params.ts)).stackTest := by
  unfold State.clearStack
  rw [h]
  cases pocket with
  | none => rfl
  | some q => exact congrArg State.stackTest (s.discharged_startPile l out q)

/-- A spurious edge (R134). -/
theorem State.clearStack_of_still
    (h : ∀ out pocket, (s.lane l).stacker.state ≠ .discharging out pocket) :
    s.clearStack l = s := by
  unfold State.clearStack
  split
  · next out pocket hstate => exact absurd hstate (h out pocket)
  · rfl

theorem exec_clearEdge (hr : s.resetPhase = .running) (l : LaneNo) :
    exec (.clearEdge l) s = .next (s.clearStack l) :=
  congrArg Host.Outcome.next (if_pos (decide_eq_true hr))

/-- The edge where the plan change, if there is one, goes on to wait. -/
theorem exec_clearEdge_of_waits (hr : s.resetPhase = .running)
    (h : (s.lane l).stacker.state = .discharging out pocket)
    (hz : (s.lane l).stacker.cleared pocket (s.planCloses l) s.estop s.params.ts = z')
    (hwaits : s.phase = .stack → s.queueLeft ∨ ∃ m : LaneNo, (s.lane m).state = .draining ∧
      ((s.stackTaken l out z').lane m).stacker.state.isDischarging = true) :
    exec (.clearEdge l) s = .next (s.stackTaken l out z') := by
  obtain ⟨hphase, -, hstate, hqueue, -⟩ := s.stackTaken_frame l out z'
  rw [exec_clearEdge hr, State.clearStack_of_discharging h, hz, State.stackTest_of_waits]
  simp only [State.queueLeft, hphase, hstate, hqueue]
  exact hwaits

/-- The edge that ends the last discharge a plan change waits for. -/
theorem exec_clearEdge_of_ready {pair : PlanPair} (hr : s.resetPhase = .running)
    (h : (s.lane l).stacker.state = .discharging out none) (hphase : s.phase = .stack)
    (hpair : s.planNext = some pair) (hready : ∀ m, (s.lane m).state = .draining →
      s.queue m = [] ∧ (m ≠ l → (s.lane m).stacker.state.isDischarging = false)) :
    exec (.clearEdge l) s =
      .next ((s.stackTaken l out (s.lane l).stacker.emptied).planDone pair) := by
  obtain ⟨hphase', hnext, hstate, hqueue, -⟩ := s.stackTaken_frame l out (s.lane l).stacker.emptied
  rw [exec_clearEdge hr, State.clearStack_of_discharging h]
  refine congrArg Host.Outcome.next
    (State.stackTest_of_ready (hphase'.trans hphase) (hnext.trans hpair) fun m hm => ?_)
  obtain ⟨hempty, hgone⟩ := hready m ((hstate m).symm.trans hm)
  refine ⟨(hqueue m).trans hempty, ?_⟩
  change ((s.stackTaken l out (s.lane l).stacker.emptied).lane m).stacker.state.isDischarging =
    false
  rw [State.lane_stackTaken]
  split
  · rfl
  · next hne => exact hgone hne

end

/-! ### The stacker timer (R135) -/

theorem exec_stackerTimeout {s : State} (hr : s.resetPhase = .running) (l : LaneNo) :
    exec (.stackerTimeout l) s = .next (s.stackerTimedOut l) :=
  congrArg Host.Outcome.next (if_pos (decide_eq_true hr))

theorem State.stackerTimedOut_of_running {s : State} {l : LaneNo} {ms : Nat}
    (h : (s.lane l).stacker.timer = .running ms) : s.stackerTimedOut l =
      (s.setLane l { s.lane l with stacker := { (s.lane l).stacker with timer := .expired } }).occur
        (.stacker l) 2 := by
  unfold State.stackerTimedOut
  rw [h]
  rfl

/-- Settles O51: the unit as `Stacker.cleared` has it, with the test of phase STACK that finds
something to wait for, if it is made, or completes the change. -/
theorem dischargesEndOrTimeOut : Obligations.DischargesEndOrTimeOut := by
  unfold Obligations.DischargesEndOrTimeOut
  rintro l z s hrun rfl
  refine ⟨fun hstill => ?_, fun out pocket hstate hphase z' hz => ?_,
    fun out q hstate hphase hdraining => ?_, fun out hstate hphase hleft => ?_,
    fun out pair hstate hphase hpair hready => ?_, fun ms hms => ?_⟩
  · rw [exec_clearEdge hrun, State.clearStack_of_still hstill]
  · have hopen : s.planCloses l = false :=
      Bool.eq_false_iff.2 fun hc => hphase (State.planCloses_iff.1 hc).1
    refine exec_clearEdge_of_waits hrun hstate ?_ fun hp => absurd hp hphase
    rw [hopen]
    cases pocket with
    | none => exact hz.symm
    | some q => exact (Stacker.start_of_open _ q _ _).trans hz.symm
  · have hcloses : s.planCloses l = true := State.planCloses_iff.2 ⟨hphase, hdraining⟩
    refine exec_clearEdge_of_waits hrun hstate ?_ fun _ => .inr ⟨l, hdraining, ?_⟩
    · rw [hcloses]
      exact Stacker.start_of_closing _ q _ _
    · rw [State.lane_stackTaken, if_pos rfl]
      rfl
  · refine exec_clearEdge_of_waits hrun hstate rfl fun _ => hleft.imp_right ?_
    rintro ⟨m, hm, hdraining, hdis⟩
    refine ⟨m, hdraining, ?_⟩
    rw [State.lane_stackTaken, if_neg hm]
    exact hdis
  · obtain ⟨hphase', hnow, hnext, hstacker, hreports⟩ :=
      (s.stackTaken l out (s.lane l).stacker.emptied).planDone_frame pair
    refine ⟨_, exec_clearEdge_of_ready hrun hstate hphase hpair hready, hphase', hnow, hnext, ?_,
      fun hroom => ?_⟩
    · rw [hstacker, State.lane_stackTaken, if_pos rfl]
      rfl
    · obtain ⟨-, -, -, -, hdone⟩ := s.stackTaken_frame l out (s.lane l).stacker.emptied
      have hqueue := Reports.queue_offered_of_room (x := s.reports) (by omega)
        (.stackDone l out.batch out.cls out.count out.reason)
      rw [hreports, hdone, Reports.queue_offered_of_room, hqueue, List.append_assoc]
      · rfl
      · rw [hqueue, List.length_append, List.length_singleton]
        omega
  · rw [exec_stackerTimeout hrun, State.stackerTimedOut_of_running hms]

end Sys2Proof.Machine
end

section
/-!
PROOFS. Statement O28: LANE_CMD FLUSH.
-/

namespace Sys2Proof.Machine

/-- Settles O28: an operand that names no lane, and then the unit in each of its three states. -/
theorem flushDischargesABuildingStack : Obligations.FlushDischargesABuildingStack := by
  unfold Obligations.FlushDischargesABuildingStack
  intro a s hready
  refine ⟨fun ha => next_request hready
      (State.respond_withOperand_none (laneOperand_none ha) _ s _),
    fun l hl => ⟨fun hidle => next_request hready ?_, fun p hp => next_request hready ?_⟩⟩
  · have hanswer : answerFlush a s = refuse .state s := by
      rw [answerFlush, withOperand_some s (laneOperand_val hl)]
      rcases hidle with hempty | ⟨out, pocket, hdis⟩
      · rw [hempty]
      · rw [hdis]
    rw [hanswer]
    exact State.respond_refuse s _ (by decide)
  · refine State.respond_withOperand_some (laneOperand_val hl) (by decide)
      (t := s.beginDischarge l .host none) (by rw [hp]) |>.trans ?_
    rw [State.beginDischarge_of_building hp]
    rfl

end Sys2Proof.Machine
end

section
/-!
PROOFS. The current-alarm rule and an alarm occurrence, for statement O55: what keeps latches,
current source, line outputs and report queue sound as `State.SignsSound` has them together.
-/

namespace Sys2Proof.Machine

/-! ### The current-alarm rule (R163, R164) -/

theorem mem_allSources (src : Source) : src ∈ allSources := by
  cases src <;> simp [allSources, mem_allFour]

theorem Alarms.rank_le_two (a : Alarms) (src : Source) : a.rank src ≤ 2 := by
  unfold Alarms.rank
  (repeat' split) <;> decide

theorem Alarms.firstOfRank_some {a : Alarms} {n : Nat} {src : Source}
    (h : a.firstOfRank n = some src) : a.presentable src = true ∧ a.rank src = n := by
  simpa using List.find?_some h

theorem Alarms.firstOfRank_none {a : Alarms} {n : Nat} (h : a.firstOfRank n = none) {src : Source}
    (hp : a.presentable src = true) : a.rank src ≠ n := by
  have hno := List.find?_eq_none.1 h src (mem_allSources src)
  simpa [hp] using hno

theorem Alarms.currentStays_iff {a : Alarms} {src : Source} : a.currentStays src = true ↔
    a.presentable src = true ∧ ∀ x, a.presentable x = true → a.rank x ≤ a.rank src := by
  simp [Alarms.currentStays, mem_allSources, imp_iff_not_or]

/-- The source the rule puts in is one it keeps. -/
theorem Alarms.currentStays_highest {a : Alarms} {src : Source} (h : a.highest = some src) :
    a.currentStays src = true := by
  rw [Alarms.currentStays_iff]
  unfold Alarms.highest at h
  cases h2 : a.firstOfRank 2 with
  | some high =>
    rw [h2] at h
    cases h
    obtain ⟨hp, hr⟩ := Alarms.firstOfRank_some h2
    exact ⟨hp, fun x _ => hr ▸ a.rank_le_two x⟩
  | none =>
    rw [h2] at h
    cases h1 : a.firstOfRank 1 with
    | some mid =>
      rw [h1] at h
      cases h
      obtain ⟨hp, hr⟩ := Alarms.firstOfRank_some h1
      refine ⟨hp, fun x hx => ?_⟩
      have hle := a.rank_le_two x
      have hne := Alarms.firstOfRank_none h2 hx
      omega
    | none =>
      rw [h1] at h
      obtain ⟨hp, hr⟩ := Alarms.firstOfRank_some h
      refine ⟨hp, fun x hx => ?_⟩
      have hle := a.rank_le_two x
      have hne2 := Alarms.firstOfRank_none h2 hx
      have hne1 := Alarms.firstOfRank_none h1 hx
      omega

theorem Alarms.applyRule_of_highest (a : Alarms) :
    ({ a with current := a.highest } : Alarms).applyRule = { a with current := a.highest } := by
  unfold Alarms.applyRule
  dsimp only
  cases h : a.highest with
  | none => exact congrArg (fun c => ({ a with current := c } : Alarms)) h
  | some src => exact if_pos (Alarms.currentStays_highest h)

theorem Alarms.applyRule_applyRule (a : Alarms) : a.applyRule.applyRule = a.applyRule := by
  have hnew := a.applyRule_of_highest
  cases hcur : a.current with
  | none =>
    have hrule : a.applyRule = { a with current := a.highest } := by rw [Alarms.applyRule, hcur]
    rw [hrule, hnew]
  | some src =>
    have hrule : a.applyRule =
        if a.currentStays src then a else { a with current := a.highest } := by
      rw [Alarms.applyRule, hcur]
    by_cases hstays : a.currentStays src = true
    · rw [if_pos hstays] at hrule
      rw [hrule, hrule]
    · rw [if_neg hstays] at hrule
      rw [hrule, hnew]

theorem Alarms.latches_applyRule (a : Alarms) : a.applyRule.latches = a.latches := by
  unfold Alarms.applyRule
  (repeat' split) <;> rfl

/-! ### Latches (R161) -/

theorem Latches.get_set (m : Latches) (src other : Source) (x : Latch) :
    (m.set src x).get other = if other = src then x else m.get other := by
  cases src <;> cases other <;> simp [Latches.set, Latches.get, Quad.get_set]

theorem Latch.sound_clear : Latch.clear.Sound := by decide

theorem Latch.sound_occur (x : Latch) (cause : Nat) : (x.occur cause).Sound := by
  unfold Latch.occur
  split
  · exact ⟨fun hc => Bool.noConfusion hc,
      fun _ => ⟨le_min (Nat.le_add_left 1 _) (by decide), Nat.min_le_right _ _⟩⟩
  · exact ⟨fun hc => Bool.noConfusion hc, fun _ => ⟨Nat.le_refl 1, (by decide : 1 ≤ 255)⟩⟩

/-! ### What the invariants say together -/

/-- What statement O55 says of a state. -/
structure State.SignsSound (s : State) : Prop where
  lines : s.LinesAgree
  alarms : s.AlarmsSound
  reports : s.ReportsSound

/-- Every latch is sound. -/
def State.LatchesSound (s : State) : Prop := ∀ src, (s.alarms.latches.get src).Sound

theorem State.SignsSound.latches {s : State} (h : s.SignsSound) : s.LatchesSound := fun src =>
  h.alarms.1 src (mem_allSources src)

/-- With latches and line outputs sound, the current-alarm rule makes the rest sound. -/
theorem State.signsSound_applyAlarmRule {s : State} (hhold : s.lineHold = s.wrapLatched)
    (hlift : s.rollLift = s.isLatched .scorch) (hlatches : s.LatchesSound) (hq : s.ReportsSound) :
    s.applyAlarmRule.SignsSound := by
  have hsame : s.applyAlarmRule.alarms.latches = s.alarms.latches := Alarms.latches_applyRule _
  refine ⟨⟨?_, ?_, rfl⟩, ⟨fun src _ => ?_, Alarms.applyRule_applyRule _⟩, hq⟩
  · unfold State.wrapLatched State.isLatched
    rw [hsame]
    exact hhold
  · unfold State.isLatched
    rw [hsame]
    exact hlift
  · rw [hsame]
    exact hlatches src

/-! ### Changes of what they do not read -/

/-- What the invariants read: the alarm unit, the outputs that follow it, report attention and the
report queue. -/
structure Signs where
  alarms : Alarms
  lineHold : Bool
  rollLift : Bool
  attn : Bool
  attention : Bool
  queue : List Report

def State.signs (s : State) : Signs :=
  { alarms := s.alarms, lineHold := s.lineHold, rollLift := s.rollLift, attn := s.attn,
    attention := s.params.attention, queue := s.reports.queue }

theorem State.SignsSound.of_same {s t : State} (h : s.SignsSound)
    (e : t.signs = s.signs) : t.SignsSound := by
  simp only [State.signs, Signs.mk.injEq] at e
  obtain ⟨ha, hhold, hlift, hattn, hattention, hq⟩ := e
  obtain ⟨hlines, halarms, hreports⟩ := h
  refine ⟨?_, ?_, ?_⟩
  · simp only [State.LinesAgree, State.wrapLatched, State.isLatched] at hlines ⊢
    rw [ha, hhold, hlift, hattn, hattention, hq]
    exact hlines
  · rw [State.AlarmsSound, ha]
    exact halarms
  · rw [State.ReportsSound, hq]
    exact hreports

/-- What no arbiter and no internal operation writes includes all of it. -/
theorem State.signs_of_steady {s t : State} (h : t.steady = s.steady) (hk : t.kept = s.kept) :
    t.signs = s.signs := by
  simp only [State.steady, Steady.mk.injEq] at h
  obtain ⟨halarms, hhold, hlift, hattn, hreports, -⟩ := h
  have hparams : t.params = s.params := congrArg Kept.params hk
  rw [State.signs, State.signs, halarms, hhold, hlift, hattn, hreports, hparams]

/-! ### An occurrence, an acknowledgement, a setting (R156, R157, R161, R163, R165) -/

/-- The state with a latch written. -/
def State.setLatch (s : State) (src : Source) (x : Latch) : State :=
  { s with alarms := { s.alarms with latches := s.alarms.latches.set src x } }

theorem State.isLatched_setLatch (s : State) (src other : Source) (x : Latch) :
    (s.setLatch src x).isLatched other = if other = src then x.latched else s.isLatched other := by
  change ((s.alarms.latches.set src x).get other).latched = _
  rw [Latches.get_set]
  split <;> rfl

theorem State.LatchesSound.setLatch {s : State} (h : s.LatchesSound) {x : Latch} (hx : x.Sound)
    (src : Source) : (s.setLatch src x).LatchesSound := fun other => by
  change ((s.alarms.latches.set src x).get other).Sound
  rw [Latches.get_set]
  split
  · exact hx
  · exact h other

theorem State.wrapLatched_iff (s : State) :
    s.wrapLatched = true ↔ ∃ l, s.isLatched (.wrap l) = true := by
  simp [State.wrapLatched, mem_allFour]

/-- A latch of another kind than WRAP has no part in LINE_HOLD. -/
theorem State.wrapLatched_setLatch_other (s : State) {src : Source} (h : src.kind ≠ .wrap)
    (x : Latch) : (s.setLatch src x).wrapLatched = s.wrapLatched := by
  have hone : ∀ l, (s.setLatch src x).isLatched (.wrap l) = s.isLatched (.wrap l) := fun l => by
    rw [State.isLatched_setLatch, if_neg fun e => h (congrArg Source.kind e).symm]
  simp only [State.wrapLatched, hone]

theorem Latch.latched_occur (x : Latch) (cause : Nat) : (x.occur cause).latched = true := by
  unfold Latch.occur
  split <;> rfl

@[simp] theorem State.signs_leaveOpen (s : State) (l : LaneNo) (a : LaneState) :
    (s.leaveOpen l a).signs = s.signs := by
  unfold State.leaveOpen
  (repeat' split) <;> rfl

@[simp] theorem State.signs_haltEvery (s : State) : s.haltEvery.signs = s.signs :=
  forEach_const State.signs (fun l t => t.signs_leaveOpen l .halted) _ _

@[simp] theorem State.signs_haltFor (s : State) (src : Source) :
    (s.haltFor src).signs = s.signs := by
  unfold State.haltFor
  split <;> simp [State.haltLane]

theorem State.signs_applyAlarmRule_congr {s t : State} (e : t.signs = s.signs) :
    t.applyAlarmRule.signs = s.applyAlarmRule.signs := by
  simp only [State.signs, Signs.mk.injEq] at e
  obtain ⟨ha, hhold, hlift, -, hattention, hq⟩ := e
  simp only [State.signs, State.applyAlarmRule, State.refreshAttn, ha, hhold, hlift, hattention, hq]

/-- The line outputs follow the latch an occurrence sets. -/
theorem State.lines_latched {s : State} (hhold : s.lineHold = s.wrapLatched)
    (hlift : s.rollLift = s.isLatched .scorch) (src : Source) (c : Nat) :
    (s.latched src c).lineHold = (s.latched src c).wrapLatched ∧
      (s.latched src c).rollLift = (s.latched src c).isLatched .scorch := by
  obtain ⟨x, hx⟩ : ∃ x, x = (s.alarms.latches.get src).occur c := ⟨_, rfl⟩
  have hset : x.latched = true := hx ▸ Latch.latched_occur _ c
  have hother : src.kind ≠ .wrap → s.lineHold = (s.setLatch src x).wrapLatched := fun hk => by
    rw [s.wrapLatched_setLatch_other hk, hhold]
  have hscorch : src ≠ .scorch → s.rollLift = (s.setLatch src x).isLatched .scorch := fun hk => by
    rw [State.isLatched_setLatch, if_neg (Ne.symm hk), hlift]
  have hlatched : s.latched src c = (s.setLatch src x).assertLines src := by rw [hx]; rfl
  rw [hlatched]
  cases src
  case wrap l =>
    refine ⟨((State.wrapLatched_iff _).2 ⟨l, ?_⟩).symm, hscorch Source.noConfusion⟩
    exact (s.isLatched_setLatch _ _ x).trans ((if_pos rfl).trans hset)
  case scorch =>
    refine ⟨hother Kind.noConfusion, ?_⟩
    exact ((s.isLatched_setLatch _ _ x).trans ((if_pos rfl).trans hset)).symm
  all_goals exact ⟨hother Kind.noConfusion, hscorch Source.noConfusion⟩

@[simp] theorem State.alarms_assertLines (s : State) (src : Source) :
    (s.assertLines src).alarms = s.alarms := by
  unfold State.assertLines
  split <;> rfl

/-- An occurrence (R161). -/
theorem State.SignsSound.occur {s : State} (h : s.SignsSound) (src : Source) (c : Nat) :
    (s.occur src c).SignsSound := by
  obtain ⟨hhold, hlift, -⟩ := h.lines
  obtain ⟨hhold', hlift'⟩ := State.lines_latched hhold hlift src c
  have hlatches : (s.latched src c).LatchesSound := by
    have hset := h.latches.setLatch (Latch.sound_occur (s.alarms.latches.get src) c) src
    rwa [State.LatchesSound, ← State.alarms_assertLines _ src] at hset
  refine (State.signsSound_applyAlarmRule hhold' hlift' hlatches ?_).of_same
    (State.signs_applyAlarmRule_congr (State.signs_haltFor _ src))
  rw [State.ReportsSound, State.latched_eq]
  exact h.reports

/-- The line outputs follow the latch an acknowledgement clears. -/
theorem State.lines_releaseLines {s : State} (hhold : s.lineHold = s.wrapLatched)
    (hlift : s.rollLift = s.isLatched .scorch) (src : Source) :
    ((s.setLatch src .clear).releaseLines src).lineHold = (s.setLatch src .clear).wrapLatched ∧
      ((s.setLatch src .clear).releaseLines src).rollLift =
        (s.setLatch src .clear).isLatched .scorch := by
  have hother : src.kind ≠ .wrap → s.lineHold = (s.setLatch src .clear).wrapLatched := fun hk => by
    rw [s.wrapLatched_setLatch_other hk, hhold]
  have hscorch : src ≠ .scorch →
      s.rollLift = (s.setLatch src .clear).isLatched .scorch := fun hk => by
    rw [State.isLatched_setLatch, if_neg (Ne.symm hk), hlift]
  cases src
  case wrap l =>
    refine ⟨?_, hscorch Source.noConfusion⟩
    change (s.lineHold && (s.setLatch (.wrap l) .clear).wrapLatched) = _
    rw [hhold, Bool.and_eq_right_iff_imp, State.wrapLatched_iff, State.wrapLatched_iff]
    rintro ⟨m, hm⟩
    rw [State.isLatched_setLatch] at hm
    split at hm
    · cases hm
    · exact ⟨m, hm⟩
  case scorch =>
    refine ⟨hother Kind.noConfusion, ?_⟩
    exact ((s.isLatched_setLatch .scorch .scorch .clear).trans (if_pos rfl)).symm
  all_goals exact ⟨hother Kind.noConfusion, hscorch Source.noConfusion⟩

/-- An acknowledgement (R165). -/
theorem State.SignsSound.clearLatch {s : State} (h : s.SignsSound) (src : Source) :
    (s.clearLatch src).SignsSound := by
  obtain ⟨hhold, hlift, -⟩ := h.lines
  obtain ⟨hhold', hlift'⟩ := State.lines_releaseLines hhold hlift src
  have hlatches := h.latches.setLatch Latch.sound_clear src
  change ((s.setLatch src .clear).releaseLines src).applyAlarmRule.SignsSound
  rw [State.releaseLines_eq]
  exact State.signsSound_applyAlarmRule hhold' hlift' hlatches h.reports

/-- Mask and level written (R163). -/
theorem State.SignsSound.writeSetting {s : State} (h : s.SignsSound) (k : Kind) (x : KindSetting) :
    (s.writeSetting k x).SignsSound := by
  obtain ⟨hhold, hlift, -⟩ := h.lines
  exact State.signsSound_applyAlarmRule hhold hlift h.latches h.reports

/-! ### ATTN and the report queue (R168, R181, R182) -/

/-- Reports and parameters may be written where ATTN follows them. -/
theorem State.SignsSound.attends {s t : State} (h : s.SignsSound) (hlines : t.lines = s.lines)
    (hq : t.ReportsSound) : t.refreshAttn.SignsSound := by
  simp only [State.lines, Lines.mk.injEq] at hlines
  obtain ⟨ha, hhold, hlift⟩ := hlines
  obtain ⟨⟨h1, h2, -⟩, halarms, -⟩ := h
  simp only [State.wrapLatched, State.isLatched, ← ha, ← hhold, ← hlift] at h1 h2
  rw [State.AlarmsSound, ← ha] at halarms
  exact ⟨⟨h1, h2, rfl⟩, halarms, hq⟩

theorem Reports.length_offered {x : Reports} (h : x.queue.length ≤ Config.reportSlots)
    (r : Report) :
    (x.offered r).queue.length ≤ Config.reportSlots := by
  unfold Reports.offered
  split
  · rw [List.length_append]
    exact Nat.succ_le_of_lt ‹_›
  · exact h

/-- A report offered (R181). -/
theorem State.SignsSound.offer {s : State} (h : s.SignsSound) (r : Report) :
    (s.offer r).SignsSound := by
  rw [State.offer_eq]
  exact h.attends (t := { s with reports := s.reports.offered r }) rfl
    (Reports.length_offered h.reports r)

/-- Reports fetched (R182). -/
theorem State.SignsSound.dropReports {s : State} (h : s.SignsSound) (n : Nat) :
    (s.dropReports n).SignsSound := by
  refine h.attends (t := { s with reports := { s.reports with queue := s.reports.queue.drop n } })
    rfl (le_trans ?_ h.reports)
  rw [List.length_drop]
  exact Nat.sub_le _ _

end Sys2Proof.Machine
end

section
/-!
PROOFS. What of the blocks makes neither report nor occurrence, and so leaves what
`State.SignsSound` reads as it is; then the operations that offer reports, and those of the delivery
path and the tracker.
-/

namespace Sys2Proof.Machine

/-! ### Operations that leave it as it is -/

@[simp] theorem State.signs_draw (s : State) (n : Nat) : (s.draw n).2.signs = s.signs :=
  State.signs_of_steady (s.steady_draw n) (s.kept_draw n)

@[simp] theorem State.signs_modStation (s : State) (st : StationNo) (f : Station → Station) :
    (s.modStation st f).signs = s.signs := rfl

@[simp] theorem State.signs_mapLanes (s : State) (f : Lane → Lane) :
    (s.mapLanes f).signs = s.signs := rfl

@[simp] theorem State.signs_evalGuard (s : State) : s.evalGuard.signs = s.signs := rfl

@[simp] theorem State.signs_modRecord (s : State) (l : LaneNo) (tag : Nat) (f : Record → Record) :
    (s.modRecord l tag f).signs = s.signs := rfl

@[simp] theorem State.signs_giveBack (s : State) (st : StationNo) :
    (s.giveBack st).signs = s.signs :=
  State.signs_of_steady (s.steady_giveBack st) (s.kept_giveBack st)

@[simp] theorem State.signs_decideGrant (s : State) (l : LaneNo) :
    (s.decideGrant l).signs = s.signs :=
  State.signs_of_steady (s.steady_decideGrant l) (s.kept_decideGrant l)

@[simp] theorem State.signs_work (s : State) (l : LaneNo) : (s.work l).signs = s.signs :=
  State.signs_of_steady (s.steady_work l) (s.kept_work l)

@[simp] theorem State.signs_workIf (s : State) (l : LaneNo) (y : Bool) :
    (s.workIf l y).signs = s.signs :=
  State.signs_of_steady (s.steady_workIf l y) (s.kept_workIf l y)

@[simp] theorem State.signs_testHold (s : State) (st : StationNo) :
    (s.testHold st).signs = s.signs :=
  State.signs_of_steady (s.steady_testHold st) (s.kept_testHold st)

@[simp] theorem State.signs_enterWaiting (s : State) (st : StationNo) :
    (s.enterWaiting st).signs = s.signs :=
  State.signs_of_steady (s.steady_enterWaiting st) (s.kept_enterWaiting st)

@[simp] theorem State.signs_testRelease (s : State) (l : LaneNo) :
    (s.testRelease l).signs = s.signs :=
  State.signs_of_steady (s.steady_testRelease l) (s.kept_testRelease l)

theorem State.signs_openTimeOver (s : State) (st : StationNo) :
    (s.openTimeOver st).signs = s.signs := by
  unfold State.openTimeOver
  split <;> rfl

theorem State.signs_dwellOver (s : State) (st : StationNo) :
    (s.dwellOver st).signs = s.signs := by
  unfold State.dwellOver
  split <;> rfl

@[simp] theorem State.signs_beginDischarge (s : State) (l : LaneNo) (r : StackReason)
    (p : Option PocketPiece) : (s.beginDischarge l r p).signs = s.signs := by
  unfold State.beginDischarge
  split <;> rfl

@[simp] theorem State.signs_putPile (s : State) (l : LaneNo) (p : Pile) :
    (s.putPile l p).signs = s.signs := by
  rw [State.putPile_eq]
  rfl

@[simp] theorem State.signs_startPile (s : State) (l : LaneNo) (p : PocketPiece) :
    (s.startPile l p).signs = s.signs := by
  rw [State.startPile_eq]
  rfl

@[simp] theorem State.signs_markMerged (s : State) (l : LaneNo) (c : LostCause) :
    (s.markMerged l c).signs = s.signs := by
  unfold State.markMerged
  split <;> rfl

section
variable {s : State}

/-! ### Tasks taken one after another -/

theorem State.SignsSound.draw (h : s.SignsSound) (n : Nat) : (s.draw n).2.SignsSound :=
  h.of_same (s.signs_draw n)

theorem State.SignsSound.forEach {τ : Type} {run : τ → State → State} (h : s.SignsSound)
    (hr : ∀ t (u : State), u.SignsSound → (run t u).SignsSound) (tasks : List τ) :
    (forEach run tasks s).SignsSound :=
  forEach_keeps hr tasks s h

theorem State.SignsSound.inFreeOrder {τ : Type} [DecidableEq τ] {run : τ → State → State}
    (h : s.SignsSound) (hr : ∀ t (u : State), u.SignsSound → (run t u).SignsSound)
    (tasks : List τ) : (inFreeOrder run tasks s).SignsSound :=
  inFreeOrder_keeps (fun _ n hu => State.SignsSound.draw hu n) hr tasks s h

/-! ### Stations: a completed batch is reported (R43, R53) -/

theorem State.SignsSound.completeBatch (h : s.SignsSound) (st : StationNo) (c : Bool) :
    (s.completeBatch st c).SignsSound := by
  unfold State.completeBatch
  split
  · exact h
  · exact (h.offer _).of_same (by rw [State.signs_giveBack, State.signs_modStation])

theorem State.SignsSound.afterClampCycle (h : s.SignsSound) (st : StationNo) :
    (s.afterClampCycle st).SignsSound := by
  unfold State.afterClampCycle
  split
  · exact h.of_same rfl
  · split_ifs
    · exact h.of_same (s.signs_enterWaiting st)
    · exact h.of_same rfl
    · exact h.completeBatch st false

theorem State.SignsSound.notice (h : s.SignsSound) (st : StationNo) (batch : Nat) (d : Departure) :
    (s.notice st batch d).SignsSound := by
  have hnoticed : (s.modStation st fun x => x.notice batch d).SignsSound := h.of_same rfl
  unfold State.notice
  split_ifs
  · exact hnoticed.of_same (State.signs_enterWaiting _ st)
  · exact hnoticed.completeBatch st false
  · exact hnoticed
  · exact hnoticed

theorem State.SignsSound.noticeOf (h : s.SignsSound) (r : Record) (d : Departure) :
    (s.noticeOf r d).SignsSound := by
  unfold State.noticeOf
  split
  · exact h.notice _ _ d
  · exact h

theorem State.SignsSound.returnTimeOver (h : s.SignsSound) (st : StationNo) :
    (s.returnTimeOver st).SignsSound := by
  unfold State.returnTimeOver
  split
  · exact State.SignsSound.afterClampCycle (h.of_same (by rfl)) st
  · exact h

theorem State.SignsSound.stopStation (h : s.SignsSound) (st : StationNo) :
    (s.stopStation st).SignsSound := by
  unfold State.stopStation
  split
  · exact State.SignsSound.afterClampCycle (h.of_same (by rfl)) st
  · exact h.of_same rfl

theorem State.SignsSound.stopStations (h : s.SignsSound) : s.stopStations.SignsSound :=
  (h.forEach (fun st _ hu => hu.stopStation st) _).inFreeOrder (fun st _ hu => hu.stopStation st) _

/-! ### The delivery path -/

theorem State.SignsSound.foldArrival (h : s.SignsSound) (l : LaneNo) (c : FoldCommand) :
    (s.foldArrival l c).SignsSound := by
  unfold State.foldArrival
  split
  · exact h.of_same rfl
  · exact State.SignsSound.occur (h.of_same (by rfl)) _ _

theorem State.SignsSound.receivePiece (h : s.SignsSound) (l : LaneNo) (r : Record) :
    (s.receivePiece l r).2.SignsSound := by
  unfold State.receivePiece State.stackGood
  split
  · exact h.of_same rfl
  · split
    · exact h.of_same (s.signs_startPile l _)
    · split
      · exact h.of_same (s.signs_putPile l _)
      · exact h.of_same (s.signs_beginDischarge l _ _)
    · exact h.of_same rfl
    · exact h.occur _ _

theorem State.SignsSound.stackerTimedOut (h : s.SignsSound) (l : LaneNo) :
    (s.stackerTimedOut l).SignsSound := by
  unfold State.stackerTimedOut
  split
  · exact State.SignsSound.occur (h.of_same (by rfl)) _ _
  · exact h

theorem State.SignsSound.planDone (h : s.SignsSound) (pair : PlanPair) :
    (s.planDone pair).SignsSound :=
  State.SignsSound.offer (h.of_same (by rfl)) _

/-- The tests of a plan change leave it waiting, ask stacks to discharge, or report its end. -/
theorem State.SignsSound.planTest (h : s.SignsSound) : s.planTest.SignsSound := by
  rw [State.planTest_eq_planMoved]
  rcases s.planMoved_cases with e | e | ⟨pair, e⟩ <;> rw [e]
  · exact h
  · exact h.of_same rfl
  · exact h.planDone pair

theorem State.SignsSound.stackTest (h : s.SignsSound) : s.stackTest.SignsSound := by
  unfold State.stackTest
  split
  · split
    · rw [State.completeChange_planDone]
      exact h.planDone _
    · exact h
  · exact h

theorem State.SignsSound.clearStack (h : s.SignsSound) (l : LaneNo) :
    (s.clearStack l).SignsSound := by
  unfold State.clearStack
  split
  · next out pocket _ =>
    have hgone : (s.discharged l out).SignsSound := State.SignsSound.offer (h.of_same (by rfl)) _
    refine State.SignsSound.stackTest ?_
    cases pocket with
    | none => exact hgone
    | some q => exact hgone.of_same (State.signs_startPile _ l q)
  · exact h

/-! ### The tracker -/

theorem State.SignsSound.lossOccurrence (h : s.SignsSound) (l : LaneNo) (r : Record)
    (c : LostCause) : (s.lossOccurrence l r c).SignsSound := by
  cases c
  case merged | purged => exact h
  case misfeed =>
    unfold State.lossOccurrence
    dsimp only
    split
    · exact h.occur _ _
    · exact h
  all_goals exact h.occur _ _

theorem State.SignsSound.loseRecord (h : s.SignsSound) (l : LaneNo) (r : Record) (c : LostCause) :
    (s.loseRecord l r c).SignsSound := by
  have hdropped : ((s.dropRecord l r.tag).markMerged l c).SignsSound :=
    h.of_same (State.signs_markMerged _ l c)
  exact (((hdropped.noticeOf r c.departure).offer _).lossOccurrence l r c).of_same
    (State.signs_work _ l)

theorem State.SignsSound.expireFor (h : s.SignsSound) (l : LaneNo) (tag : Nat)
    (due : Record → Option LostCause) : (s.expireFor l tag due).SignsSound := by
  unfold State.expireFor
  split
  · exact h
  · split
    · exact h
    · exact (h.loseRecord l _ _).planTest

theorem State.SignsSound.matchEntry (h : s.SignsSound) (l : LaneNo) (r : Record) (x : Pos) :
    (s.matchEntry l r x).SignsSound := by
  have hmatched : (s.modRecord l r.tag (s.entryMatched l x)).SignsSound := h.of_same rfl
  have hworked := (hmatched.noticeOf r .confirmation).of_same
    (State.signs_workIf _ l (s.isYoungest l r))
  exact State.SignsSound.expireFor (hworked.of_same (State.signs_evalGuard _)) l r.tag _

theorem State.SignsSound.foreignSheet (h : s.SignsSound) (l : LaneNo) (x : Pos) :
    (s.foreignSheet l x).SignsSound := by
  unfold State.foreignSheet
  split
  · exact State.SignsSound.expireFor
      (h.of_same (t := ((s.joinForeign l (s.foreignRecord l x)).work l).evalGuard)
        (State.signs_work _ l)) l _ _
  · exact h.occur _ _

theorem State.SignsSound.entryLeading (h : s.SignsSound) (l : LaneNo) (x : Pos) :
    (s.entryLeading l x).SignsSound := by
  unfold State.entryLeading
  split
  · split
    · exact h.matchEntry l _ x
    · exact h.foreignSheet l x
  · exact h.foreignSheet l x

theorem State.SignsSound.entryTrailing (h : s.SignsSound) (l : LaneNo) (x : Pos) :
    (s.entryTrailing l x).SignsSound := by
  unfold State.entryTrailing
  split
  · exact h
  · next r _ =>
    have htaken : ((s.modRecord l r.tag (s.trailingTaken l x)).workIf l
        (s.isYoungest l r)).SignsSound := h.of_same (State.signs_workIf _ l _)
    split
    · exact htaken.expireFor l r.tag _
    · exact htaken

theorem State.SignsSound.eyeLeading (h : s.SignsSound) (l : LaneNo) (k : EyeNo) (eye : NextEye)
    (x : Pos) {hit : Record → State} (hhit : ∀ r, (hit r).SignsSound) :
    (s.eyeLeading l k eye x hit).SignsSound := by
  unfold State.eyeLeading
  split
  · split
    · exact hhit _
    · exact h.occur _ _
  · exact h.occur _ _

/-- A record changed by a match, and the deadline set at it tested. -/
theorem State.SignsSound.matched (h : s.SignsSound) (l : LaneNo) (tag : Nat)
    (f : Record → Record) : ((s.modRecord l tag f).expireIfSetPast l tag).SignsSound :=
  State.SignsSound.expireFor (h.of_same (by rfl)) l tag _

theorem State.SignsSound.matchE2 (h : s.SignsSound) (l : LaneNo) (r : Record) :
    (s.matchE2 l r).SignsSound := by
  have hmatched : (s.modRecord l r.tag (s.foldMatched l)).SignsSound := h.of_same rfl
  rw [State.matchE2_eq]
  exact State.SignsSound.expireFor
    ((hmatched.foldArrival l _).of_same (State.signs_evalGuard _)) l r.tag _

theorem State.SignsSound.stackTrailing (h : s.SignsSound) (l : LaneNo) :
    (s.stackTrailing l).SignsSound := by
  unfold State.stackTrailing
  split
  · next r _ =>
    have hpiece : ((s.dropRecord l r.tag).receivePiece l r).2.SignsSound :=
      State.SignsSound.receivePiece (h.of_same (by rfl)) l r
    exact State.SignsSound.planTest ((hpiece.offer _).of_same (State.signs_work _ l))
  · exact h

theorem State.SignsSound.takeEdge (h : s.SignsSound) (l : LaneNo) (k : EyeNo) (leading : Bool)
    (x : Pos) : (s.takeEdge l k leading x).SignsSound := by
  unfold State.takeEdge
  split
  · exact h.entryLeading l x
  · exact h.entryTrailing l x
  · exact h.eyeLeading l 1 .e1 x fun r => h.matched l r.tag _
  · exact h.eyeLeading l 2 .e2 x fun r => h.matchE2 l r
  · exact h.eyeLeading l 3 .e3 x fun r => h.matched l r.tag _
  · exact h.stackTrailing l
  · exact h

theorem State.SignsSound.purgeLane (h : s.SignsSound) (l : LaneNo) :
    (s.purgeLane l).SignsSound :=
  State.SignsSound.planTest
    ((h.forEach (fun r _ hu => hu.loseRecord l r .purged) _).of_same (by rfl))

/-! ### The field side -/

theorem State.SignsSound.deliver (h : s.SignsSound) (l : LaneNo) (k : EyeNo) (leading : Bool)
    (x : Pos) : (s.deliver l k leading x).SignsSound := by
  unfold State.deliver
  split
  · exact h
  · exact h.takeEdge l k leading x

theorem State.SignsSound.acceptIfDue (h : s.SignsSound) (l : LaneNo) (k : EyeNo) :
    (s.acceptIfDue l k).SignsSound := by
  unfold State.acceptIfDue
  split
  · split
    · exact State.SignsSound.deliver (h.of_same (by rfl)) l k _ _
    · exact h
  · exact h

theorem State.SignsSound.rawChange (h : s.SignsSound) (l : LaneNo) (k : EyeNo) (covered : Bool) :
    (s.rawChange l k covered).SignsSound := by
  unfold State.rawChange
  split_ifs
  · exact h.of_same rfl
  · exact State.SignsSound.deliver (h.of_same (by rfl)) l k _ _
  · exact h.of_same rfl

theorem State.SignsSound.runTask (h : s.SignsSound) (t : AdvanceTask) :
    (s.runTask t).SignsSound := by
  cases t with
  | edge l k => exact h.acceptIfDue l k
  | hold st => exact h.of_same (s.signs_testHold st)
  | releaseTest l => exact h.of_same (s.signs_testRelease l)
  | deadline l tag => exact h.expireFor l tag _

theorem State.SignsSound.advance (h : s.SignsSound) : s.advance.SignsSound :=
  runFreely_keeps (P := State.SignsSound) (fun _ n hu => hu.draw n) (fun t _ hu => hu.runTask t) _ _
    s.countAdvance (h.of_same (by rfl))

theorem State.SignsSound.pulse (h : s.SignsSound) : s.pulse.SignsSound := by
  unfold State.pulse
  split
  · exact h.of_same rfl
  · exact h.advance

theorem State.SignsSound.compareSpeed (h : s.SignsSound) (before : Nat) :
    (s.compareSpeed before).SignsSound := by
  unfold State.compareSpeed
  split_ifs
  · exact h.occur _ _
  · exact h.occur _ _
  · exact h

theorem State.SignsSound.gateOver (h : s.SignsSound) : s.gateOver.SignsSound := by
  have hwork : ∀ (l : LaneNo) (u : State), u.SignsSound → (u.work l).SignsSound := fun l u hu =>
    hu.of_same (u.signs_work l)
  have hspeed : (s.closeGate.compareSpeed s.speed).evalGuard.SignsSound :=
    (State.SignsSound.compareSpeed (s := s.closeGate) (h.of_same rfl) s.speed).of_same rfl
  unfold State.gateOver State.workAll
  exact (hspeed.forEach hwork _).inFreeOrder hwork _

theorem State.SignsSound.activateEstop (h : s.SignsSound) : s.activateEstop.SignsSound := by
  have hflags : s.estopFlags.SignsSound := h.of_same rfl
  rw [State.activateEstop_eq]
  exact (hflags.occur .estop causeActivated).stopStations.of_same (State.signs_mapLanes _ _)

theorem State.SignsSound.scorchOver (h : s.SignsSound) : s.scorchOver.SignsSound := by
  unfold State.scorchOver
  split
  · exact State.SignsSound.occur (h.of_same (by rfl)) _ _
  · exact h

end

end Sys2Proof.Machine
end

section
/-!
PROOFS. Statement O55: the reset, the requests, every command and the clock keep `State.SignsSound`.
-/

namespace Sys2Proof.Machine

section
variable {s : State}

/-! ### Reset (R183) -/

theorem State.signsSound_resetBlocks (s : State) (phase : ResetPhase) :
    (s.resetBlocks phase).SignsSound :=
  State.SignsSound.of_same (s := State.reset) ⟨by decide, by decide, by decide⟩ rfl

theorem State.SignsSound.endReset (h : s.SignsSound) : s.endReset.SignsSound := by
  have hover : s.resetOver.SignsSound := h.of_same rfl
  unfold State.endReset
  split
  · change (if s.inputs.estop then s.resetOver.activateEstop else s.resetOver).SignsSound
    split
    · exact hover.activateEstop
    · exact hover
  · exact h

/-! ### Settings -/

theorem State.SignsSound.withOperand {α : Type} {x : Option α} {f : α → Answer} (h : s.SignsSound)
    (hf : ∀ a, (f a).state.SignsSound) : (withOperand x s f).state.SignsSound := by
  unfold Machine.withOperand
  split
  · exact h
  · exact hf _

theorem State.SignsSound.answerClassSet (h : s.SignsSound) (o : ClassOperands) :
    (answerClassSet o s).state.SignsSound := by
  unfold Machine.answerClassSet
  split
  · split
    · exact h
    · exact h.of_same rfl
  · exact h

theorem State.SignsSound.answerStationSet (h : s.SignsSound) (o : StationOperands) :
    (answerStationSet o s).state.SignsSound := by
  unfold Machine.answerStationSet
  split
  · next st m _ _ =>
    split
    · rcases State.writeStation_cases (s := s) (st := st) (p := stationParamsOf o m) with e | e
      · rw [carryOut_state, e]
        exact h.of_same rfl
      · rw [carryOut_state, e]
        exact h.of_same (State.signs_giveBack _ st)
    · exact h
  · exact h

theorem State.SignsSound.answerGeometrySet (h : s.SignsSound) (o : GeometryOperands) :
    (answerGeometrySet o s).state.SignsSound := by
  unfold Machine.answerGeometrySet
  split
  · exact h
  · split_ifs
    · exact h.of_same rfl
    · exact h
    · exact h

/-- ATTN follows the parameters written (R168). -/
theorem State.SignsSound.linePut (h : s.SignsSound) (p : LineParams) :
    (s.linePut p).SignsSound := by
  have horders : (s.linedOrders p).lines = s.lines ∧ (s.linedOrders p).ReportsSound := by
    rw [State.linedOrders_eq]
    exact ⟨rfl, h.reports⟩
  unfold State.linePut
  split
  · exact h.attends horders.1 horders.2
  · exact h.attends (t := (s.linedOrders p).evalGuard) horders.1 horders.2

theorem State.SignsSound.answerLineSet (h : s.SignsSound) (o : LineOperands) :
    (answerLineSet o s).state.SignsSound := by
  unfold Machine.answerLineSet
  split
  · split_ifs
    · exact h
    · exact h
    · rw [carryOut_state, State.writeLine_eq]
      split
      · exact h.linePut _
      · exact (h.linePut _).inFreeOrder
          (fun (e : LaneNo × EyeNo) _ hu => hu.acceptIfDue e.1 e.2) _
  · exact h

theorem State.SignsSound.beginChange (h : s.SignsSound) (pair : PlanPair) :
    (s.beginChange pair).SignsSound := by
  have hhalt : s.haltEvery.SignsSound := h.of_same s.signs_haltEvery
  have hchanging : (s.changing pair).SignsSound := by
    unfold State.changing
    generalize s.haltEvery = u at hhalt ⊢
    exact hhalt.of_same rfl
  rw [State.beginChange_eq]
  exact hchanging.planTest

theorem State.SignsSound.answerPlanSet (h : s.SignsSound) (o : PlanOperands) :
    (answerPlanSet o s).state.SignsSound := by
  refine h.withOperand fun pair => ?_
  split
  · unfold answerPlanTested
    split
    · rw [carryOut_state]
      split
      · exact h
      · exact h.beginChange pair
    · split
      · rw [carryOut_state, State.withdrawChange_eq]
        exact h.of_same rfl
      · exact h
    · exact h
  · exact h

theorem State.SignsSound.answerAlarmSet (h : s.SignsSound) (kind mask level : Byte) :
    (answerAlarmSet kind mask level s).state.SignsSound := by
  unfold Machine.answerAlarmSet
  split
  · exact h.writeSetting _ _
  · exact h

/-! ### Commands of the host -/

theorem State.SignsSound.answerBatchLoad (h : s.SignsSound) (o : BatchOperands) :
    (answerBatchLoad o s).state.SignsSound := by
  unfold Machine.answerBatchLoad answerLoadTested
  (repeat' split)
  all_goals exact h.of_same rfl

theorem State.SignsSound.answerBatchCancelCurrent (h : s.SignsSound) (station : Byte) :
    (answerBatchCancelCurrent station s).state.SignsSound := by
  refine h.withOperand fun st => ?_
  cases (s.station st).state
  case waiting | loaded | armed => exact h.completeBatch st true
  all_goals exact h

theorem State.SignsSound.answerResume (h : s.SignsSound) (lane : Byte) :
    (answerResume lane s).state.SignsSound := by
  refine h.withOperand fun l => ?_
  cases (s.lane l).state
  case halted =>
    dsimp only
    split
    · exact h.of_same (State.signs_decideGrant _ l)
    · exact h
  all_goals exact h

theorem State.SignsSound.answerHalt (h : s.SignsSound) (lane : Byte) :
    (answerHalt lane s).state.SignsSound := by
  refine h.withOperand fun l => ?_
  cases (s.lane l).state
  case opened => exact h.of_same (s.signs_leaveOpen l .halted)
  all_goals exact h

theorem State.SignsSound.answerPurge (h : s.SignsSound) (lane : Byte) :
    (answerPurge lane s).state.SignsSound := by
  refine h.withOperand fun l => ?_
  have hpurge : (if s.inputs.ironerRun then refuse .state s
      else carryOut false [] (s.purgeLane l)).state.SignsSound := by
    split
    · exact h
    · exact h.purgeLane l
  cases (s.lane l).state
  case halted | draining => exact hpurge
  all_goals exact h

theorem State.SignsSound.answerFlush (h : s.SignsSound) (lane : Byte) :
    (answerFlush lane s).state.SignsSound := by
  refine h.withOperand fun l => ?_
  split
  · exact h.of_same (s.signs_beginDischarge l _ _)
  all_goals exact h

theorem State.SignsSound.answerAlarmAck (h : s.SignsSound) (kind index : Byte) :
    (answerAlarmAck kind index s).state.SignsSound := by
  refine h.withOperand fun src => ?_
  split
  · exact h.clearLatch src
  · exact h

theorem State.SignsSound.answerRejectMark (h : s.SignsSound) (tag : BitVec 16) :
    (answerRejectMark tag s).state.SignsSound := by
  refine h.withOperand fun l => h.withOperand fun r => ?_
  unfold answerMarkRecord
  split
  · exact h
  · exact h.of_same rfl

/-- What a request keeps by its answer (R33). -/
theorem State.SignsSound.answer (h : s.SignsSound) (i : Instr) : (answer i s).state.SignsSound := by
  cases i
  case reportFetch max => exact h.dropReports _
  case sheetsRead | stationRead | laneRead => exact h.withOperand fun _ => h
  case classSet o => exact h.answerClassSet o
  case stationSet o => exact h.answerStationSet o
  case geometrySet o => exact h.answerGeometrySet o
  case lineSet o => exact h.answerLineSet o
  case planSet o => exact h.answerPlanSet o
  case alarmSet kind mask level => exact h.answerAlarmSet kind mask level
  case batchLoad o => exact h.answerBatchLoad o
  case batchCancelNext => exact h.withOperand fun _ => h.of_same rfl
  case batchCancelCurrent station => exact h.answerBatchCancelCurrent station
  case laneCmdResume lane => exact h.answerResume lane
  case laneCmdHalt lane => exact h.answerHalt lane
  case laneCmdPurge lane => exact h.answerPurge lane
  case laneCmdFlush lane => exact h.answerFlush lane
  case haltAll => exact h.of_same s.signs_haltEvery
  case alarmAck kind index => exact h.answerAlarmAck kind index
  case rejectMark tag => exact h.answerRejectMark tag
  all_goals exact h

/-! ### The line link -/

theorem State.SignsSound.request (h : s.SignsSound) {code : Byte} {f : State → Answer}
    (hf : (f s).state.SignsSound) : (s.request code f).SignsSound := by
  rcases s.request_cases code f with e | e | ⟨-, e⟩ <;> rw [e]
  · exact h.of_same rfl
  · exact h
  · exact hf.of_same rfl

theorem State.SignsSound.handOn (h : s.SignsSound) (f : RxFrame) : (s.handOn f).SignsSound := by
  unfold State.handOn
  split
  · unfold State.takeBroadcast
    split_ifs
    · exact h.of_same s.signs_haltEvery
    · exact s.signsSound_resetBlocks _
    · exact h
    · exact h
  · refine h.request ?_
    unfold answerFrame
    split
    · exact h
    · exact h.answer _

theorem State.SignsSound.setReceiver (h : s.SignsSound) (r : Receiver) :
    (s.setReceiver r).SignsSound := h.of_same rfl

theorem State.SignsSound.hear (h : s.SignsSound) (bits : BitVec 11) : (s.hear bits).SignsSound := by
  unfold State.hear
  split_ifs
  · exact h.setReceiver _
  · exact h.setReceiver _
  · split
    · exact h
    · next f _ =>
      unfold State.takeData
      split
      · split
        · exact (h.setReceiver _).handOn f
        · exact h.setReceiver _
      · exact h.setReceiver _

theorem State.SignsSound.lineBreak (h : s.SignsSound) : s.lineBreak.SignsSound := by
  unfold State.lineBreak
  split
  · exact h
  · exact h.of_same rfl

theorem State.SignsSound.startReply (h : s.SignsSound) : s.startReply.SignsSound := by
  unfold State.startReply
  split
  · split
    · exact h
    · exact h.of_same rfl
  · exact h

theorem State.SignsSound.endReply (h : s.SignsSound) : s.endReply.SignsSound := by
  unfold State.endReply
  split
  · split_ifs
    · exact State.signsSound_resetBlocks _ _
    · exact h.of_same rfl
    · exact h
  · exact h

/-! ### The commands -/

theorem State.SignsSound.whenRunning (h : s.SignsSound) {f : State → State}
    (hf : (f s).SignsSound) : (s.whenRunning f).SignsSound := by
  unfold State.whenRunning
  split
  · exact hf
  · exact h

/-- What a command makes is sound; the requests are what is left at the end. -/
theorem exec_signsSound (h : s.SignsSound) (c : Instr) :
    ∃ t, exec c s = .next t ∧ t.SignsSound := by
  have hreq : ∀ code, (s.request code (answer c)).SignsSound := fun _ => h.request (h.answer c)
  cases c
  case resetPin => exact ⟨_, rfl, s.signsSound_resetBlocks _⟩
  case resetPinRelease =>
    refine ⟨_, rfl, ?_⟩
    split
    · exact h.of_same rfl
    · exact h
  case resetEnd => exact ⟨_, rfl, h.endReset⟩
  case encPulse => exact ⟨_, rfl, h.whenRunning h.pulse⟩
  case travelAdvance => exact ⟨_, rfl, h.whenRunning h.advance⟩
  case gateEnd => exact ⟨_, rfl, h.whenRunning h.gateOver⟩
  case eyeRawChange l k covered =>
    refine ⟨_, rfl, ?_⟩
    split_ifs
    · exact h
    · exact h.rawChange l k covered
    · exact h.of_same rfl
  case edgeAccepted l k => exact ⟨_, rfl, h.whenRunning (h.acceptIfDue l k)⟩
  case deadlinePass tag =>
    refine ⟨_, rfl, h.whenRunning ?_⟩
    split
    · exact h.expireFor _ _ _
    · exact h
  case runHoldExpiry st => exact ⟨_, rfl, h.whenRunning (h.of_same (s.signs_testHold st))⟩
  case release l => exact ⟨_, rfl, h.whenRunning (h.of_same (s.signs_testRelease l))⟩
  case pedalEdge st =>
    exact ⟨_, rfl, h.whenRunning
      (h.of_same (State.signs_of_steady (s.steady_pedal st) (s.kept_pedal st)))⟩
  case openTimeExpiry st => exact ⟨_, rfl, h.whenRunning (h.of_same (s.signs_openTimeOver st))⟩
  case dwellExpiry st => exact ⟨_, rfl, h.whenRunning (h.of_same (s.signs_dwellOver st))⟩
  case returnTimeExpiry st => exact ⟨_, rfl, h.whenRunning (h.returnTimeOver st)⟩
  case foldStrobeEnd | foldGapEnd => exact ⟨_, rfl, h.whenRunning (h.of_same rfl)⟩
  case clearEdge l => exact ⟨_, rfl, h.whenRunning (h.clearStack l)⟩
  case stackerTimeout l => exact ⟨_, rfl, h.whenRunning (h.stackerTimedOut l)⟩
  case scorchTimerExpiry => exact ⟨_, rfl, h.whenRunning h.scorchOver⟩
  case estopActivation =>
    have hinput : (s.setEstopInput true).SignsSound := h.of_same rfl
    refine ⟨_, rfl, hinput.whenRunning ?_⟩
    split
    · exact hinput.of_same rfl
    · exact hinput.activateEstop
  case estopInactiveEdge =>
    have hinput : (s.setEstopInput false).SignsSound := h.of_same rfl
    refine ⟨_, rfl, ?_⟩
    split
    · refine hinput.whenRunning ?_
      split
      · exact hinput.of_same rfl
      · exact hinput
    · exact h
  case estopDeactivation =>
    refine ⟨_, rfl, h.whenRunning ?_⟩
    split
    · rw [State.deactivateEstop_eq]
      exact h.of_same rfl
    · exact h
  case linkCharacter bits =>
    refine ⟨_, rfl, ?_⟩
    split
    · exact h.hear bits
    · exact h
  case linkBreak => exact ⟨_, rfl, h.whenRunning h.lineBreak⟩
  case frameGapTimeout => exact ⟨_, rfl, h.whenRunning (h.setReceiver _)⟩
  case lineRestedHigh => exact ⟨_, rfl, h.whenRunning (h.of_same rfl)⟩
  case replyStart => exact ⟨_, rfl, h.whenRunning h.startReply⟩
  case replyEnd => exact ⟨_, rfl, h.whenRunning h.endReply⟩
  case haltAll broadcast =>
    refine ⟨_, rfl, ?_⟩
    split
    · exact h.whenRunning (h.of_same s.signs_haltEvery)
    · exact hreq _
  case unitReset broadcast =>
    refine ⟨_, rfl, ?_⟩
    split
    · exact h.whenRunning (s.signsSound_resetBlocks _)
    · exact hreq _
  all_goals exact ⟨_, rfl, hreq _⟩

/-! ### The clock -/

theorem State.SignsSound.passMs (h : s.SignsSound) : s.passMs.SignsSound := by
  unfold State.passMs
  split <;> exact h.of_same rfl

theorem State.SignsSound.idleStep (h : s.SignsSound) {t : State} (ht : idleStep s = .next t) :
    t.SignsSound := by
  by_cases hdue : s.dueRows = []
  · cases (idleStep_of_none hdue).symm.trans ht
    exact h.passMs
  · obtain ⟨row, -, n, -, hrow⟩ := idleStep_of_due hdue
    have hdrawn : ({ s with freeDraws := n } : State).SignsSound := h.of_same rfl
    obtain ⟨u, hu, hsound⟩ := exec_signsSound hdrawn row
    cases hu.symm.trans (hrow.symm.trans ht)
    exact hsound

end

/-- Settles O55: every command and every millisecond keeps `State.SignsSound`, which is the
statement's three invariants together. -/
theorem everyStepKeepsLinesAlarmsAndReports : Obligations.EveryStepKeepsLinesAlarmsAndReports := by
  unfold Obligations.EveryStepKeepsLinesAlarmsAndReports
  intro s t hlines halarms hreports hstep
  have h : s.SignsSound := ⟨hlines, halarms, hreports⟩
  suffices hsound : t.SignsSound from ⟨hsound.lines, hsound.alarms, hsound.reports⟩
  cases hp : s.pending with
  | nil => exact h.idleStep ((step_of_idle hp).symm.trans hstep)
  | cons c rest =>
    have hrest : ({ s with pending := rest } : State).SignsSound := h.of_same rfl
    obtain ⟨u, hu, hsound⟩ := exec_signsSound hrest c
    rw [step, hp] at hstep
    cases hu.symm.trans hstep
    exact hsound

end Sys2Proof.Machine
end

section
/-!
PROOFS. The scorch guard (R154 to R156), for statement O52: when its condition holds, what an
evaluation makes of the timer, and what the expiry of the running timer is.
-/

namespace Sys2Proof.Machine
variable {s : State}

theorem Record.inZone_iff {r : Record} :
    r.inZone = true ↔ r.le0 ≠ none ∧ (r.nextEye = .e1 ∨ r.nextEye = .e2) := by
  simp [Record.inZone, Option.isSome_iff_ne_none]

theorem State.guardHolds_iff : s.guardHolds = true ↔
    (∃ r ∈ s.records, r.le0 ≠ none ∧ (r.nextEye = .e1 ∨ r.nextEye = .e2)) ∧
      s.speed < s.params.vs := by
  simp only [State.guardHolds, State.zoneOccupied, Bool.and_eq_true, List.any_eq_true,
    Record.inZone_iff, decide_eq_true_eq]

theorem State.evalGuard_of_holds (h : s.guardHolds = true) : s.evalGuard = { s with
    scorch := if s.scorch = .idle then .running (s.params.tsc * 1000) else s.scorch } := by
  rw [State.evalGuard, if_pos h]
  cases s.scorch <;> rfl

theorem State.evalGuard_of_not_holds (h : ¬ s.guardHolds = true) :
    s.evalGuard = { s with scorch := .idle } := by
  rw [State.evalGuard, if_neg h]

theorem State.scorchOver_of_running {ms : Nat} (h : s.scorch = .running ms) :
    s.scorchOver = { s with scorch := .expired }.occur .scorch causeExpired := by
  rw [State.scorchOver, h]

/-- Settles O52: an evaluation by the guard condition as `State.guardHolds_iff` has it; the expiry
of the timer while it runs. -/
theorem theScorchGuardEvaluatesAndExpires : Obligations.TheScorchGuardEvaluatesAndExpires := by
  unfold Obligations.TheScorchGuardEvaluatesAndExpires
  refine fun s => ⟨⟨fun h => State.evalGuard_of_holds (State.guardHolds_iff.mpr h),
    fun h => State.evalGuard_of_not_holds fun hguard => ?_⟩, fun hrun ms hms => ?_⟩
  · obtain ⟨⟨r, hr, hle0, heye⟩, hslow⟩ := State.guardHolds_iff.mp hguard
    rcases h with hfree | hfast
    · rcases hfree r hr with hnone | ⟨h1, h2⟩
      · exact hle0 hnone
      · exact heye.elim h1 h2
    · omega
  · have hrunning : s.whenRunning (fun u => u.scorchOver) = s.scorchOver :=
      if_pos (decide_eq_true hrun)
    exact congrArg Host.Outcome.next (hrunning.trans (State.scorchOver_of_running hms))

end Sys2Proof.Machine
end

section
/-!
PROOFS. Halting (R144, R147), for statement O26: the stations that a lane leaving OPEN disarms, in
any state, and the answers to LANE_CMD that carry nothing out.
-/

namespace Sys2Proof.Machine
variable {s : State}

/-! ### The stations that lose their grant -/

/-- An OPEN lane whose arbiter gave its grant to the station. -/
abbrev State.HeldOpen (s : State) (st : StationNo) (l : LaneNo) : Prop :=
  (s.lane l).state = .opened ∧ (s.lane l).grant = some st

theorem State.station_haltLane (s : State) (l : LaneNo) (st : StationNo) :
    (s.haltLane l).station st =
      if s.HeldOpen st l then (s.station st).disarm else s.station st :=
  s.station_leaveOpen l .halted st

/-- Halting a lane that does not hold the station's grant leaves the lanes that do. -/
theorem State.heldOpen_haltLane {st : StationNo} {l : LaneNo} (h : ¬ s.HeldOpen st l) (m : LaneNo) :
    (s.haltLane l).HeldOpen st m ↔ s.HeldOpen st m := by
  unfold State.HeldOpen State.haltLane
  rw [State.lane_leaveOpen]
  split
  · next hm =>
    obtain ⟨rfl, hopen⟩ := hm
    exact iff_of_false (fun hheld => nomatch hheld.1) h
  · rfl

theorem State.station_haltLanes (st : StationNo) (ls : List LaneNo) (s : State) :
    (forEach (fun l t => State.haltLane t l) ls s).station st =
      if ∃ l ∈ ls, s.HeldOpen st l then (s.station st).disarm else s.station st := by
  induction ls generalizing s with
  | nil => exact (if_neg fun ⟨_, hl, _⟩ => nomatch hl).symm
  | cons l ls ih =>
    rw [forEach_cons, ih, State.station_haltLane]
    by_cases hl : s.HeldOpen st l
    · rw [if_pos hl, Station.disarm_disarm, ite_self, if_pos ⟨l, List.mem_cons_self, hl⟩]
    · simp only [State.heldOpen_haltLane hl, List.exists_mem_cons_iff, hl, false_or, if_false]

/-- Halting every lane disarms the holders of the grants of OPEN lanes, in any state. -/
theorem State.station_haltEvery_of_held (s : State) (st : StationNo) : s.haltEvery.station st =
    if (s.station st).state = .armed ∧ (∃ l, s.HeldOpen st l) then
      { s.station st with state := .loaded }
    else s.station st := by
  have hall := State.station_haltLanes st allFour s
  simp only [mem_allFour, true_and] at hall
  refine hall.trans ?_
  by_cases harmed : (s.station st).state = .armed
  · simp only [Station.disarm, harmed, true_and, if_true]
  · simp only [Station.disarm_of_not_armed harmed, harmed, false_and, if_false, ite_self]

/-! ### The lane that HALT names -/

theorem State.haltLane_of_opened {l : LaneNo} (h : (s.lane l).state = .opened) :
    s.haltLane l = (s.disarmHolder l).setLane l
      { s.lane l with state := .halted, grant := none, releasePoint := none } := by
  rw [State.haltLane, State.leaveOpen_eq h, State.setGrant, State.modLane_modLane,
    State.modLane_eq, State.lane_disarmHolder]

theorem State.disarmHolder_of_armed {l : LaneNo} {st : StationNo}
    (hgrant : (s.lane l).grant = some st) (harmed : (s.station st).state = .armed) :
    s.disarmHolder l = s.setStation st { s.station st with state := .loaded } := by
  rw [State.disarmHolder, hgrant]
  exact congrArg (s.setStation st) (if_pos harmed)

theorem State.disarmHolder_of_free {l : LaneNo}
    (h : ∀ st, (s.lane l).grant = some st → (s.station st).state ≠ .armed) :
    s.disarmHolder l = s := by
  unfold State.disarmHolder
  split
  · next st hgrant =>
    rw [State.modStation_eq, Station.disarm_of_not_armed (h st hgrant), State.setStation_station]
  · rfl

/-! ### The answers to LANE_CMD -/

/-- A request whose operand names something, refused for what it names (R33). -/
theorem State.respond_withOperand_refuse {α : Type} {x : Option α} {a : α} (h : x = some a)
    (code : Byte) {f : α → Answer} {r : Result} (hr : r ≠ .ok) (hf : f a = refuse r s) :
    State.respond code (withOperand x s f) = s.answered code r [] false := by
  rw [withOperand_some s h, hf]
  exact State.respond_refuse s code hr

/-- Settles O26: one lane by its state, with the holder of its grant; every lane by
`State.lane_haltEvery` and `State.station_haltEvery_of_held`. -/
theorem haltTakesLanesOutOfOpen : Obligations.HaltTakesLanesOutOfOpen := by
  unfold Obligations.HaltTakesLanesOutOfOpen
  refine fun s => ⟨fun hready a => ⟨fun ha => next_request hready
      (State.respond_withOperand_none (laneOperand_none ha) _ s _), fun l hl => ?_⟩,
    s.haltEvery, fun hready => next_request hready (State.respond_carryOut _ _ (by decide) false _),
    fun hrun => congrArg Host.Outcome.next (if_pos (decide_eq_true hrun)),
    s.lane_haltEvery, s.station_haltEvery_of_held, ?_⟩
  · have hcarried : ∀ t, (s.lane l).state = .opened → s.haltLane l = t →
        exec (.laneCmdHalt a) s = .next (t.answered 0x22 .ok [] false) := fun t hopen ht =>
      next_request hready (State.respond_withOperand_some (laneOperand_val hl) (by decide)
        (by rw [hopen, ht]))
    refine ⟨fun hhalted => next_request hready (State.respond_withOperand_some
        (laneOperand_val hl) (by decide) (by rw [hhalted])),
      fun hshut => next_request hready (State.respond_withOperand_refuse
        (laneOperand_val hl) _ (by decide) (by rcases hshut with h | h <;> rw [h])),
      fun hopen => ⟨fun st hgrant harmed => hcarried _ hopen ?_,
        fun hfree => hcarried _ hopen ?_⟩⟩
    · rw [State.haltLane_of_opened hopen, State.disarmHolder_of_armed hgrant harmed]
    · rw [State.haltLane_of_opened hopen, State.disarmHolder_of_free hfree]
  · obtain ⟨lanes, stations, hframe⟩ := s.frame_haltEvery
    rw [hframe]

end Sys2Proof.Machine
end

section
/-!
PROOFS. LANE_CMD RESUME (R145), for statement O25: what a lane needs to open, and what the decision
its opening brings makes of the station chosen.
-/

namespace Sys2Proof.Machine
variable {s : State} {l : LaneNo}

/-! ### What a RESUME asks for -/

theorem Geometry.configured_iff {g : Geometry} :
    g.configured = true ↔ g.pos1 ≠ 0 ∧ g.pos2 ≠ 0 ∧ g.pos3 ≠ 0 := by
  simp only [Geometry.configured, Bool.and_eq_true, decide_eq_true_eq, and_assoc]

theorem State.mayResume_iff : s.mayResume l = true ↔
    (∀ src ∈ [Source.wrap l, .jam l, .stray l, .stacker l, .scorch],
      (s.alarms.latches.get src).latched = false) ∧ s.estop = false ∧
    (s.lane l).geometry.pos1 ≠ 0 ∧ (s.lane l).geometry.pos2 ≠ 0 ∧
    (s.lane l).geometry.pos3 ≠ 0 := by
  simp only [State.mayResume, State.isLatched, Bool.and_eq_true, Bool.not_eq_true',
    Geometry.configured_iff, List.forall_mem_cons, List.not_mem_nil, false_imp_iff, implies_true,
    and_true, and_assoc]

theorem State.not_mayResume (h : (∃ src ∈ [Source.wrap l, .jam l, .stray l, .stacker l, .scorch],
      (s.alarms.latches.get src).latched = true) ∨ s.estop = true ∨
    (s.lane l).geometry.pos1 = 0 ∨ (s.lane l).geometry.pos2 = 0 ∨ (s.lane l).geometry.pos3 = 0) :
    s.mayResume l = false := by
  rw [← Bool.not_eq_true, State.mayResume_iff]
  rintro ⟨hclear, hestop, h1, h2, h3⟩
  rcases h with ⟨src, hsrc, hlatched⟩ | h | h | h | h
  · exact Bool.noConfusion ((hclear src hsrc).symm.trans hlatched)
  · exact Bool.noConfusion (hestop.symm.trans h)
  · exact h1 h
  · exact h2 h
  · exact h3 h

/-! ### The station chosen -/

/-- The release test of a station just granted leaves it ARMED, or opens its clamps. -/
theorem State.state_releaseIfMet_granted (s : State) (l : LaneNo) (st : StationNo)
    (p : Option Pos) :
    (((s.granted l st p).releaseIfMet l st).station st).state = .armed ∨
      (((s.granted l st p).releaseIfMet l st).station st).state = .opening := by
  have harmed : ((s.granted l st p).station st).state = .armed := by
    rw [State.station_granted_self]
  unfold State.releaseIfMet State.releaseStep
  split
  · split
    · exact .inr (State.state_releaseOf _ l st _)
    · exact .inl harmed
  · exact .inl harmed

/-- The station a decision is for ends ARMED, or has released at once. -/
theorem State.state_decideGrant_of_decided {st : StationNo} (h : s.decided l = some st) :
    ((s.decideGrant l).station st).state = .armed ∨
      ((s.decideGrant l).station st).state = .opening := by
  obtain ⟨-, -, hopen, -⟩ := State.decided_loaded h
  rw [State.decideGrant_of_decided h, State.testRelease_granted hopen]
  have htested := s.state_releaseIfMet_granted l st (s.workedPoint l st)
  obtain ⟨-, -, hkeep⟩ := State.arbiterOnly_decideGrant
    ((s.granted l st (s.workedPoint l st)).releaseIfMet l st) l
  rw [hkeep st fun ⟨_, hload⟩ => by rcases htested with e | e <;> exact nomatch e.symm.trans hload]
  exact htested

/-! ### The lane that opens -/

/-- The lane in OPEN, before its arbiter decides. -/
def State.opened (s : State) (l : LaneNo) : State := s.setLane l { s.lane l with state := .opened }

theorem State.openLane_eq (s : State) (l : LaneNo) :
    s.openLane l = (s.opened l).decideGrant l := rfl

theorem State.lane_opened (s : State) (l : LaneNo) :
    (s.opened l).lane l = { s.lane l with state := .opened } := State.lane_setLane_self _ _ _

/-- The decision of a lane that opens is its own alone. -/
theorem State.openLane_frame (s : State) (l : LaneNo) :
    ((s.openLane l).lane l).state = .opened ∧ (∀ m, m ≠ l → (s.openLane l).lane m = s.lane m) ∧
      (s.queue l <+: (s.openLane l).queue l) ∧ (s.openLane l).alarms = s.alarms ∧
      (s.openLane l).reports = s.reports ∧
      ∀ st, (s.station st).state ≠ .loaded → (s.openLane l).station st = s.station st := by
  have hsteady := (s.opened l).steady_decideGrant l
  obtain ⟨hother, hqueue, hstations⟩ := (s.opened l).arbiterOnly_decideGrant l
  have hprefix : (s.opened l).queue l = s.queue l := by rw [State.queue, State.lane_opened]; rfl
  rw [State.openLane_eq]
  refine ⟨?_, fun m hm => (hother m hm).trans (State.lane_setLane_ne _ hm _), hprefix ▸ hqueue,
    congrArg Steady.alarms hsteady, congrArg Steady.reports hsteady,
    fun st hst => hstations st fun h => hst h.2⟩
  exact (congrArg LaneSteady.state (State.steady_lane hsteady l)).trans
    (congrArg Lane.state (s.lane_opened l))

/-- Settles O25: the answer by the lane's state and `State.mayResume_iff`; the decision as the
release row of the station chosen, and as the work of one arbiter. -/
theorem resumeOpensAHaltedLane : Obligations.ResumeOpensAHaltedLane := by
  unfold Obligations.ResumeOpensAHaltedLane
  refine fun a s hready => ⟨fun ha => next_request hready
    (State.respond_withOperand_none (laneOperand_none ha) _ s _), fun l hl => ?_⟩
  have hname := laneOperand_val hl
  refine ⟨fun hopen => next_request hready (State.respond_withOperand_some hname (by decide)
      (by rw [hopen])),
    fun hshut => next_request hready (State.respond_withOperand_refuse hname _ (by decide)
      (by rcases hshut with h | h <;> rw [h])),
    fun hhalted => ⟨fun hbar => next_request hready (State.respond_withOperand_refuse hname _
      (by decide) (by rw [hhalted, State.not_mayResume hbar]; rfl)),
      fun hclear hestop h1 h2 h3 => ?_⟩⟩
  have hmay := State.mayResume_iff.mpr ⟨hclear, hestop, h1, h2, h3⟩
  have hexec : exec (.laneCmdResume a) s = .next ((s.openLane l).answered 0x22 .ok [] false) :=
    next_request hready (State.respond_withOperand_some hname (by decide)
      (by rw [hhalted, hmay]; rfl))
  have hopen : ((s.opened l).lane l).state = .opened := congrArg Lane.state (s.lane_opened l)
  have hgrant : ((s.opened l).lane l).grant = (s.lane l).grant := by rw [State.lane_opened]
  obtain ⟨hstate, hother, hqueue, halarms, hreports, hstations⟩ := s.openLane_frame l
  refine ⟨?_, s.openLane l, hexec, hstate, hother, hqueue, halarms, hreports, hstations,
    fun hnone => ?_, fun st hfree hfixed hof hload hfirst => ?_⟩
  · rintro u st rfl hfree hchosen
    exact ⟨_, exec_release_of_chosen (s := s.opened l) hready.1 hopen (hgrant.trans hfree) hchosen,
      hexec⟩
  · exact State.decideGrant_of_none (State.decided_of_noCandidate (s := s.opened l) hnone)
  · exact State.state_decideGrant_of_decided (State.decided_of_chosen (s := s.opened l) hopen
      (hgrant.trans hfree) ⟨hof, hload, .inl ⟨hfixed, hfirst⟩⟩)

end Sys2Proof.Machine
end

section
/-!
PROOFS. The beginning of a plan change (R150 to R152), for statement O19: the branches of
`State.planMoved`, what the end of a change writes in a lane, and the state before the tests.
-/

namespace Sys2Proof.Machine
variable {s : State}

/-! ### The tests of a plan change, branch by branch -/

theorem State.planMoved_of_left (h : s.queueLeft) : s.planMoved = s := by
  rw [← State.planTest_eq_planMoved]
  exact State.planTest_of_undrained (Bool.eq_false_iff.2 fun hd => s.drained_iff.1 hd h)

theorem State.not_queueLeft_of_empty (h : ∀ l, s.queue l = []) : ¬ s.queueLeft :=
  fun ⟨l, _, hne⟩ => hne (h l)

/-- A change in TRACK waits in STACK for a unit of a DRAINING lane that is not EMPTY. -/
theorem State.planMoved_of_unit (hphase : s.phase = .track) (hleft : ¬ s.queueLeft)
    (h : ∃ l : LaneNo, (s.lane l).state = .draining ∧ (s.lane l).stacker.state ≠ .empty) :
    s.planMoved = s.planClosed := by
  rw [← State.planTest_eq_planMoved, State.planTest_of_track hphase hleft, if_pos h]

/-- A change in TRACK with every unit of the DRAINING lanes EMPTY completes. -/
theorem State.planMoved_of_noUnit {pair : PlanPair} (hphase : s.phase = .track)
    (hleft : ¬ s.queueLeft) (hpair : s.planNext = some pair)
    (h : ∀ l : LaneNo, (s.lane l).state = .draining → (s.lane l).stacker.state = .empty) :
    s.planMoved = s.planDone pair := by
  rw [← State.planTest_eq_planMoved, State.planTest_of_track hphase hleft,
    if_neg fun ⟨l, hl, hne⟩ => hne (h l hl), hpair]
  rfl

/-! ### The end of a plan change -/

theorem State.lane_planDone (s : State) (pair : PlanPair) (l : LaneNo) :
    (s.planDone pair).lane l = { s.lane l with
      state := if pair.plan.hasLane l then .halted else .closed,
      order := allFour.filter fun st => pair.map.get st = l } := by
  rw [State.planDone, State.offer_eq]
  fin_cases l <;> rfl

theorem State.alarms_planDone (s : State) (pair : PlanPair) :
    (s.planDone pair).alarms = s.alarms := by
  rw [State.planDone, State.offer_eq]

/-! ### The state in which the tests are made -/

theorem State.frame_changing (s : State) (pair : PlanPair) : s.changing pair =
    { s with planNext := some pair, phase := .track, lanes := (s.changing pair).lanes,
             stations := (s.changing pair).stations } := by
  obtain ⟨lanes, stations, h⟩ := s.frame_haltEvery
  rw [State.changing, h]
  rfl

/-- What the beginning of a change leaves besides lanes and stations. -/
theorem State.kept_changing (s : State) (pair : PlanPair) :
    (s.changing pair).planNow = s.planNow ∧ (s.changing pair).reports = s.reports ∧
      (s.changing pair).alarms = s.alarms ∧ (s.changing pair).estop = s.estop ∧
      (s.changing pair).params = s.params := by
  rw [State.frame_changing]
  exact ⟨rfl, rfl, rfl, rfl, rfl⟩

theorem State.lane_mapLanes_changed (t : State) (f : Lane → Lane) (pair : PlanPair) (l : LaneNo) :
    ({ ({ t with planNext := some pair } : State).mapLanes f with
      phase := .track } : State).lane l = f (t.lane l) := State.lane_mapLanes t f l

theorem State.lane_changing (s : State) (pair : PlanPair) (l : LaneNo) :
    (s.changing pair).lane l =
      if (s.lane l).state = .opened then
        { s.lane l with state := .draining, grant := none, releasePoint := none }
      else if (s.lane l).state = .halted then { s.lane l with state := .draining }
      else s.lane l := by
  rw [State.changing, State.lane_mapLanes_changed, State.lane_haltEvery]
  split
  · rfl
  · rfl

/-- A lane that a plan change drains: its state and, in OPEN, its grant and release point alone. -/
theorem State.lane_changing_frame (s : State) (pair : PlanPair) (l : LaneNo) :
    ((s.changing pair).lane l).state =
        (if (s.lane l).state = .closed then LaneState.closed else .draining) ∧
      (s.changing pair).queue l = s.queue l ∧
      ((s.changing pair).lane l).folder = (s.lane l).folder ∧
      ((s.changing pair).lane l).stacker = (s.lane l).stacker ∧
      ((s.lane l).state = .opened →
        ((s.changing pair).lane l).grant = none ∧
        ((s.changing pair).lane l).releasePoint = none) := by
  rw [State.queue, State.lane_changing]
  cases h : (s.lane l).state
  case opened => exact ⟨rfl, rfl, rfl, rfl, fun _ => ⟨rfl, rfl⟩⟩
  case halted => exact ⟨rfl, rfl, rfl, rfl, fun hopen => nomatch hopen⟩
  case closed | draining => exact ⟨h, rfl, rfl, rfl, fun hopen => nomatch hopen⟩

theorem State.station_mapLanes_changed (t : State) (f : Lane → Lane) (pair : PlanPair)
    (st : StationNo) : ({ ({ t with planNext := some pair } : State).mapLanes f with
      phase := .track } : State).station st = t.station st := rfl

theorem State.station_changing (s : State) (pair : PlanPair) (st : StationNo) :
    (s.changing pair).station st = if (s.station st).state = .armed ∧ (∃ l, s.HeldOpen st l) then
      { s.station st with state := .loaded }
    else s.station st := by
  rw [State.changing, State.station_mapLanes_changed, State.station_haltEvery_of_held]

/-- A lane at work drains. -/
theorem State.draining_changing (pair : PlanPair) {l : LaneNo}
    (h : (s.lane l).state = .opened ∨ (s.lane l).state = .halted) :
    ((s.changing pair).lane l).state = .draining := by
  obtain ⟨hstate, -⟩ := s.lane_changing_frame pair l
  rw [hstate, if_neg]
  rcases h with e | e <;> rw [e] <;> decide

/-- The queues are those before the change. -/
theorem State.queue_changing (s : State) (pair : PlanPair) (l : LaneNo) :
    (s.changing pair).queue l = s.queue l := by
  obtain ⟨-, hqueue, -⟩ := s.lane_changing_frame pair l
  exact hqueue

theorem State.stacker_changing (s : State) (pair : PlanPair) (l : LaneNo) :
    ((s.changing pair).lane l).stacker = (s.lane l).stacker := by
  obtain ⟨-, -, -, hstacker, -⟩ := s.lane_changing_frame pair l
  exact hstacker

theorem exec_planSet_begins {o : PlanOperands} {pair : PlanPair} (hready : s.Ready)
    (hpair : planOperands o = some pair) (hfit : s.slotsFit pair.plan = true)
    (hphase : s.phase = .noChange) (hne : pair ≠ s.planNow) :
    exec (.planSet o) s = .next ((s.changing pair).planMoved.answered 0x14 .ok [] false) := by
  rw [exec_planSet_tested hready hpair hfit, answerPlanTested_noChange hphase, if_neg hne,
    State.beginChange_eq, State.planTest_eq_planMoved]
  exact congrArg Host.Outcome.next (State.respond_carryOut _ _ (by decide) false _)

/-- Settles O19: the change begins in `State.changing`, and each case is a branch of
`State.planMoved` from there. -/
theorem planSetBeginsAPlanChange : Obligations.PlanSetBeginsAPlanChange := by
  unfold Obligations.PlanSetBeginsAPlanChange
  intro o pair s hready hpair hphase hne hfits
  have hexec := exec_planSet_begins hready hpair ((s.slotsFit_iff _).2 hfits) hphase hne
  obtain ⟨hnow, hreports, halarms, hestop, hparams⟩ := s.kept_changing pair
  have htrack : (s.changing pair).phase = .track := rfl
  have hnext : (s.changing pair).planNext = some pair := rfl
  refine ⟨fun ⟨l, hwork, hq⟩ => ⟨_, hexec, ?_⟩, fun hempty => ⟨_, hexec, ?_⟩,
    fun hqueues l p hwork hp => ⟨_, hexec, ?_⟩,
    _, s.frame_changing pair, s.lane_changing pair, s.station_changing pair, hexec⟩
  · rw [State.planMoved_of_left ⟨l, State.draining_changing pair hwork,
      by rw [State.queue_changing]; exact hq⟩]
    refine ⟨htrack, hnext, hnow, fun m st hopen hgrant harmed => ?_,
      s.lane_changing_frame pair, fun st => ?_, hreports, halarms⟩
    · rw [State.station_changing, if_pos ⟨harmed, m, hopen, hgrant⟩]
    · rw [State.station_changing]
      split
      · next h => exact ⟨rfl, fun hn => absurd h.1 hn⟩
      · exact ⟨rfl, fun _ => rfl⟩
  · have hleft : ¬ (s.changing pair).queueLeft := State.not_queueLeft_of_empty fun l => by
      rw [State.queue_changing]
      exact (hempty l).1
    rw [State.planMoved_of_noUnit htrack hleft hnext fun l _ => by
      rw [State.stacker_changing]
      exact (hempty l).2]
    obtain ⟨hp, hto, hnone, -, hoffered⟩ := (s.changing pair).planDone_frame pair
    refine ⟨hp, hnone, hto, fun l => ?_, fun hroom => ?_,
      (State.alarms_planDone _ _).trans halarms⟩
    · rw [State.lane_planDone]
      refine ⟨?_, rfl⟩
      exact ite_congr (propext (PlanCode.hasLane_iff _ _)) (fun _ => rfl) (fun _ => rfl)
    · rw [hoffered, hreports]
      exact Reports.queue_offered_of_room hroom _
  · have hleft : ¬ (s.changing pair).queueLeft := State.not_queueLeft_of_empty fun l => by
      rw [State.queue_changing]
      exact hqueues l
    have hdraining := State.draining_changing pair hwork
    have hbuilding : ((s.changing pair).lane l).stacker.state = .building p := by
      rw [State.stacker_changing, hp]
    rw [State.planMoved_of_unit htrack hleft ⟨l, hdraining, by rw [hbuilding]; exact nofun⟩]
    refine ⟨rfl, hnext, hnow, ?_⟩
    rw [State.lane_planClosed, Lane.askedBy_building hdraining hbuilding, State.stacker_changing,
      hestop, hparams]

end Sys2Proof.Machine
end

section
/-!
PROOFS. Statement O43: the retirement of the last record of the draining lanes, and the plan change
it moves on (R119, R151, R152).
-/

namespace Sys2Proof.Machine
variable {s v : State} {l : LaneNo} {r : Record} {o : DoneOutcome} {z' : Stacker}

/-! ### An occurrence of STACKER (R146, R161) -/

theorem State.alarms_occur_stacker (s : State) (l : LaneNo) (c : Nat) :
    (s.occur (.stacker l) c).alarms = { s.alarms with
      latches := s.alarms.latches.set (.stacker l)
        ((s.alarms.latches.get (.stacker l)).occur c) }.applyRule := by
  obtain ⟨lanes, stations, h⟩ := (s.latched (.stacker l) c).frame_leaveOpen l .halted
  rw [State.occur_eq]
  change (((s.latched (.stacker l) c).leaveOpen l .halted).applyAlarmRule).alarms = _
  rw [h]
  rfl

/-- A lane that is not OPEN stays as it is. -/
theorem State.occur_stacker_of_shut (h : (s.lane l).state ≠ .opened) (c : Nat) :
    s.occur (.stacker l) c = { s with
      alarms := (s.occur (.stacker l) c).alarms, attn := (s.occur (.stacker l) c).attn } := by
  have hhalt : (s.latched (.stacker l) c).haltFor (.stacker l) = s.latched (.stacker l) c :=
    State.leaveOpen_of_shut (by rw [State.lane_latched]; exact h) _
  rw [State.occur_eq, hhalt]
  rfl

theorem State.handedOver_of_shut (h : (s.lane l).state ≠ .opened) (o : DoneOutcome) :
    s.handedOver l o = { s with
      alarms := (s.handedOver l o).alarms, attn := (s.handedOver l o).attn } := by
  unfold State.handedOver
  split
  · exact State.occur_stacker_of_shut h 1
  · rfl

/-! ### The record retired from a draining lane -/

/-- What the retirement of the last record of the draining lanes makes, before the tests of the plan
change. -/
structure State.LastRetired (s v : State) (l : LaneNo) (r : Record) (o : DoneOutcome)
    (z' : Stacker) : Prop where
  phase : v.phase = s.phase
  planNow : v.planNow = s.planNow
  planNext : v.planNext = s.planNext
  kept : v.kept = s.kept
  stations : v.stations = s.stations
  alarms : v.alarms = if o = .unstacked then (s.occur (.stacker l) 1).alarms else s.alarms
  reports : v.reports = s.reports.offered (r.doneReport l o)
  state : ∀ m, (v.lane m).state = (s.lane m).state
  queue : ∀ m, (s.lane m).state = .draining → v.queue m = []
  stackerSelf : (v.lane l).stacker = z'
  stackerOther : ∀ m, m ≠ l → (v.lane m).stacker = (s.lane m).stacker

/-- A record alone in the draining lanes leaves their queues empty. -/
theorem State.queue_retired_last (h : s.PoolSound) (hr : r ∈ s.queue l)
    (hlast : ∀ m, (s.lane m).state = .draining → ∀ y ∈ s.queue m, y.tag = r.tag) (m : LaneNo)
    (hm : (s.lane m).state = .draining) : (s.retired l r o z').queue m = [] := by
  obtain ⟨-, htags, -⟩ := h
  by_cases e : m = l
  · subst e
    obtain ⟨hqueue, -⟩ := s.lane_retired_self m r o z'
    rw [hqueue, List.filter_eq_nil_iff]
    exact fun y hy => by simp [hlast m hm y hy]
  · rw [State.queue, State.lane_retired_ne e]
    exact List.eq_nil_iff_forall_not_mem.2 fun y hy =>
      e (State.lane_unique htags hr hy (hlast m hm y hy))

theorem State.lastRetired_retired (h : s.PoolSound) (hr : r ∈ s.queue l)
    (hd : (s.lane l).state = .draining)
    (hlast : ∀ m, (s.lane m).state = .draining → ∀ y ∈ s.queue m, y.tag = r.tag) :
    s.LastRetired (s.retired l r o z') l r o z' := by
  obtain ⟨u, hu⟩ : ∃ u, u = (s.setQueue l ((s.queue l).filter fun y =>
      decide (y.tag ≠ r.tag))).modStacker l fun _ => z' := ⟨_, rfl⟩
  have hframe : u = { s with lanes := u.lanes } := by rw [hu]; rfl
  have hshut : (u.lane l).state ≠ .opened := by
    rw [hu, State.lane_modStacker, if_pos rfl, State.lane_setQueue_self]
    exact fun hopen => LaneState.noConfusion (hd.symm.trans hopen)
  have hretired : s.retired l r o z' = { s with
      lanes := u.lanes, alarms := (u.handedOver l o).alarms,
      reports := s.reports.offered (r.doneReport l o),
      attn := (s.retired l r o z').attn } := by
    rw [State.retired, ← hu, State.handedOver_of_shut hshut, State.offer_eq, hframe]
  obtain ⟨-, -, hstacker, hdraining⟩ := s.lane_retired_self l r o z'
  obtain ⟨hphase, hnow⟩ := s.plan_retired l r o z'
  refine ⟨hphase, hnow, ?_, s.kept_retired l r o z', ?_, ?_, ?_, fun m => ?_,
    State.queue_retired_last h hr hlast, hstacker, fun m hm => ?_⟩
  · rw [hretired]
  · rw [hretired]
  · rw [hretired]
    change (u.handedOver l o).alarms = _
    unfold State.handedOver
    split
    · rw [State.alarms_occur_stacker, State.alarms_occur_stacker, hframe]
    · rw [hframe]
  · rw [hretired]
  · by_cases e : m = l
    · rw [e, hdraining hd, hd]
    · rw [State.lane_retired_ne e]
  · rw [State.lane_retired_ne hm]

/-- The eye's acceptance before the retirement changes nothing of this. -/
theorem State.LastRetired.of_setEye {k : EyeNo} {y : Eye}
    (h : (s.setEye l k y).LastRetired v l r o z') : s.LastRetired v l r o z' := by
  have hlane := fun m => s.lane_setEye_frame l m k y
  obtain ⟨hphase, hnow, hnext, hkept, hstations, halarms, hreports, hstate, hqueue, hself,
    hother⟩ := h
  refine ⟨hphase, hnow, hnext, hkept, hstations, ?_, hreports, fun m => ?_, fun m hm => ?_, hself,
    fun m hm => ?_⟩
  · rw [halarms, State.alarms_occur_stacker, State.alarms_occur_stacker]
    rfl
  · obtain ⟨hs, -⟩ := hlane m
    rw [hstate, hs]
  · obtain ⟨hs, -⟩ := hlane m
    exact hqueue m (hs.trans hm)
  · obtain ⟨-, -, -, hs⟩ := hlane m
    rw [hother m hm, hs]

/-- The evaluation of the scorch guard after it changes nothing of this either. -/
theorem State.LastRetired.evalGuard (h : s.LastRetired v l r o z') :
    s.LastRetired v.evalGuard l r o z' :=
  ⟨h.phase, h.planNow, h.planNext, v.kept_evalGuard.trans h.kept, h.stations, h.alarms, h.reports,
    h.state, h.queue, h.stackerSelf, h.stackerOther⟩

theorem exec_edgeAccepted_of_last {x : Pos} (hrun : s.resetPhase = .running) (h : s.PoolSound)
    (hd : (s.lane l).state = .draining) (hraw : (s.eye l 3).raw = false)
    (hx : (s.eye l 3).pending = some x) (hdue : s.Due x) (hfirst : s.candidate l .clear = some r)
    (hlast : ∀ m, (s.lane m).state = .draining → ∀ y ∈ s.queue m, y.tag = r.tag)
    (hphase : r.cause = none → s.phase ≠ .stack) (hz : s.Stacks (s.lane l).stacker r o z') :
    ∃ v, s.LastRetired v l r o z' ∧ exec (.edgeAccepted l 3) s = .next v.planMoved := by
  obtain ⟨e, he⟩ : ∃ e, e = s.setEye l 3 ⟨false, false, none⟩ := ⟨_, rfl⟩
  have hqueue : ∀ m, e.queue m = s.queue m := fun m => he ▸ s.queue_setEye l m 3 _
  have hstate : ∀ m, (e.lane m).state = (s.lane m).state := fun m => by
    obtain ⟨hs, -⟩ := s.lane_setEye_frame l m 3 ⟨false, false, none⟩
    rw [he, hs]
  have hstacker : (e.lane l).stacker = (s.lane l).stacker := by
    rw [he, State.lane_setEye_self]
  have hpe : e.PoolSound := he ▸ h.setEye l 3 _
  have hcand : e.candidate l .clear = some r := by
    rw [State.candidate, hqueue]
    exact hfirst
  obtain ⟨hr, -⟩ := State.candidate_some hcand
  have hze : e.Stacks (e.lane l).stacker r o z' := by
    rw [hstacker, he]
    exact hz
  have hretired := State.lastRetired_retired (o := o) (z' := z') hpe hr ((hstate l).trans hd)
    fun m hm y hy => hlast m ((hstate m).symm.trans hm) y (hqueue m ▸ hy)
  have hunarmed : (e.retired l r o z').armedStation l = none :=
    State.armedStation_of_shut fun hopen =>
      LaneState.noConfusion (hopen.symm.trans ((hretired.state l).trans ((hstate l).trans hd)))
  refine ⟨_, (he ▸ hretired.evalGuard).of_setEye, ?_⟩
  rw [exec_edgeAccepted_of_due hrun (by rw [hd]; decide) hraw hx hdue, ← he]
  change Host.Outcome.next (e.stackTrailing l) = _
  rw [State.stackTrailing, hcand]
  change Host.Outcome.next (e.retire l r) = _
  rw [State.retire_eq hpe hr (by rw [he]; exact hphase) hze, State.work_of_unarmed hunarmed,
    State.planTest_eq_planMoved]

/-! ### The plan change that follows -/

theorem State.LastRetired.not_queueLeft (h : s.LastRetired v l r o z') : ¬ v.queueLeft :=
  fun ⟨m, hm, hne⟩ => hne (h.queue m ((h.state m).symm.trans hm))

/-- A change in STACK with no unit of the DRAINING lanes DISCHARGING completes. -/
theorem State.planMoved_of_gone {pair : PlanPair} (hphase : s.phase = .stack)
    (hleft : ¬ s.queueLeft) (hpair : s.planNext = some pair)
    (h : ∀ m : LaneNo, (s.lane m).state = .draining →
      (s.lane m).stacker.state.isDischarging = false) : s.planMoved = s.planDone pair := by
  rw [State.planMoved, hphase]
  refine (if_neg ?_).trans (by rw [hpair]; rfl)
  rintro (hq | ⟨m, hm, hdis⟩)
  · exact hleft hq
  · exact Bool.false_ne_true ((h m hm).symm.trans hdis)

theorem State.stations_planDone (s : State) (pair : PlanPair) :
    (s.planDone pair).stations = s.stations := by
  rw [State.planDone, State.offer_eq]

theorem State.kept_planDone (s : State) (pair : PlanPair) : (s.planDone pair).kept = s.kept := by
  rw [State.planDone, State.kept_offer]
  rfl

theorem State.queue_planDone (s : State) (pair : PlanPair) (m : LaneNo) :
    (s.planDone pair).queue m = s.queue m := by
  rw [State.queue, State.lane_planDone]
  rfl

/-- A rejected piece leaves every unit in its state. -/
theorem State.LastRetired.stackerState (h : s.LastRetired v l r o z')
    (hz : s.Stacks (s.lane l).stacker r o z') (hc : r.cause ≠ none) (m : LaneNo) :
    (v.lane m).stacker.state = (s.lane m).stacker.state := by
  by_cases e : m = l
  · rw [e, h.stackerSelf, hz.state_of_rejected hc]
  · rw [h.stackerOther m e]

/-- A good piece leaves its unit with a stack. -/
theorem State.Stacks.not_empty_of_good {z : Stacker} (h : s.Stacks z r o z') (hc : r.cause = none) :
    z'.state ≠ .empty := by
  unfold State.Stacks at h
  rw [hc] at h
  rcases hs : z.state with _ | p | ⟨out, _ | q⟩ <;> rw [hs] at h <;> obtain ⟨-, rfl⟩ := h
  case empty => split <;> exact nofun
  case building => split_ifs <;> exact nofun
  case none => exact nofun
  case some => rw [hs]; exact nofun

theorem State.stacks_rejected {c : RejectCause} (hc : r.cause = some c) (z : Stacker) :
    s.Stacks z r .rejected { z with tally := min (z.tally + 1) 65535 } := by
  unfold State.Stacks
  rw [hc]
  exact ⟨rfl, rfl⟩

/-- With no unit to wait for, the retirement brings the end of the change (R152). -/
theorem State.LastRetired.planMoved_of_ends {pair : PlanPair} (h : s.LastRetired v l r o z')
    (hunits : ∀ m, (v.lane m).stacker.state = (s.lane m).stacker.state)
    (hnext : s.planNext = some pair)
    (hends : (s.phase = .track ∧
        ∀ m, (s.lane m).state = .draining → (s.lane m).stacker.state = .empty) ∨
      (s.phase = .stack ∧
        ∀ m, (s.lane m).state = .draining → (s.lane m).stacker.state.isDischarging = false)) :
    v.planMoved = v.planDone pair := by
  rcases hends with ⟨htrack, hempty⟩ | ⟨hstack, hgone⟩
  · refine State.planMoved_of_noUnit (h.phase.trans htrack) h.not_queueLeft (h.planNext.trans hnext)
      fun m hm => ?_
    rw [hunits]
    exact hempty m ((h.state m).symm.trans hm)
  · refine State.planMoved_of_gone (h.phase.trans hstack) h.not_queueLeft (h.planNext.trans hnext)
      fun m hm => ?_
    rw [hunits]
    exact hgone m ((h.state m).symm.trans hm)

theorem Reports.queue_offered_twice {x : Reports} (h : x.queue.length < 31) (a b : Report) :
    ((x.offered a).offered b).queue = x.queue ++ [a, b] := by
  have hfirst := Reports.queue_offered_of_room (x := x) (by omega) a
  rw [Reports.queue_offered_of_room, hfirst, List.append_assoc]
  · rfl
  · rw [hfirst, List.length_append, List.length_singleton]
    omega

/-- A unit of a draining lane that the plan change closes: a stack that is BUILDING discharges. -/
def Stacker.closed (z : Stacker) (e : Bool) (ts : Nat) : Stacker :=
  match z.state with
  | .building p => z.dischargePile p .plan none e ts
  | _ => z

theorem Lane.stacker_askedBy {ln : Lane} (h : ln.state = .draining) (e : Bool) (n : Nat) :
    (ln.askedBy e n).stacker = ln.stacker.closed e n := by
  unfold Stacker.closed
  rcases hs : ln.stacker.state with _ | p | ⟨out, q⟩
  · rw [Lane.askedBy_other fun _ p hp => StackState.noConfusion (hs.symm.trans hp)]
  · rw [Lane.askedBy_building h hs]
  · rw [Lane.askedBy_other fun _ p hp => StackState.noConfusion (hs.symm.trans hp)]

/-- Settles O43: the record retired as `State.LastRetired`, then a branch of `State.planMoved`. -/
theorem theLastRetirementEndsATrackPhase : Obligations.TheLastRetirementEndsATrackPhase := by
  unfold Obligations.TheLastRetirementEndsATrackPhase
  intro l x r pair s hrun hpool hd hraw hx hdue hfirst hnext hlast
  have hretires := fun (o : DoneOutcome) (z' : Stacker) =>
    exec_edgeAccepted_of_last (o := o) (z' := z') hrun hpool hd hraw hx hdue hfirst hlast
  refine ⟨fun c hc hends => ?_, fun hc htrack ⟨m, p, hm, hp⟩ => ?_, fun hgood htrack o z' hz => ?_⟩
  · have hz := s.stacks_rejected hc (s.lane l).stacker
    have hbad : r.cause ≠ none := Option.ne_none_iff_exists'.2 ⟨c, hc⟩
    obtain ⟨v, hv, hexec⟩ := hretires _ _ (fun hnone => absurd hnone hbad) hz
    have hdone := hv.planMoved_of_ends (hv.stackerState hz hbad) hnext hends
    obtain ⟨hphase, hnow, hnone, -, hreports⟩ := v.planDone_frame pair
    have hkept := (v.kept_planDone pair).trans hv.kept
    refine ⟨_, hdone ▸ hexec, hphase, hnone, hnow, (v.queue_planDone pair l).trans (hv.queue l hd),
      fun m => ?_, fun hroom => ?_, (v.stations_planDone pair).trans hv.stations,
      (v.alarms_planDone pair).trans (hv.alarms.trans (if_neg nofun)),
      congrArg Kept.classes hkept, congrArg Kept.params hkept⟩
    · rw [State.lane_planDone]
      exact ⟨ite_congr (propext (PlanCode.hasLane_iff _ _)) (fun _ => rfl) (fun _ => rfl), rfl⟩
    · rw [hreports, hv.reports, Reports.queue_offered_twice hroom, Record.doneReport, hc]
  · obtain ⟨c, hc⟩ := Option.ne_none_iff_exists'.1 hc
    have hz := s.stacks_rejected hc (s.lane l).stacker
    have hbad : r.cause ≠ none := Option.ne_none_iff_exists'.2 ⟨c, hc⟩
    obtain ⟨v, hv, hexec⟩ := hretires _ _ (fun hnone => absurd hnone hbad) hz
    have hclosed : v.planMoved = v.planClosed :=
      State.planMoved_of_unit (hv.phase.trans htrack) hv.not_queueLeft
        ⟨m, (hv.state m).trans hm, by rw [hv.stackerState hz hbad, hp]; exact nofun⟩
    refine ⟨v.planClosed, hclosed ▸ hexec, rfl, hv.planNext.trans hnext, hv.planNow,
      fun k q hk hq => ?_, fun k => (v.state_planClosed k).trans (hv.state k), hv.stations,
      hv.alarms.trans (if_neg nofun)⟩
    have hbuilding : (v.lane k).stacker.state = .building q :=
      (hv.stackerState hz hbad k).trans hq
    rw [State.lane_planClosed, Lane.askedBy_building ((hv.state k).trans hk) hbuilding]
    rfl
  · obtain ⟨v, hv, hexec⟩ := hretires o z' (fun _ hstack => PlanPhase.noConfusion
      (htrack.symm.trans hstack)) hz
    have hkept := hv.kept
    have hestop : v.estop = s.estop := congrArg Kept.estop hkept
    have hparams : v.params = s.params := congrArg Kept.params hkept
    have hdraining : (v.lane l).state = .draining := (hv.state l).trans hd
    have hclosed : v.planMoved = v.planClosed :=
      State.planMoved_of_unit (hv.phase.trans htrack) hv.not_queueLeft
        ⟨l, hdraining, hv.stackerSelf ▸ hz.not_empty_of_good hgood⟩
    refine ⟨v.planClosed, hclosed ▸ hexec, rfl, hv.planNext.trans hnext, hv.planNow,
      (v.queue_planClosed l).trans (hv.queue l hd), ?_, fun m p hm hstate hp => ?_, fun hroom => ?_,
      fun m => (v.state_planClosed m).trans (hv.state m), hv.stations, hv.alarms⟩
    · rw [State.lane_planClosed, Lane.stacker_askedBy hdraining, hv.stackerSelf, hestop, hparams]
      rfl
    · have hother := hv.stackerOther m hm
      rw [State.lane_planClosed, Lane.askedBy_building ((hv.state m).trans hstate)
        (hother ▸ hp), hother, hestop, hparams]
    · change v.reports.queue = _
      rw [hv.reports, Reports.queue_offered_of_room hroom, Record.doneReport, hgood]

end Sys2Proof.Machine
end

section
/-!
PROOFS. LANE_CMD PURGE in a lane that is not OPEN (R148), for statement O27: what the loss of a
purged record makes in any state, and what the whole purge leaves of the lane.
-/

namespace Sys2Proof.Machine
variable {s : State} {l : LaneNo} {r : Record}

/-! ### A lane that is not OPEN takes no record -/

theorem State.queue_decideGrant_of_shut (h : (s.lane l).state ≠ .opened) (m : LaneNo) :
    (s.decideGrant m).queue l = s.queue l := by
  by_cases e : l = m
  · rw [← e, State.decideGrant_of_none (State.decided_of_shut h)]
  · obtain ⟨hother, -⟩ := s.arbiterOnly_decideGrant m
    rw [State.queue, hother l e]
    rfl

theorem State.queue_giveBack_of_shut (h : (s.lane l).state ≠ .opened) (st : StationNo) :
    (s.giveBack st).queue l = s.queue l := by
  obtain ⟨hstate, -, hqueue, -⟩ := s.lane_setGrant_frame (s.laneOf st) l none
  unfold State.giveBack
  split
  · exact (State.queue_decideGrant_of_shut (s := s.setGrant (s.laneOf st) none)
      (by rw [hstate]; exact h) _).trans hqueue
  · rfl

theorem State.queue_completeBatch_of_shut (h : (s.lane l).state ≠ .opened) (st : StationNo)
    (c : Bool) : (s.completeBatch st c).queue l = s.queue l := by
  have hpromoted : ∀ x : Report,
      (((s.offer x).modStation st Station.promote).giveBack st).queue l = s.queue l := fun x => by
    rw [State.queue_giveBack_of_shut]
    · exact s.queue_offer x l
    · change ((s.offer x).lane l).state ≠ .opened
      rw [State.lane_offer]
      exact h
  unfold State.completeBatch
  split
  · rfl
  · exact hpromoted _

/-- The notice of a purged record restores no piece (R48), so a station in FINISHING can only end
its batch at it. -/
theorem State.queue_noticeOf_purge (h : (s.lane l).state ≠ .opened) (r : Record) :
    (s.noticeOf r .purge).queue l = s.queue l := by
  unfold State.noticeOf State.notice
  split
  · split
    · rw [Station.restores_of_other (by decide), if_neg Bool.false_ne_true]
      split
      · exact State.queue_completeBatch_of_shut (s := s.modStation _ _) h _ false
      · rfl
    · rfl
  · rfl

/-! ### The loss of a purged record -/

/-- The lane has no ARMED station to work for, and no occurrence comes of the loss (R90, R91). -/
theorem State.loseRecord_purged (h : (s.lane l).state ≠ .opened) (r : Record) :
    s.loseRecord l r .purged = (((s.dropRecord l r.tag).noticeOf r .purge).offer
      (r.lostReport l .purged)).evalGuard := by
  have hshut : ((((s.dropRecord l r.tag).noticeOf r .purge).offer
      (r.lostReport l .purged)).lane l).state ≠ .opened := by
    have hstate := congrArg LaneSteady.state
      (State.lane_of_fixed ((s.dropRecord l r.tag).fixed_noticeOf r .purge) l)
    have hdropped : ((s.dropRecord l r.tag).lane l).state = (s.lane l).state := by
      rw [State.dropRecord, State.lane_setQueue_self]
    rw [State.lane_offer]
    exact fun hopen => h (hdropped.symm.trans (hstate.symm.trans hopen))
  exact congrArg State.evalGuard (State.work_of_unarmed (State.armedStation_of_shut hshut))

/-! ### The whole purge, in any state -/

/-- What purging leaves of its lane and of the rest, with some records still to be lost. -/
structure State.Purging (s : State) (l : LaneNo) (left : List Record) (t : State) : Prop where
  queue : t.queue l = left
  lane : (t.lane l).steady = (s.lane l).steady
  alarms : t.alarms = s.alarms
  phase : t.phase = s.phase

theorem State.dropRecord_head {rest : List Record} (h : s.queue l = r :: rest) :
    s.dropRecord l r.tag = s.setQueue l rest := by
  simp [State.dropRecord, h]

theorem State.Purging.loseRecord {t : State} {left : List Record} (hs : (s.lane l).state ≠ .opened)
    (h : s.Purging l (r :: left) t) : s.Purging l left (t.loseRecord l r .purged) := by
  obtain ⟨hqueue, hlane, halarms, hphase⟩ := h
  have hshut : (t.lane l).state ≠ .opened := fun hopen =>
    hs ((congrArg LaneSteady.state hlane).symm.trans hopen)
  have hdropped := State.dropRecord_head hqueue
  have hself := t.lane_setQueue_self l left
  have hstill : ((t.setQueue l left).lane l).state ≠ .opened := by rw [hself]; exact hshut
  obtain ⟨u, hu⟩ : ∃ u, u = (t.setQueue l left).noticeOf r .purge := ⟨_, rfl⟩
  have hfixed : u.fixed = (t.setQueue l left).fixed := hu ▸ State.fixed_noticeOf _ r .purge
  rw [State.loseRecord_purged hshut, hdropped, ← hu]
  refine ⟨?_, ?_, ?_, ?_⟩
  · rw [State.queue, State.lane_evalGuard]
    rw [← State.queue, State.queue_offer, hu, State.queue_noticeOf_purge hstill,
      State.queue, hself]
  · rw [State.lane_evalGuard, State.lane_offer, State.lane_of_fixed hfixed, hself]
    exact hlane
  · rw [State.evalGuard_alarms, State.offer_eq, ← halarms, hu]
    exact congrArg Lines.alarms (State.lines_noticeOf (t.setQueue l left) r .purge)
  · rw [State.evalGuard_phase, State.offer_eq, ← hphase]
    exact congrArg Fixed.phase hfixed

/-- Record by record, head to tail, the queue empties. -/
theorem State.purging_purgeEach (h : (s.lane l).state ≠ .opened) :
    s.Purging l [] (forEach (fun r t => t.loseRecord l r .purged) (s.queue l) s) :=
  forEach_ends (fun _ _ _ ht => ht.loseRecord h) (s.queue l) s ⟨rfl, rfl, rfl, rfl⟩

/-- The tests of a plan change write neither eyes nor fold interfaces. -/
theorem State.lane_planMoved_frame (s : State) (l : LaneNo) :
    (s.planMoved.lane l).folder = (s.lane l).folder ∧
      (s.planMoved.lane l).eyes = (s.lane l).eyes := by
  rcases s.planMoved_cases with e | e | ⟨pair, e⟩ <;> rw [e]
  · exact ⟨rfl, rfl⟩
  · rw [State.lane_planClosed, Lane.askedBy]
    split <;> exact ⟨rfl, rfl⟩
  · rw [State.lane_planDone]
    exact ⟨rfl, rfl⟩

theorem State.planMoved_of_noChange (h : s.phase = .noChange) : s.planMoved = s := by
  rw [State.planMoved, h]

theorem State.lane_emptyFolder (s : State) (l : LaneNo) :
    (s.emptyFolder l).lane l = { s.lane l with folder := .atReset } := by
  rw [State.emptyFolder, State.modFolder, State.lane_modLane, if_pos rfl]

/-- What a purge leaves in every case. -/
theorem State.purgeLane_frame (h : (s.lane l).state ≠ .opened) :
    (s.purgeLane l).queue l = [] ∧ ((s.purgeLane l).lane l).folder = .atReset ∧
      ((s.purgeLane l).lane l).eyes = (s.lane l).eyes ∧ (s.purgeLane l).alarms = s.alarms ∧
      (s.purgeLane l).params = s.params ∧
      (s.phase = .noChange → ((s.purgeLane l).lane l).state = (s.lane l).state ∧
        ((s.purgeLane l).lane l).stacker = (s.lane l).stacker) := by
  have hkept := s.kept_purgeLane l
  obtain ⟨u, hu⟩ : ∃ u, u = forEach (fun r t => State.loseRecord t l r .purged) (s.queue l) s :=
    ⟨_, rfl⟩
  obtain ⟨hqueue, hlane, halarms, hphase⟩ : s.Purging l [] u := hu ▸ State.purging_purgeEach h
  have hpurged : s.purgeLane l = (u.emptyFolder l).planMoved := by
    rw [State.purgeLane, State.planTest_eq_planMoved, hu]
  obtain ⟨hmq, hma, -⟩ := (u.emptyFolder l).planMoved_frame
  obtain ⟨hfolder, heyes⟩ := (u.emptyFolder l).lane_planMoved_frame l
  have hempty := u.lane_emptyFolder l
  refine ⟨?_, ?_, ?_, ?_, congrArg Kept.params hkept, fun hno => ?_⟩
  · rw [hpurged, hmq, State.queue, hempty]
    exact hqueue
  · rw [hpurged, hfolder, hempty]
  · rw [hpurged, heyes, hempty]
    exact congrArg LaneSteady.eyes hlane
  · rw [hpurged, hma]
    exact halarms
  · have hstays : (u.emptyFolder l).planMoved = u.emptyFolder l :=
      State.planMoved_of_noChange (hphase.trans hno)
    rw [hpurged, hstays, hempty]
    exact ⟨congrArg LaneSteady.state hlane, congrArg LaneSteady.stacker hlane⟩

end Sys2Proof.Machine
end

section
/-!
PROOFS. Statement O27: a purge with no station in FINISHING (R47, R91, R148), and the request.
-/

namespace Sys2Proof.Machine
variable {s : State} {l : LaneNo} {r : Record} {rs rest : List Record}

/-! ### The counts of the stations (R47) -/

/-- The record is one the station still counts as outstanding. -/
def Record.owedTo (r : Record) (st : StationNo) : Bool :=
  decide (r.nextEye = .e0) && decide (r.origin = some st)

/-- The notices of purged records, counted and no more. -/
def Station.counted (x : Station) (st : StationNo) (rs : List Record) : Station :=
  { x with outstanding := x.outstanding - (rs.filter fun r => r.owedTo st).length }

def State.countOff (s : State) (rs : List Record) : State :=
  { s with stations := ⟨(s.station 0).counted 0 rs, (s.station 1).counted 1 rs,
      (s.station 2).counted 2 rs, (s.station 3).counted 3 rs⟩ }

theorem State.station_countOff (s : State) (rs : List Record) (st : StationNo) :
    (s.countOff rs).station st = (s.station st).counted st rs := by
  fin_cases st <;> rfl

theorem Station.counted_counted (x : Station) (st : StationNo) (r : Record) (rest : List Record) :
    (x.counted st [r]).counted st rest = x.counted st (r :: rest) := by
  have hlength : ((r :: rest).filter fun y => y.owedTo st).length =
      ([r].filter fun y => y.owedTo st).length + (rest.filter fun y => y.owedTo st).length := by
    rw [← List.length_append, ← List.filter_append, List.singleton_append]
  simp only [Station.counted, hlength, Nat.sub_sub]

/-- Where stations change alone, they decide the state. -/
theorem State.eq_countOff {t : State} (hframe : t = { s with stations := t.stations })
    (h : ∀ st, t.station st = (s.station st).counted st rs) : t = s.countOff rs := by
  have hstations : t.stations = (s.countOff rs).stations :=
    Quad.ext_get fun st => (h st).trans (s.station_countOff rs st).symm
  rw [hframe, hstations]
  rfl

theorem State.countOff_countOff (s : State) (r : Record) (rest : List Record) :
    (s.countOff [r]).countOff rest = s.countOff (r :: rest) := by
  refine State.eq_countOff rfl fun st => ?_
  rw [State.station_countOff, State.station_countOff, Station.counted_counted]

theorem State.noticeOf_purge (h : ∀ st, (s.station st).state ≠ .finishing) (r : Record) :
    s.noticeOf r .purge = s.countOff [r] := by
  by_cases howed : ∃ st, r.nextEye = .e0 ∧ r.origin = some st
  · obtain ⟨st, he, ho⟩ := howed
    rw [State.noticeOf_eq he ho,
      State.notice_of_counted (Station.restores_of_other (by decide)) (.inl (h st))]
    refine State.eq_countOff rfl fun su => ?_
    rw [State.station_setStation, Station.counted]
    by_cases e : su = st
    · simp [e, Record.owedTo, he, ho]
    · simp [e, Ne.symm e, Record.owedTo, ho]
  · have hsame : s.noticeOf r .purge = s := by
      unfold State.noticeOf
      split
      · next st he ho => exact absurd ⟨st, he, ho⟩ howed
      · rfl
    have hnone : ∀ st, r.owedTo st = false := fun st => Bool.eq_false_iff.2 fun hst => by
      simp only [Record.owedTo, Bool.and_eq_true, decide_eq_true_eq] at hst
      exact howed ⟨st, hst⟩
    rw [hsame]
    refine State.eq_countOff rfl fun su => ?_
    rw [Station.counted, List.filter_cons_of_neg (by rw [hnone]; exact Bool.false_ne_true)]
    rfl

/-! ### The reports, one after another -/

/-- SHEET_LOST with cause PURGED of each record (R92). -/
def State.offerEach (l : LaneNo) (rs : List Record) (s : State) : State :=
  forEach (fun r t => t.offer (r.lostReport l .purged)) rs s

/-- A change that reports do not read goes before or after them. -/
theorem State.offerEach_comm {f : State → State}
    (h : ∀ (t : State) (x : Report), (f t).offer x = f (t.offer x)) (l : LaneNo) (rs : List Record)
    (s : State) : State.offerEach l rs (f s) = f (State.offerEach l rs s) := by
  induction rs generalizing s with
  | nil => rfl
  | cons r rest ih => exact (congrArg (State.offerEach l rest) (h s _)).trans (ih _)

theorem State.frame_offerEach (l : LaneNo) (rs : List Record) (s : State) :
    ∃ x y, State.offerEach l rs s = { s with reports := x, attn := y } := by
  refine forEach_keeps (P := fun t => ∃ x y, t = { s with reports := x, attn := y })
    (fun r t ⟨x, y, ht⟩ => ?_) rs s ⟨_, _, rfl⟩
  rw [ht, State.offer_eq]
  exact ⟨_, _, rfl⟩

theorem State.reports_offerEach (l : LaneNo) (rs : List Record) (s : State)
    (h : s.reports.queue.length + rs.length ≤ 32) : (State.offerEach l rs s).reports.queue =
      s.reports.queue ++ rs.map fun r => r.lostReport l .purged := by
  induction rs generalizing s with
  | nil => exact (List.append_nil _).symm
  | cons r rest ih =>
    rw [List.length_cons] at h
    have hone : (s.offer (r.lostReport l .purged)).reports.queue =
        s.reports.queue ++ [r.lostReport l .purged] := by
      rw [State.offer_eq]
      exact Reports.queue_offered_of_room (by omega) _
    change (State.offerEach l rest (s.offer _)).reports.queue = _
    rw [ih _ (by rw [hone, List.length_append, List.length_singleton]; omega), hone,
      List.append_assoc]
    rfl

/-! ### Evaluations of the scorch guard one after another (R155) -/

/-- Of two evaluations with no record entering the heated zone between them, the last decides. -/
theorem State.evalGuard_absorbs {t : State} (hzone : t.guardHolds = true → s.guardHolds = true)
    (hparams : t.params = s.params) (hscorch : t.scorch = s.scorch) :
    ({ t with scorch := s.evalGuard.scorch } : State).evalGuard = t.evalGuard := by
  have hguard : ({ t with scorch := s.evalGuard.scorch } : State).guardHolds = t.guardHolds := rfl
  by_cases ht : t.guardHolds = true
  · rw [State.evalGuard_of_holds ht, State.evalGuard_of_holds (hguard.trans ht),
      State.evalGuard_of_holds (hzone ht), hparams, hscorch]
    cases s.scorch <;> rfl
  · rw [State.evalGuard_of_not_holds ht, State.evalGuard_of_not_holds (by rw [hguard]; exact ht)]

theorem State.guardHolds_mono {t : State} (hr : ∀ r ∈ t.records, r ∈ s.records)
    (hspeed : t.speed = s.speed) (hparams : t.params = s.params) (h : t.guardHolds = true) :
    s.guardHolds = true := by
  obtain ⟨⟨r, hmem, hin⟩, hslow⟩ := State.guardHolds_iff.mp h
  exact State.guardHolds_iff.mpr ⟨⟨r, hr r hmem, hin⟩, hspeed ▸ hparams ▸ hslow⟩

/-! ### The whole purge with no station in FINISHING -/

/-- The records of a lane purged, up to the evaluation of the scorch guard. -/
def State.purgedTo (s : State) (l : LaneNo) (rs : List Record) : State :=
  State.offerEach l rs ((s.countOff rs).setQueue l [])

/-- One record purged, up to the evaluation of the scorch guard. -/
def State.purgedHead (s : State) (l : LaneNo) (r : Record) (rest : List Record) : State :=
  ((s.setQueue l rest).countOff [r]).offer (r.lostReport l .purged)

theorem State.loseRecord_head (hshut : (s.lane l).state ≠ .opened)
    (h : ∀ st, (s.station st).state ≠ .finishing) (hq : s.queue l = r :: rest) :
    s.loseRecord l r .purged = (s.purgedHead l r rest).evalGuard := by
  rw [State.loseRecord_purged hshut, State.dropRecord_head hq,
    State.noticeOf_purge (s := s.setQueue l rest) h, State.purgedHead]

theorem State.lane_purgedHead (s : State) (l : LaneNo) (r : Record) (rest : List Record) :
    (s.purgedHead l r rest).lane l = { s.lane l with queue := rest } := by
  rw [State.purgedHead, State.lane_offer]
  exact s.lane_setQueue_self l rest

theorem State.station_purgedHead (s : State) (l : LaneNo) (r : Record) (rest : List Record)
    (st : StationNo) : (s.purgedHead l r rest).station st = (s.station st).counted st [r] := by
  rw [State.purgedHead, State.offer_eq]
  exact (s.setQueue l rest).station_countOff [r] st

/-- The head purged and then the others are all of them purged. -/
theorem State.purgedTo_purgedHead (s : State) (l : LaneNo) (r : Record) (rest : List Record) :
    (s.purgedHead l r rest).purgedTo l rest = s.purgedTo l (r :: rest) := by
  have hoffer : ∀ (t : State) (x : Report), ((t.offer x).countOff rest).setQueue l [] =
      ((t.countOff rest).setQueue l []).offer x := fun t x => by
    rw [State.offer_eq, State.offer_eq]
    rfl
  have hqueue : ((s.setQueue l rest).countOff (r :: rest)).setQueue l [] =
      (s.countOff (r :: rest)).setQueue l [] := by
    change ((s.countOff (r :: rest)).setQueue l rest).setQueue l [] = _
    rw [State.setQueue_eq, State.setQueue_eq, State.setQueue_eq, State.setLane_setLane,
      State.lane_setLane_self]
  rw [State.purgedTo, State.purgedHead, hoffer, State.countOff_countOff, hqueue]
  rfl

theorem State.purgedTo_evalGuard (s : State) (l : LaneNo) (rs : List Record) :
    s.evalGuard.purgedTo l rs = { s.purgedTo l rs with scorch := s.evalGuard.scorch } :=
  State.offerEach_comm (f := fun t => { t with scorch := s.evalGuard.scorch })
    (fun t x => by rw [State.offer_eq, State.offer_eq]) l rs ((s.countOff rs).setQueue l [])

theorem State.kept_purgedTo (s : State) (l : LaneNo) (rs : List Record) :
    (s.purgedTo l rs).params = s.params ∧ (s.purgedTo l rs).scorch = s.scorch := by
  obtain ⟨x, y, hframe⟩ := State.frame_offerEach l rs ((s.countOff rs).setQueue l [])
  rw [State.purgedTo, hframe]
  exact ⟨rfl, rfl⟩

/-- Purging records takes them out of the heated zone and brings none into it. -/
theorem State.guardHolds_purgedTo (h : (s.purgedTo l rs).guardHolds = true) :
    s.guardHolds = true := by
  obtain ⟨x, y, hframe⟩ := State.frame_offerEach l rs ((s.countOff rs).setQueue l [])
  rw [State.purgedTo, hframe] at h
  refine State.guardHolds_mono (t := s.setQueue l []) (fun r hr => ?_) rfl rfl h
  obtain ⟨m, hm⟩ := State.mem_records_iff.1 hr
  rw [State.queue_setQueue] at hm
  split at hm
  · exact nomatch hm
  · exact State.mem_records hm

theorem State.purgeEach_eq (hne : rs ≠ []) (s : State) (hshut : (s.lane l).state ≠ .opened)
    (h : ∀ st, (s.station st).state ≠ .finishing) (hq : s.queue l = rs) :
    forEach (fun r t => State.loseRecord t l r .purged) rs s = (s.purgedTo l rs).evalGuard := by
  induction rs generalizing s with
  | nil => exact absurd rfl hne
  | cons r rest ih =>
    rw [forEach_cons, State.loseRecord_head hshut h hq]
    by_cases hlast : rest = []
    · subst hlast
      rfl
    · have hlane := s.lane_purgedHead l r rest
      obtain ⟨hparams, hscorch⟩ := (s.purgedHead l r rest).kept_purgedTo l rest
      rw [ih hlast (s.purgedHead l r rest).evalGuard, State.purgedTo_evalGuard,
        State.evalGuard_absorbs State.guardHolds_purgedTo hparams hscorch,
        State.purgedTo_purgedHead]
      · rw [State.lane_evalGuard, hlane]
        exact hshut
      · intro st
        rw [State.station_evalGuard, State.station_purgedHead]
        exact h st
      · rw [State.queue, State.lane_evalGuard, hlane]

/-- The purge of a lane with its fold interface emptied, up to the evaluation of the scorch
guard. -/
def State.purged (s : State) (l : LaneNo) : State :=
  State.offerEach l (s.queue l) ((s.countOff (s.queue l)).setLane l
    { s.lane l with queue := [], folder := .atReset })

theorem State.emptyFolder_evalGuard (s : State) (l : LaneNo) :
    s.evalGuard.emptyFolder l = (s.emptyFolder l).evalGuard := by
  have hrecords : (s.emptyFolder l).records = s.records := State.records_of_queues fun m => by
    rw [State.emptyFolder, State.modFolder, State.lane_modLane]
    split <;> rfl
  have hguard : (s.emptyFolder l).guardHolds = s.guardHolds := by
    rw [State.guardHolds, State.guardHolds, State.zoneOccupied, State.zoneOccupied, hrecords]
    rfl
  rw [State.evalGuard, State.evalGuard, hguard]
  rfl

theorem State.emptyFolder_purgedTo (s : State) (l : LaneNo) :
    (s.purgedTo l (s.queue l)).emptyFolder l = s.purged l := by
  have hbase : ((s.countOff (s.queue l)).setQueue l []).emptyFolder l =
      (s.countOff (s.queue l)).setLane l { s.lane l with queue := [], folder := .atReset } := by
    rw [State.emptyFolder, State.modFolder, State.modLane_eq, State.lane_setQueue_self,
      State.setQueue_eq, State.setLane_setLane]
    rfl
  rw [State.purged, ← hbase]
  exact (State.offerEach_comm (f := fun t => t.emptyFolder l)
    (fun t x => by rw [State.offer_eq, State.offer_eq]; rfl) l (s.queue l) _).symm

theorem State.purgeLane_of_records (hshut : (s.lane l).state ≠ .opened)
    (h : ∀ st, (s.station st).state ≠ .finishing) (hne : s.queue l ≠ []) :
    s.purgeLane l = (s.purged l).evalGuard.planMoved := by
  rw [State.purgeLane, State.planTest_eq_planMoved, State.purgeEach_eq hne s hshut h rfl,
    State.emptyFolder_evalGuard, State.emptyFolder_purgedTo]

/-- A lane without records has its fold interface emptied, and no evaluation of the guard. -/
theorem State.emptyFolder_of_empty (h : s.queue l = []) : s.emptyFolder l = s.purged l := by
  have hqueue : (s.countOff []).setQueue l [] = s := by
    have hcount : s.countOff [] = s := (State.eq_countOff rfl fun _ => rfl).symm
    rw [hcount, State.setQueue_eq, ← h]
    exact s.setLane_lane l
  rw [← State.emptyFolder_purgedTo, h]
  exact congrArg (State.emptyFolder · l) hqueue.symm

theorem State.purged_frame (s : State) (l : LaneNo) : ∃ x y, s.purged l =
    { (s.countOff (s.queue l)).setLane l { s.lane l with queue := [], folder := .atReset } with
      reports := x, attn := y } :=
  State.frame_offerEach l (s.queue l) _

theorem State.lane_purged_ne {m : LaneNo} (hm : m ≠ l) : (s.purged l).lane m = s.lane m := by
  obtain ⟨x, y, hframe⟩ := s.purged_frame l
  rw [hframe]
  exact State.lane_setLane_ne (s.countOff (s.queue l)) hm _

theorem State.station_purged (s : State) (l : LaneNo) (st : StationNo) :
    (s.purged l).station st = (s.station st).counted st (s.queue l) := by
  obtain ⟨x, y, hframe⟩ := s.purged_frame l
  rw [hframe]
  exact s.station_countOff (s.queue l) st

theorem State.reports_purged (h : s.reports.queue.length + (s.queue l).length ≤ 32) :
    (s.purged l).reports.queue =
      s.reports.queue ++ (s.queue l).map fun r => r.lostReport l .purged :=
  State.reports_offerEach l (s.queue l) _ h

/-- With no plan change, a purge is its removals, up to what they leave the scorch guard at. -/
theorem State.purgeLane_of_noChange (hphase : s.phase = .noChange)
    (hshut : (s.lane l).state ≠ .opened) (h : ∀ st, (s.station st).state ≠ .finishing) :
    ∃ x, s.purgeLane l = { s.purged l with scorch := x } := by
  obtain ⟨x, y, hframe⟩ := s.purged_frame l
  have hno : (s.purged l).phase = .noChange := by
    rw [hframe]
    exact hphase
  by_cases hq : s.queue l = []
  · refine ⟨(s.purged l).scorch, ?_⟩
    rw [State.purgeLane, hq, forEach_nil, State.emptyFolder_of_empty hq,
      State.planTest_of_noChange hno]
  · exact ⟨_, (State.purgeLane_of_records hshut h hq).trans
      (State.planMoved_of_noChange (s := (s.purged l).evalGuard) hno)⟩

/-! ### The request -/

theorem answerPurge_refused {a : Byte} (hl : laneOperand a = some l)
    (h : (s.lane l).state = .opened ∨ (s.lane l).state = .closed ∨ s.inputs.ironerRun = true) :
    answerPurge a s = refuse .state s := by
  rw [answerPurge, withOperand_some s hl]
  cases hstate : (s.lane l).state
  case opened | closed => rfl
  case halted | draining =>
    rcases h with h | h | hrun
    · exact nomatch hstate.symm.trans h
    · exact nomatch hstate.symm.trans h
    · exact if_pos hrun

theorem answerPurge_done {a : Byte} (hl : laneOperand a = some l)
    (h : (s.lane l).state = .halted ∨ (s.lane l).state = .draining)
    (hrun : s.inputs.ironerRun = false) :
    answerPurge a s = carryOut false [] (s.purgeLane l) := by
  have hstopped : ¬ s.inputs.ironerRun = true := Bool.eq_false_iff.mp hrun
  rw [answerPurge, withOperand_some s hl]
  rcases h with h | h <;> rw [h]
  · exact if_neg hstopped
  · exact if_neg hstopped

/-- Settles O27: what a purge leaves by `State.purgeLane_frame`; with no station in FINISHING its
removals are `State.purged`. -/
theorem purgeEmptiesALane : Obligations.PurgeEmptiesALane := by
  unfold Obligations.PurgeEmptiesALane
  refine fun a s hready => ⟨fun ha => next_request hready
    (State.respond_withOperand_none (laneOperand_none ha) _ s _), fun l hl => ?_⟩
  have hname := laneOperand_val hl
  refine ⟨fun hbar => next_request hready ?_, fun hstate hrun => ?_⟩
  · rw [answerPurge_refused hname hbar]
    exact State.respond_refuse s _ (by decide)
  have hshut : (s.lane l).state ≠ .opened := by
    rcases hstate with h | h <;> rw [h] <;> decide
  have hexec : exec (.laneCmdPurge a) s = .next ((s.purgeLane l).answered 0x22 .ok [] false) := by
    refine next_request hready ?_
    rw [answerPurge_done hname hstate hrun]
    exact State.respond_carryOut _ _ (by decide) false _
  obtain ⟨hqueue, hfolder, heyes, halarms, hparams, hkeeps⟩ := State.purgeLane_frame hshut
  refine ⟨_, hexec, hqueue, hfolder, heyes, halarms, hparams, hkeeps, fun hno hstill => ?_,
    fun hne hstill => ⟨(s.purged l).evalGuard, s.station_purged l, ?_,
      State.purgeLane_of_records hshut hstill hne⟩⟩
  · obtain ⟨x, hpurged⟩ := State.purgeLane_of_noChange hno hshut hstill
    have hstation : ∀ st, (s.purgeLane l).station st = (s.station st).counted st (s.queue l) :=
      fun st => by
        rw [hpurged]
        exact s.station_purged l st
    refine ⟨fun m hm => ?_, fun st => ?_, fun hroom => ?_⟩
    · rw [hpurged]
      exact State.lane_purged_ne hm
    · rw [hstation]
      exact ⟨rfl, rfl, rfl⟩
    · rw [hpurged]
      exact State.reports_purged hroom
  · obtain ⟨x, y, hframe⟩ := s.purged_frame l
    have hstations : (s.purged l).evalGuard.stations = (s.countOff (s.queue l)).stations := by
      rw [State.evalGuard_stations, hframe]
      rfl
    rw [hstations]
    rfl

end Sys2Proof.Machine
end

section
/-!
PROOFS. Statement O21: which sources are presentable, their rank, and the source that the
current-alarm rule puts in place of one that does not stay (R163, R164).
-/

namespace Sys2Proof.Machine
variable {a : Alarms} {src x y : Source} {k : KindSetting}

/-! ### Presentable sources and their ranks (R163) -/

theorem Alarms.presentable_of_not_maskable (h : a.settings.get src.kind = none) :
    a.presentable src = (a.latches.get src).latched := by
  rw [Alarms.presentable, h]
  exact Bool.and_true _

theorem Alarms.presentable_of_setting (h : a.settings.get src.kind = some k) :
    a.presentable src = ((a.latches.get src).latched && !k.masked) := by
  rw [Alarms.presentable, h]

theorem Alarms.rank_of_not_maskable (h : a.settings.get src.kind = none) : a.rank src = 2 := by
  rw [Alarms.rank, h]

theorem Alarms.rank_of_setting (h : a.settings.get src.kind = some k) :
    a.rank src = if k.high = true then 1 else 0 := by
  rw [Alarms.rank, h]

/-! ### The source of highest rank, earliest in default order (R164) -/

/-- What a search finds stands no later than anything else that passes its test. -/
theorem idxOf_le_of_find? {α : Type} [DecidableEq α] {p : α → Bool} {xs : List α} {x y : α}
    (h : xs.find? p = some y) (hx : p x = true) : xs.idxOf y ≤ xs.idxOf x := by
  obtain ⟨hy, before, rest, rfl, hbefore⟩ := List.find?_eq_some_iff_append.1 h
  have hnot : ∀ z, p z = true → z ∉ before := fun z hz hmem => by simpa [hz] using hbefore z hmem
  rw [List.idxOf_append_of_notMem (hnot y hy), List.idxOf_append_of_notMem (hnot x hx),
    List.idxOf_cons_self]
  exact Nat.add_le_add_left (Nat.zero_le _) _

/-- The source of highest rank is the first of its own rank. -/
theorem Alarms.firstOfRank_of_highest (h : a.highest = some y) :
    a.firstOfRank (a.rank y) = some y := by
  have hself : ∀ n, a.firstOfRank n = some y → a.firstOfRank (a.rank y) = some y := fun n hn => by
    rwa [(Alarms.firstOfRank_some hn).2]
  unfold Alarms.highest at h
  split at h
  next h2 => exact hself 2 (h2.trans h)
  next h1 => exact hself 1 (h1.trans h)
  next => exact hself 0 h

theorem Alarms.not_presentable_of_highest_none (h : a.highest = none) (x : Source) :
    a.presentable x = false := by
  unfold Alarms.highest at h
  split at h
  case h_1 => cases h
  case h_2 => cases h
  case h_3 h2 h1 =>
    by_contra hx
    have hp := Bool.eq_true_of_not_eq_false hx
    have hle := a.rank_le_two x
    have hne2 := Alarms.firstOfRank_none h2 hp
    have hne1 := Alarms.firstOfRank_none h1 hp
    have hne0 := Alarms.firstOfRank_none h hp
    omega

/-- Any presentable source ranks below the one of highest rank, or equals it in rank and comes no
earlier in default order. -/
theorem Alarms.rank_lt_or_idxOf_le_of_highest (h : a.highest = some y)
    (hx : a.presentable x = true) :
    a.rank x < a.rank y ∨ (a.rank x = a.rank y ∧ allSources.idxOf y ≤ allSources.idxOf x) := by
  obtain ⟨-, hmax⟩ := Alarms.currentStays_iff.1 (Alarms.currentStays_highest h)
  refine (lt_or_eq_of_le (hmax x hx)).imp_right fun hrank => ⟨hrank, ?_⟩
  exact idxOf_le_of_find? (Alarms.firstOfRank_of_highest h)
    (by rw [hx, hrank, decide_eq_true rfl]; rfl)

/-! ### The rule (R164) -/

theorem Alarms.applyRule_of_stays (hcur : a.current = some src) (h : a.currentStays src = true) :
    a.applyRule = a := by
  rw [Alarms.applyRule, hcur]
  exact if_pos h

/-- No current source, or one that does not stay. -/
theorem Alarms.applyRule_of_none_stays
    (h : ∀ src, a.current = some src → a.currentStays src ≠ true) :
    a.applyRule = { a with current := a.highest } := by
  unfold Alarms.applyRule
  split
  next src hcur => exact if_neg (h src hcur)
  next => rfl

/-- Settles O21: what stays by `Alarms.currentStays_iff`; what takes its place is `Alarms.highest`,
the first of the highest rank in default order. -/
theorem theCurrentAlarmRule : Obligations.TheCurrentAlarmRule := by
  unfold Obligations.TheCurrentAlarmRule
  refine fun a => ⟨fun src => ⟨fun hkind => ?_, fun k hk => ?_⟩, fun src hcur hp hmax => ?_,
    fun hout => ⟨a.highest, Alarms.applyRule_of_none_stays fun src hcur hstays => ?_,
      Alarms.not_presentable_of_highest_none, fun y hy => ⟨?_, fun x hx => ?_⟩⟩⟩
  · have hnone : a.settings.get src.kind = none := by
      rcases hkind with h | h | h <;> rw [h] <;> rfl
    exact ⟨Alarms.presentable_of_not_maskable hnone, Alarms.rank_of_not_maskable hnone⟩
  · have hsome : a.settings.get src.kind = some k := by
      rcases hk with ⟨h, rfl⟩ | ⟨h, rfl⟩ | ⟨h, rfl⟩ | ⟨h, rfl⟩ | ⟨h, rfl⟩ | ⟨h, rfl⟩ <;>
        rw [h] <;> rfl
    exact ⟨hsome, Alarms.presentable_of_setting hsome, Alarms.rank_of_setting hsome⟩
  · exact Alarms.applyRule_of_stays hcur (Alarms.currentStays_iff.2 ⟨hp, hmax⟩)
  · obtain ⟨hp, hmax⟩ := Alarms.currentStays_iff.1 hstays
    rcases hout with hnone | ⟨old, hold, hgoes⟩
    · exact nomatch hnone.symm.trans hcur
    · cases hold.symm.trans hcur
      rcases hgoes with hgone | ⟨x, hx, hlt⟩
      · exact Bool.false_ne_true (hgone.symm.trans hp)
      · exact absurd (hmax x hx) (Nat.not_le.2 hlt)
  · exact (Alarms.currentStays_iff.1 (Alarms.currentStays_highest hy)).1
  · exact Alarms.rank_lt_or_idxOf_le_of_highest hy hx

end Sys2Proof.Machine
end

section
/-!
PROOFS. Statements O20 and O22: ALARM_SET and ALARM_ACK, by the kinds and sources their operands
name (R160, R163, R165).
-/

namespace Sys2Proof.Machine
variable {s : State} {k : Kind} {src : Source}

/-! ### Kinds and sources as operands (R160) -/

theorem kindOperand_code (k : Kind) : kindOperand k.code = some k := by
  cases k <;> rfl

theorem code_of_kindOperand {b : Byte} (h : kindOperand b = some k) : k.code = b := by
  unfold kindOperand at h
  (repeat' split at h) <;> cases h <;> exact Eq.symm ‹_›

theorem byteOf_val_of_fourOperand {b : Byte} {i : Fin 4} (h : fourOperand b = some i) :
    byteOf i.val = b := by
  unfold fourOperand at h
  split at h
  · cases h
    exact BitVec.eq_of_toNat_eq (Nat.mod_eq_of_lt b.isLt)
  · cases h

theorem fourOperand_byteOf (i : Fin 4) : fourOperand (byteOf i.val) = some i := by
  fin_cases i <;> rfl

theorem Kind.source_index (src : Source) : src.kind.source src.index = some src := by
  cases src
  case wrap l => exact congrArg (Option.map _) (fourOperand_byteOf l)
  case jam l => exact congrArg (Option.map _) (fourOperand_byteOf l)
  case stray l => exact congrArg (Option.map _) (fourOperand_byteOf l)
  case stacker l => exact congrArg (Option.map _) (fourOperand_byteOf l)
  case misfeed st => exact congrArg (Option.map _) (fourOperand_byteOf st)
  all_goals rfl

/-- A source of a line kind is named by index 0 alone. -/
theorem lineSource_eq_some {index : Byte} {found : Source} (h : lineSource src index = some found) :
    found = src ∧ index = 0 := by
  unfold lineSource at h
  split at h
  · cases h
    exact ⟨rfl, ‹_›⟩
  · cases h

theorem kind_index_of_source {index : Byte} (h : k.source index = some src) :
    src.kind = k ∧ src.index = index := by
  have hline : ∀ line : Source, line.kind = k → line.index = 0 →
      lineSource line index = some src → src.kind = k ∧ src.index = index := by
    intro line hkind hindex hline
    obtain ⟨rfl, rfl⟩ := lineSource_eq_some hline
    exact ⟨hkind, hindex⟩
  have hfour : ∀ f : Fin 4 → Source, (∀ i, (f i).kind = k ∧ (f i).index = byteOf i.val) →
      (fourOperand index).map f = some src → src.kind = k ∧ src.index = index := by
    intro f hf hsome
    obtain ⟨i, hi, rfl⟩ := Option.map_eq_some_iff.1 hsome
    obtain ⟨hkind, hindex⟩ := hf i
    exact ⟨hkind, hindex.trans (byteOf_val_of_fourOperand hi)⟩
  cases k
  case estop | scorch | speedLow | speedHigh => exact hline _ rfl rfl h
  case wrap | jam | stray | stacker | misfeed => exact hfour _ (fun _ => ⟨rfl, rfl⟩) h

theorem sourceOperand_eq_some_iff {kind index : Byte} :
    sourceOperand kind index = some src ↔ src.kind.code = kind ∧ src.index = index := by
  constructor
  · intro h
    unfold sourceOperand at h
    split at h
    next k hk =>
      obtain ⟨hkind, hindex⟩ := kind_index_of_source h
      exact ⟨hkind ▸ code_of_kindOperand hk, hindex⟩
    next => cases h
  · rintro ⟨rfl, rfl⟩
    rw [sourceOperand, kindOperand_code]
    exact Kind.source_index src

/-! ### Maskable kinds (R163) -/

theorem maskableOperand_code (h : 4 ≤ k.code.toNat) : maskableOperand k.code = some k := by
  rw [maskableOperand, kindOperand_code]
  cases k
  case estop | scorch | wrap => exact absurd h (by decide)
  all_goals rfl

theorem maskableOperand_none {b : Byte} (h : b.toNat < 4 ∨ 9 < b.toNat) :
    maskableOperand b = none := by
  unfold maskableOperand
  cases hk : kindOperand b with
  | none => rfl
  | some k =>
    rw [← code_of_kindOperand hk] at h
    cases k
    case estop | scorch | wrap => rfl
    all_goals exact absurd h (by decide)

theorem KindSettings.get_set_self (m : KindSettings) (x : KindSetting) (h : 4 ≤ k.code.toNat) :
    (m.set k x).get k = some x := by
  cases k
  case estop | scorch | wrap => exact absurd h (by decide)
  all_goals rfl

theorem KindSettings.get_set_ne (m : KindSettings) (x : KindSetting) {other : Kind}
    (h : other ≠ k) : (m.set k x).get other = m.get other := by
  cases k <;> cases other <;> simp [KindSettings.set, KindSettings.get] at h ⊢

/-! ### ALARM_SET (R163) -/

theorem flagOperand_of_le {b : Byte} (h : b.toNat ≤ 1) :
    flagOperand b = some (decide (b.toNat = 1)) := by
  apply flagOperand_code
  rcases Nat.le_one_iff_eq_zero_or_eq_one.1 h with h | h <;> rw [h] <;> rfl

theorem answerAlarmSet_refused {kind mask level : Byte} (s : State)
    (h : kind.toNat < 4 ∨ 9 < kind.toNat ∨ 1 < mask.toNat ∨ 1 < level.toNat) :
    answerAlarmSet kind mask level s = refuse .badValue s := by
  unfold answerAlarmSet
  split
  next hk hm hl =>
    rcases or_assoc.2 h with h | h | h
    · exact nomatch (maskableOperand_none h).symm.trans hk
    · exact nomatch (flagOperand_none h).symm.trans hm
    · exact nomatch (flagOperand_none h).symm.trans hl
  next => rfl

theorem answerAlarmSet_done {mask level : Byte} (s : State) (hk : 4 ≤ k.code.toNat)
    (hm : mask.toNat ≤ 1) (hl : level.toNat ≤ 1) : answerAlarmSet k.code mask level s =
      carryOut false [] (s.writeSetting k ⟨decide (mask.toNat = 1), decide (level.toNat = 1)⟩) := by
  rw [answerAlarmSet, maskableOperand_code hk, flagOperand_of_le hm, flagOperand_of_le hl]

/-- Settles O20: a kind that is maskable and two flags, or BAD_VALUE. -/
theorem alarmSetWritesMaskAndLevel : Obligations.AlarmSetWritesMaskAndLevel := by
  unfold Obligations.AlarmSetWritesMaskAndLevel
  refine fun kind mask level s hready => ⟨fun hbad => next_request hready ?_, ?_⟩
  · rw [answerAlarmSet_refused s hbad]
    exact State.respond_refuse s _ (by decide)
  · rintro k rfl hk hm hl
    refine ⟨s.alarms.settings.set k ⟨decide (mask.toNat = 1), decide (level.toNat = 1)⟩, _,
      next_request hready ?_, KindSettings.get_set_self _ _ hk,
      fun _ hne => KindSettings.get_set_ne _ _ hne, rfl⟩
    rw [answerAlarmSet_done s hk hm hl]
    exact State.respond_carryOut _ _ (by decide) false []

/-! ### ALARM_ACK (R165) -/

/-- LINE_HOLD stays while a WRAP source is latched, and follows no other kind (R157). -/
theorem State.lineHold_releaseLines (s : State) (src : Source) : (s.releaseLines src).lineHold =
    if src.kind = .wrap then s.lineHold && s.wrapLatched else s.lineHold := by
  cases src <;> rfl

/-- ROLL_LIFT follows SCORCH (R156). -/
theorem State.rollLift_releaseLines (s : State) (src : Source) : (s.releaseLines src).rollLift =
    if src = .scorch then false else s.rollLift := by
  cases src <;> rfl

theorem State.clearLatch_eq (s : State) (src : Source) : s.clearLatch src =
    { s with
      alarms := { s.alarms with latches := s.alarms.latches.set src .clear }.applyRule,
      lineHold := ((s.setLatch src .clear).releaseLines src).lineHold,
      rollLift := if src = .scorch then false else s.rollLift,
      attn := ({ s.alarms with
          latches := s.alarms.latches.set src .clear }.applyRule).current.isSome ||
        (s.params.attention && !s.reports.queue.isEmpty) } := by
  have hlift := (s.setLatch src .clear).rollLift_releaseLines src
  change ((s.setLatch src .clear).releaseLines src).applyAlarmRule = _
  rw [State.releaseLines_eq, hlift]
  rfl

/-- LINE_HOLD goes off with the last WRAP latch. -/
theorem State.lineHold_clearLatch_off (hwrap : src.kind = .wrap)
    (hnone : ∀ l, (s.setLatch src .clear).isLatched (.wrap l) = false) :
    (s.clearLatch src).lineHold = false := by
  have hoff : (s.setLatch src .clear).wrapLatched = false := Bool.eq_false_iff.2 fun h => by
    obtain ⟨l, hl⟩ := (State.wrapLatched_iff _).1 h
    exact Bool.false_ne_true ((hnone l).symm.trans hl)
  rw [State.clearLatch_eq]
  change ((s.setLatch src .clear).releaseLines src).lineHold = false
  rw [State.lineHold_releaseLines, if_pos hwrap, hoff, Bool.and_false]

/-- An acknowledgement of another kind, or with a WRAP source still latched, leaves LINE_HOLD. -/
theorem State.lineHold_clearLatch_stays
    (h : src.kind ≠ .wrap ∨ ∃ l, (s.setLatch src .clear).isLatched (.wrap l) = true) :
    (s.clearLatch src).lineHold = s.lineHold := by
  rw [State.clearLatch_eq]
  change ((s.setLatch src .clear).releaseLines src).lineHold = s.lineHold
  rw [State.lineHold_releaseLines]
  split
  next hwrap =>
    have hon := (State.wrapLatched_iff _).2 (h.resolve_left (not_not.2 hwrap))
    rw [hon]
    exact Bool.and_true _
  next => rfl

/-- Settles O22: the source by `sourceOperand_eq_some_iff`, and the state after it by
`State.clearLatch_eq`. -/
theorem alarmAckClearsALatch : Obligations.AlarmAckClearsALatch := by
  unfold Obligations.AlarmAckClearsALatch
  refine fun kind index s hready => ⟨fun hno => next_request hready
      (State.respond_withOperand_none ?_ _ s _), fun src hkind hindex => ?_⟩
  · refine Option.eq_none_iff_forall_ne_some.2 fun src hsrc => ?_
    obtain ⟨hkind, hindex⟩ := sourceOperand_eq_some_iff.1 hsrc
    exact hno src hkind hindex
  have hname := sourceOperand_eq_some_iff.2 ⟨hkind, hindex⟩
  refine ⟨fun hclear => next_request hready (State.respond_withOperand_refuse hname _ (by decide)
      (if_neg (Bool.eq_false_iff.1 hclear))), fun hset =>
    ⟨s.alarms.latches.set src .clear, s.clearLatch src,
      next_request hready (State.respond_withOperand_some hname (by decide) (if_pos hset)),
      ?_, fun x hx => ?_, ?_, State.lineHold_clearLatch_off, State.lineHold_clearLatch_stays⟩⟩
  · rw [Latches.get_set, if_pos rfl]
    rfl
  · rw [Latches.get_set, if_neg hx]
  · rw [State.clearLatch_eq]

end Sys2Proof.Machine
end

section
/-!
PROOFS. Statement O33: an alarm occurrence, with the lanes it halts as a list (R144, R146, R161).
-/

namespace Sys2Proof.Machine
variable {s : State}

/-! ### The lanes an occurrence halts (R146) -/

/-- The lanes an occurrence of the source halts. -/
def Source.haltedLanes : Source → List LaneNo
  | .estop => allFour
  | .scorch => allFour
  | .wrap l => [l]
  | .jam l => [l]
  | .stray l => [l]
  | .stacker l => [l]
  | .misfeed _ => []
  | .speedLow => []
  | .speedHigh => []

theorem State.haltFor_eq_forEach (s : State) (src : Source) :
    s.haltFor src = forEach (fun l t => State.haltLane t l) src.haltedLanes s := by
  cases src <;> rfl

theorem Source.mem_haltedLanes {src : Source} {l : LaneNo} : l ∈ src.haltedLanes ↔
    src ∈ [Source.estop, .scorch, .wrap l, .jam l, .stray l, .stacker l] := by
  cases src <;> simp [Source.haltedLanes, eq_comm]

theorem State.lane_haltLanes (m : LaneNo) (ls : List LaneNo) (s : State) :
    (forEach (fun l t => State.haltLane t l) ls s).lane m =
      if (s.lane m).state = .opened ∧ m ∈ ls then
        { s.lane m with state := .halted, grant := none, releasePoint := none }
      else s.lane m := by
  induction ls generalizing s with
  | nil => exact (if_neg fun ⟨_, hm⟩ => nomatch hm).symm
  | cons l ls ih =>
    rw [forEach_cons, ih, State.haltLane, State.lane_leaveOpen]
    by_cases hopen : (s.lane m).state = .opened
    · by_cases hm : m = l
      · simp [hm, hm ▸ hopen]
      · simp [hm, hopen]
    · simp [hopen]

theorem State.frame_haltFor (s : State) (src : Source) :
    ∃ x y, s.haltFor src = { s with lanes := x, stations := y } := by
  rw [State.haltFor_eq_forEach]
  refine forEach_keeps (P := fun t => ∃ x y, t = { s with lanes := x, stations := y })
    (fun l t ⟨x, y, ht⟩ => ?_) _ s ⟨_, _, rfl⟩
  obtain ⟨x', y', ht'⟩ := t.frame_leaveOpen l .halted
  rw [State.haltLane, ht', ht]
  exact ⟨_, _, rfl⟩

/-! ### Latch and line outputs (R156, R157, R161) -/

theorem Latch.occur_eq (x : Latch) (cause : Nat) : x.occur cause =
    if x.latched = true then ⟨true, min (x.count + 1) 255, cause⟩ else ⟨true, 1, cause⟩ := rfl

theorem State.lineHold_latched (s : State) (src : Source) (cause : Nat) :
    (s.latched src cause).lineHold = (s.lineHold || decide (src.kind = .wrap)) := by
  cases src
  case wrap => exact (Bool.or_true _).symm
  all_goals exact (Bool.or_false _).symm

theorem State.rollLift_latched (s : State) (src : Source) (cause : Nat) :
    (s.latched src cause).rollLift = (s.rollLift || decide (src = .scorch)) := by
  cases src
  case scorch => exact (Bool.or_true _).symm
  all_goals exact (Bool.or_false _).symm

theorem State.alarms_latched (s : State) (src : Source) (cause : Nat) :
    (s.latched src cause).alarms = { s.alarms with
      latches := s.alarms.latches.set src ((s.alarms.latches.get src).occur cause) } :=
  State.alarms_assertLines _ _

/-! ### The occurrence -/

/-- The lanes halted and the rule applied, an occurrence leaves the alarm unit and the line outputs
as `State.latched` has them, and writes nothing else. -/
theorem State.frame_occur (s : State) (src : Source) (cause : Nat) : ∃ x y,
    s.occur src cause = { s with
      alarms := (s.latched src cause).alarms.applyRule,
      attn := (s.latched src cause).alarms.applyRule.current.isSome ||
        (s.params.attention && !s.reports.queue.isEmpty),
      lineHold := (s.latched src cause).lineHold, rollLift := (s.latched src cause).rollLift,
      lanes := x, stations := y } := by
  obtain ⟨x, y, hhalt⟩ := (s.latched src cause).frame_haltFor src
  refine ⟨x, y, ?_⟩
  rw [State.occur_eq, hhalt, State.latched_eq]
  rfl

theorem State.lane_occur_of_source (s : State) (src : Source) (cause : Nat) (l : LaneNo) :
    (s.occur src cause).lane l = if (s.lane l).state = .opened ∧
          src ∈ [Source.estop, .scorch, .wrap l, .jam l, .stray l, .stacker l] then
        { s.lane l with state := .halted, grant := none, releasePoint := none }
      else s.lane l := by
  rw [State.occur_eq, State.lane_applyAlarmRule, State.haltFor_eq_forEach, State.lane_haltLanes,
    State.lane_latched]
  simp only [Source.mem_haltedLanes]

theorem State.heldOpen_latched {src : Source} {cause : Nat} {st : StationNo} {l : LaneNo} :
    (s.latched src cause).HeldOpen st l ↔ s.HeldOpen st l := by
  rw [State.HeldOpen, State.lane_latched]

/-- To disarm a station is to write LOADED where it is ARMED (R52). -/
theorem Station.ite_disarm (x : Station) (p : Prop) [Decidable p] :
    (if p then x.disarm else x) =
      if x.state = .armed ∧ p then { x with state := .loaded } else x := by
  by_cases harmed : x.state = .armed
  · simp only [Station.disarm, harmed, true_and, if_true]
  · simp only [Station.disarm_of_not_armed harmed, harmed, false_and, if_false, ite_self]

theorem State.station_occur (s : State) (src : Source) (cause : Nat) (st : StationNo) :
    (s.occur src cause).station st = if (s.station st).state = .armed ∧
          (∃ l, (s.lane l).state = .opened ∧ (s.lane l).grant = some st ∧
            src ∈ [Source.estop, .scorch, .wrap l, .jam l, .stray l, .stacker l]) then
        { s.station st with state := .loaded }
      else s.station st := by
  have hheld : (∃ l ∈ src.haltedLanes, s.HeldOpen st l) ↔
      ∃ l, (s.lane l).state = .opened ∧ (s.lane l).grant = some st ∧
        src ∈ [Source.estop, .scorch, .wrap l, .jam l, .stray l, .stacker l] :=
    exists_congr fun l => by rw [Source.mem_haltedLanes, and_comm, and_assoc]
  rw [State.occur_eq, State.station_applyAlarmRule, State.haltFor_eq_forEach,
    State.station_haltLanes, State.station_latched, Station.ite_disarm]
  simp only [State.heldOpen_latched, hheld]

/-- Settles O33: the frame by `State.frame_occur`, the lanes and stations by the halts of the
source's lanes, each in turn. -/
theorem occurrencesLatchHaltAndShow : Obligations.OccurrencesLatchHaltAndShow := by
  unfold Obligations.OccurrencesLatchHaltAndShow
  rintro src cause s t rfl
  obtain ⟨x, y, hframe⟩ := s.frame_occur src cause
  have hrule : (s.occur src cause).alarms = { s.alarms with
      latches := s.alarms.latches.set src ((s.alarms.latches.get src).occur cause) }.applyRule := by
    rw [hframe, ← State.alarms_latched]
  have hlatches : (s.occur src cause).alarms.latches =
      s.alarms.latches.set src ((s.alarms.latches.get src).occur cause) := by
    rw [hrule, Alarms.latches_applyRule]
  refine ⟨?_, ?_, fun other hother => ?_, ?_, ?_, ?_, ?_, s.lane_occur_of_source src cause,
    s.station_occur src cause⟩
  · rw [hframe]
  · rw [hlatches, Latches.get_set, if_pos rfl, Latch.occur_eq]
  · rw [hlatches, Latches.get_set, if_neg hother]
  · rw [hlatches, hrule]
  · rw [hframe]
  · rw [hframe]
    exact s.lineHold_latched src cause
  · rw [hframe]
    exact s.rollLift_latched src cause

end Sys2Proof.Machine
end

section
/-!
PROOFS. Statement O4: the frames of requests, as they are laid out and as they are read.
-/

namespace Sys2Proof.Machine

/-! ### Big-endian values (R184) -/

theorem bytes2_append (hi lo : Byte) : bytes2 (hi ++ lo) = [hi, lo] := by
  unfold bytes2
  rw [BitVec.extractLsb'_append_eq_left, BitVec.extractLsb'_append_eq_right]

theorem bytes2_ofBytes2 (hi lo : Byte) : bytes2 (ofBytes2 hi lo) = [hi, lo] := bytes2_append hi lo

/-- Four bytes are the two of the high half, then the two of the low half. -/
theorem bytes4_append (hi lo : BitVec 16) : bytes4 (hi ++ lo) = bytes2 hi ++ bytes2 lo := by
  have hhigh : ∀ start, 16 ≤ start →
      (hi ++ lo).extractLsb' start 8 = hi.extractLsb' (start - 16) 8 := fun _ =>
    BitVec.extractLsb'_append_eq_of_le
  have hlow : ∀ start, start + 8 ≤ 16 →
      (hi ++ lo).extractLsb' start 8 = lo.extractLsb' start 8 := fun _ =>
    BitVec.extractLsb'_append_eq_of_add_le
  unfold bytes4
  rw [hhigh 24 (by decide), hhigh 16 (by decide), hlow 8 (by decide), hlow 0 (by decide)]
  rfl

theorem bytes4_bytes (b3 b2 b1 b0 : Byte) :
    bytes4 ((b3 ++ b2) ++ (b1 ++ b0)) = [b3, b2, b1, b0] := by
  rw [bytes4_append, bytes2_append, bytes2_append]
  rfl

theorem bytes4_ofBytes4 (b3 b2 b1 b0 : Byte) : bytes4 (ofBytes4 b3 b2 b1 b0) = [b3, b2, b1, b0] :=
  bytes4_bytes b3 b2 b1 b0

theorem ofBytes2_bytes (x : BitVec 16) :
    ofBytes2 (x.extractLsb' 8 8) (x.extractLsb' 0 8) = x :=
  (BitVec.extractLsb'_append_extractLsb'_eq_extractLsb' rfl).trans BitVec.extractLsb'_eq_self

theorem ofBytes4_bytes (x : BitVec 32) :
    ofBytes4 (x.extractLsb' 24 8) (x.extractLsb' 16 8) (x.extractLsb' 8 8) (x.extractLsb' 0 8) =
      x := by
  have hhigh : x.extractLsb' 24 8 ++ x.extractLsb' 16 8 = x.extractLsb' 16 16 :=
    BitVec.extractLsb'_append_extractLsb'_eq_extractLsb' rfl
  have hlow : x.extractLsb' 8 8 ++ x.extractLsb' 0 8 = x.extractLsb' 0 16 :=
    BitVec.extractLsb'_append_extractLsb'_eq_extractLsb' rfl
  have hwhole : x.extractLsb' 16 16 ++ x.extractLsb' 0 16 = x.extractLsb' 0 32 :=
    BitVec.extractLsb'_append_extractLsb'_eq_extractLsb' rfl
  unfold ofBytes4
  rw [hhigh, hlow, hwhole]
  exact BitVec.extractLsb'_eq_self

/-! ### The lengths of bodies (R186) -/

/-- Each code of section 11.7 with the length of its body. -/
def requestLengths : List (Byte × Nat) :=
  [(codePoll, 0), (codeReportFetch, 1), (codeSheetsRead, 2), (codeStationRead, 1),
    (codeLaneRead, 1), (codeAlarmRead, 0), (codeClassSet, 12), (codeStationSet, 11),
    (codeGeometrySet, 21), (codeLineSet, 14), (codePlanSet, 5), (codeAlarmSet, 3),
    (codeBatchLoad, 7), (codeBatchCancel, 2), (codeLaneCmd, 2), (codeHaltAll, 0),
    (codeAlarmAck, 2), (codeRejectMark, 2), (codeUnitReset, 0)]

theorem mem_cons_of_ite {code c : Byte} {n m : Nat} {next : Option Nat} {rest : List (Byte × Nat)}
    (h : next = some n → (code, n) ∈ rest) :
    (if code = c then some m else next) = some n → (code, n) ∈ (c, m) :: rest := by
  split
  · next hc =>
    rintro ⟨⟩
    exact hc ▸ List.mem_cons_self
  · exact fun hn => List.mem_cons_of_mem _ (h hn)

theorem mem_requestLengths {code : Byte} {n : Nat} :
    bodyLength code = some n → (code, n) ∈ requestLengths := by
  unfold bodyLength requestLengths
  repeat apply mem_cons_of_ite
  exact fun h => by cases h

/-! ### The layouts of requests that hold words (R186) -/

theorem requestFrame_rejectMark (hi lo : Byte) :
    requestFrame (.rejectMark (ofBytes2 hi lo)) = some (codeRejectMark, [hi, lo]) := by
  unfold requestFrame
  simp only [bytes2_ofBytes2]

theorem requestFrame_classSet (cls n1 n0 t1 t0 l1 l0 g1 g0 width fold target : Byte) :
    requestFrame (.classSet ⟨cls, ofBytes2 n1 n0, ofBytes2 t1 t0, ofBytes2 l1 l0, ofBytes2 g1 g0,
      width, fold, target⟩) =
      some (codeClassSet, [cls, n1, n0, t1, t0, l1, l0, g1, g0, width, fold, target]) := by
  unfold requestFrame
  simp only [bytes2_ofBytes2]
  rfl

theorem requestFrame_stationSet (st d1 d0 o1 o0 dwell r1 r0 mode h1 h0 : Byte) :
    requestFrame (.stationSet ⟨st, ofBytes2 d1 d0, ofBytes2 o1 o0, dwell, ofBytes2 r1 r0, mode,
      ofBytes2 h1 h0⟩) =
      some (codeStationSet, [st, d1, d0, o1, o0, dwell, r1, r0, mode, h1, h0]) := by
  unfold requestFrame
  simp only [bytes2_ofBytes2]
  rfl

theorem requestFrame_geometrySet
    (l p3 p2 p1 p0 q3 q2 q1 q0 r3 r2 r1 r0 u1 u0 v1 v0 x1 x0 y1 y0 : Byte) :
    requestFrame (.geometrySet ⟨l, ofBytes4 p3 p2 p1 p0, ofBytes4 q3 q2 q1 q0,
      ofBytes4 r3 r2 r1 r0, ofBytes2 u1 u0, ofBytes2 v1 v0, ofBytes2 x1 x0, ofBytes2 y1 y0⟩) =
      some (codeGeometrySet, [l, p3, p2, p1, p0, q3, q2, q1, q0, r3, r2, r1, r0, u1, u0, v1, v0,
        x1, x0, y1, y0]) := by
  unfold requestFrame
  simp only [bytes2_ofBytes2, bytes4_ofBytes4]
  rfl

theorem requestFrame_lineSet (p fe l1 l0 h1 h0 v1 v0 tsc ts g1 g0 mode att : Byte) :
    requestFrame (.lineSet ⟨p, fe, ofBytes2 l1 l0, ofBytes2 h1 h0, ofBytes2 v1 v0, tsc, ts,
      ofBytes2 g1 g0, mode, att⟩) =
      some (codeLineSet, [p, fe, l1, l0, h1, h0, v1, v0, tsc, ts, g1, g0, mode, att]) := by
  unfold requestFrame
  simp only [bytes2_ofBytes2]
  rfl

theorem requestFrame_batchLoad (st i1 i0 cls n1 n0 fold : Byte) :
    requestFrame (.batchLoad ⟨st, ofBytes2 i1 i0, cls, ofBytes2 n1 n0, fold⟩) =
      some (codeBatchLoad, [st, i1, i0, cls, n1, n0, fold]) := by
  unfold requestFrame
  simp only [bytes2_ofBytes2]
  rfl

/-! ### What a frame is read as has that frame -/

theorem requestFrame_of_parseBatchCancel {station slot : Byte} {i : Instr}
    (h : parseBatchCancel station slot = .command i) :
    requestFrame i = some (codeBatchCancel, [station, slot]) := by
  unfold parseBatchCancel at h
  split_ifs at h with h0 h1
  · cases h
    rw [h0]
    rfl
  · cases h
    rw [h1]
    rfl

theorem requestFrame_of_parseLaneCmd {lane cmd : Byte} {i : Instr}
    (h : parseLaneCmd lane cmd = .command i) :
    requestFrame i = some (codeLaneCmd, [lane, cmd]) := by
  unfold parseLaneCmd at h
  split_ifs at h with h1 h2 h3 h4
  · cases h
    rw [h1]
    rfl
  · cases h
    rw [h2]
    rfl
  · cases h
    rw [h3]
    rfl
  · cases h
    rw [h4]
    rfl

/-- What a body of the length its code requires is read as has that frame. -/
theorem requestFrame_of_parseBody {code : Byte} {body : List Byte} {i : Instr}
    (hl : bodyLength code = some body.length) (h : parseBody code body = .command i) :
    requestFrame i = some (code, body) := by
  have hmem := mem_requestLengths hl
  unfold parseBody at h
  split at h
  case h_1 =>
    have hc : code = codePoll ∨ code = codeAlarmRead ∨ code = codeHaltAll ∨
        code = codeUnitReset := by simpa [requestLengths] using hmem
    rcases hc with rfl | rfl | rfl | rfl <;> cases h <;> rfl
  case h_2 =>
    have hc : code = codeReportFetch ∨ code = codeStationRead ∨ code = codeLaneRead := by
      simpa [requestLengths] using hmem
    rcases hc with rfl | rfl | rfl <;> cases h <;> rfl
  case h_3 a b =>
    have hc : code = codeSheetsRead ∨ code = codeBatchCancel ∨ code = codeLaneCmd ∨
        code = codeAlarmAck ∨ code = codeRejectMark := by simpa [requestLengths] using hmem
    rcases hc with rfl | rfl | rfl | rfl | rfl
    · cases h
      rfl
    · exact requestFrame_of_parseBatchCancel h
    · exact requestFrame_of_parseLaneCmd h
    · cases h
      rfl
    · cases h
      exact requestFrame_rejectMark a b
  case h_4 =>
    have hc : code = codeAlarmSet := by simpa [requestLengths] using hmem
    cases hc
    cases h
    rfl
  case h_5 =>
    have hc : code = codePlanSet := by simpa [requestLengths] using hmem
    cases hc
    cases h
    rfl
  case h_6 =>
    have hc : code = codeBatchLoad := by simpa [requestLengths] using hmem
    cases hc
    cases h
    exact requestFrame_batchLoad ..
  case h_7 =>
    have hc : code = codeStationSet := by simpa [requestLengths] using hmem
    cases hc
    cases h
    exact requestFrame_stationSet ..
  case h_8 =>
    have hc : code = codeClassSet := by simpa [requestLengths] using hmem
    cases hc
    cases h
    exact requestFrame_classSet ..
  case h_9 =>
    have hc : code = codeLineSet := by simpa [requestLengths] using hmem
    cases hc
    cases h
    exact requestFrame_lineSet ..
  case h_10 =>
    have hc : code = codeGeometrySet := by simpa [requestLengths] using hmem
    cases hc
    cases h
    exact requestFrame_geometrySet ..
  case h_11 => cases h

/-- A frame is read as a command only where its body has the length its code requires (R33). -/
theorem parseRequest_command {code : Byte} {body : List Byte} {i : Instr}
    (h : parseRequest code body = .command i) :
    bodyLength code = some body.length ∧ parseBody code body = .command i := by
  unfold parseRequest at h
  split at h
  · cases h
  · next n hn =>
    split_ifs at h with hlen
    exact ⟨hn.trans (congrArg some hlen.symm), h⟩

theorem requestFrame_of_parseRequest {code : Byte} {body : List Byte} {i : Instr}
    (h : parseRequest code body = .command i) : requestFrame i = some (code, body) := by
  obtain ⟨hlen, hbody⟩ := parseRequest_command h
  exact requestFrame_of_parseBody hlen hbody

/-! ### A request is read back from its frame -/

theorem parseRequest_of_requestFrame {i : Instr} {code : Byte} {body : List Byte}
    (h : requestFrame i = some (code, body)) : parseRequest code body = .command i := by
  cases i
  case classSet o =>
    cases h
    change Parsed.command (.classSet ⟨_, ofBytes2 _ _, ofBytes2 _ _, ofBytes2 _ _, ofBytes2 _ _,
      _, _, _⟩) = _
    simp only [ofBytes2_bytes]
  case stationSet o =>
    cases h
    change Parsed.command (.stationSet ⟨_, ofBytes2 _ _, ofBytes2 _ _, _, ofBytes2 _ _, _,
      ofBytes2 _ _⟩) = _
    simp only [ofBytes2_bytes]
  case geometrySet o =>
    cases h
    change Parsed.command (.geometrySet ⟨_, ofBytes4 _ _ _ _, ofBytes4 _ _ _ _, ofBytes4 _ _ _ _,
      ofBytes2 _ _, ofBytes2 _ _, ofBytes2 _ _, ofBytes2 _ _⟩) = _
    simp only [ofBytes2_bytes, ofBytes4_bytes]
  case lineSet o =>
    cases h
    change Parsed.command (.lineSet ⟨_, _, ofBytes2 _ _, ofBytes2 _ _, ofBytes2 _ _, _, _,
      ofBytes2 _ _, _, _⟩) = _
    simp only [ofBytes2_bytes]
  case batchLoad o =>
    cases h
    change Parsed.command (.batchLoad ⟨_, ofBytes2 _ _, _, ofBytes2 _ _, _⟩) = _
    simp only [ofBytes2_bytes]
  case rejectMark tag =>
    cases h
    exact congrArg (fun x => Parsed.command (.rejectMark x)) (ofBytes2_bytes tag)
  case haltAll broadcast =>
    cases broadcast <;> cases h
    rfl
  case unitReset broadcast =>
    cases broadcast <;> cases h
    rfl
  case poll | reportFetch | sheetsRead | stationRead | laneRead | alarmRead | planSet | alarmSet
      | batchCancelNext | batchCancelCurrent | laneCmdResume | laneCmdHalt | laneCmdPurge
      | laneCmdFlush | alarmAck =>
    cases h
    rfl
  all_goals cases h

theorem requestFrame_iff (i : Instr) (code : Byte) (body : List Byte) :
    requestFrame i = some (code, body) ↔ parseRequest code body = .command i :=
  ⟨parseRequest_of_requestFrame, requestFrame_of_parseRequest⟩

/-- Settles O4: the layouts by `requestFrame`, and the frames read and written by the length each
code requires. -/
theorem requestsAndFramesAgree : Obligations.RequestsAndFramesAgree :=
  ⟨⟨rfl, rfl, rfl, rfl, fun _ _ _ =>
      ⟨rfl, rfl, rfl, rfl, rfl, rfl, rfl, rfl, rfl, rfl, rfl, rfl⟩⟩,
    requestFrame_rejectMark, requestFrame_classSet, requestFrame_stationSet,
    requestFrame_geometrySet, requestFrame_lineSet, fun _ _ _ _ _ => rfl, requestFrame_batchLoad,
    requestFrame_iff⟩

end Sys2Proof.Machine
end

section
/-!
PROOFS. Statements O6, O7, O9 and O8: the receiver, the request discarded while a reply is pending,
and the sending of a reply.
-/

namespace Sys2Proof.Machine

/-! ### Rows taken outside a reset (R183) -/

theorem State.isRunning_iff (s : State) : s.isRunning = true ↔ s.resetPhase = .running :=
  decide_eq_true_iff

theorem State.whenRunning_of_running {s : State} (h : s.resetPhase = .running) (f : State → State) :
    s.whenRunning f = f s :=
  if_pos (s.isRunning_iff.2 h)

theorem State.whenRunning_of_reset {s : State} (h : s.resetPhase ≠ .running) (f : State → State) :
    s.whenRunning f = s :=
  if_neg (mt s.isRunning_iff.1 h)

/-- A row taken outside a reset alone, outside a reset. -/
theorem next_whenRunning {s : State} (h : s.resetPhase = .running) (f : State → State) :
    (.next (s.whenRunning f) : Host.Outcome State Fault Refusal) = .next (f s) :=
  congrArg _ (State.whenRunning_of_running h f)

/-! ### The receiver (R172 to R174) -/

/-- The unit takes characters: it is not in a reset, and the line has rested (R172, R183). -/
def State.Listens (s : State) : Prop := s.resetPhase = .running ∧ s.link.lineRested = true

theorem exec_linkCharacter {s : State} (h : s.Listens) {bits : BitVec 11}
    (hstart : startBitLow bits = true) : exec (.linkCharacter bits) s = .next (s.hear bits) := by
  obtain ⟨hrun, hrest⟩ := h
  refine congrArg Host.Outcome.next (if_pos ?_)
  simp [State.takesCharacter, s.isRunning_iff.2 hrun, hrest, hstart]

theorem exec_linkCharacter_of_not_taken {s : State} {bits : BitVec 11}
    (h : s.takesCharacter bits = false) : exec (.linkCharacter bits) s = .next s :=
  congrArg Host.Outcome.next (if_neg (by simp [h]))

theorem State.hear_framingError {s : State} {bits : BitVec 11} (h : framingError bits = true) :
    s.hear bits = s.setReceiver .hunting :=
  if_pos h

theorem State.hear_address {s : State} {bits : BitVec 11} (hstop : framingError bits = false)
    (hmark : characterMarker bits = true) :
    s.hear bits = s.setReceiver (s.link.address? (characterData bits)) := by
  simp [State.hear, hstop, hmark]

theorem State.hear_data_hunting {s : State} {bits : BitVec 11} (hstop : framingError bits = false)
    (hmark : characterMarker bits = false) (h : s.link.receiver = .hunting) : s.hear bits = s := by
  simp [State.hear, hstop, hmark, h]

theorem State.hear_data_receiving {s : State} {bits : BitVec 11} {f : RxFrame}
    (hstop : framingError bits = false) (hmark : characterMarker bits = false)
    (h : s.link.receiver = .receiving f) : s.hear bits = s.takeData f (characterData bits) := by
  simp [State.hear, hstop, hmark, h]

theorem State.takeData_before_chk {f : RxFrame} (h : f.step ≠ .chk) (s : State) (d : Byte) :
    s.takeData f d = s.setReceiver (f.take d) := by
  unfold State.takeData
  split
  · next hstep => exact absurd hstep h
  · rfl

theorem State.takeData_good {f : RxFrame} {d : Byte} (h : f.step = .chk) (hsum : f.sum d = 0)
    (s : State) : s.takeData f d = (s.setReceiver .hunting).handOn f := by
  simp only [State.takeData, h]
  exact if_pos hsum

theorem State.takeData_bad {f : RxFrame} {d : Byte} (h : f.step = .chk) (hsum : f.sum d ≠ 0)
    (s : State) : s.takeData f d = s.setReceiver .hunting := by
  simp only [State.takeData, h]
  exact if_neg hsum

theorem RxFrame.take_len {f : RxFrame} (h : f.step = .len) (d : Byte) : f.take d =
    if d.toNat ≤ 240 then .receiving { f with len := d, step := .code } else .hunting := by
  by_cases hd : d.toNat ≤ 240
  · simp [RxFrame.take, h, hd]
  · simp [RxFrame.take, h, hd, Nat.lt_of_not_le hd]

theorem RxFrame.take_code {f : RxFrame} (h : f.step = .code) (d : Byte) : f.take d =
    .receiving { f with code := d, left := f.len.toNat,
                        step := if f.len = 0 then .chk else .body } := by
  simp [RxFrame.take, h]

theorem RxFrame.take_body {f : RxFrame} (h : f.step = .body) (d : Byte) : f.take d =
    .receiving { f with body := f.body ++ [d], left := f.left - 1,
                        step := if f.left ≤ 1 then .chk else .body } := by
  simp [RxFrame.take, h]

/-- Settles O6: the character by its stop and marker bits, then by the receiver's step. -/
theorem theReceiverTakesCharacters : Obligations.TheReceiverTakesCharacters := by
  intro bits s hrun hrest hstart
  have hgood : bits.getLsbD 10 = true → framingError bits = false := congrArg not
  rw [exec_linkCharacter ⟨hrun, hrest⟩ (congrArg not hstart)]
  refine ⟨fun hstop => ?_, fun hstop hmark => ?_, fun hstop hmark => ⟨fun h => ?_, fun f h => ?_⟩⟩
  · rw [State.hear_framingError (congrArg not hstop)]
  · rw [State.hear_address (hgood hstop) hmark]
    rfl
  · rw [State.hear_data_hunting (hgood hstop) hmark h]
  · rw [State.hear_data_receiving (hgood hstop) hmark h]
    refine ⟨fun hstep => ?_, fun hstep => ?_, fun hstep => ?_, fun hstep hsum => ?_⟩
    · rw [State.takeData_before_chk (by simp [hstep]), RxFrame.take_len hstep]
      rfl
    · rw [State.takeData_before_chk (by simp [hstep]), RxFrame.take_code hstep]
      rfl
    · rw [State.takeData_before_chk (by simp [hstep]), RxFrame.take_body hstep]
      rfl
    · exact congrArg _ (State.takeData_bad hstep hsum s)

/-! ### Breaks, gaps and rests (R172, R174) -/

theorem State.lineBreak_hunting {s : State} (h : s.link.receiver = .hunting) : s.lineBreak = s := by
  simp only [State.lineBreak, h]

theorem State.lineBreak_receiving {s : State} {f : RxFrame} (h : s.link.receiver = .receiving f) :
    s.lineBreak = { s with link := { s.link with receiver := .hunting, lineRested := false } } := by
  simp only [State.lineBreak, h]

/-- Settles O7: each row by its effect outside a reset. -/
theorem breaksGapsAndRestsOfTheLine : Obligations.BreaksGapsAndRestsOfTheLine := by
  intro s hrun
  refine ⟨fun h => ?_, fun f h => ?_, next_whenRunning hrun _, next_whenRunning hrun _,
    fun hrest bits => ?_⟩
  · exact next_whenRunning_same (State.lineBreak_hunting h)
  · exact (next_whenRunning hrun _).trans (congrArg _ (State.lineBreak_receiving h))
  · exact exec_linkCharacter_of_not_taken (by simp [State.takesCharacter, hrest])

/-! ### Requests by their rows (R175, R177) -/

/-- The row of a request hands its frame on to the block that answers it (log entry 10). -/
theorem exec_of_requestFrame {i : Instr} {code : Byte} {body : List Byte}
    (h : requestFrame i = some (code, body)) (s : State) :
    exec i s = .next (s.request code (answer i)) := by
  cases i
  case haltAll broadcast =>
    cases broadcast <;> cases h
    rfl
  case unitReset broadcast =>
    cases broadcast <;> cases h
    rfl
  case poll | reportFetch | sheetsRead | stationRead | laneRead | alarmRead | classSet | stationSet
      | geometrySet | lineSet | planSet | alarmSet | batchLoad | batchCancelNext
      | batchCancelCurrent | laneCmdResume | laneCmdHalt | laneCmdPurge | laneCmdFlush | alarmAck
      | rejectMark =>
    cases h
    rfl
  all_goals cases h

/-- Settles O9: a request that finds a reply pending, and one that is not taken at all. -/
theorem requestsAreDiscardedWhileAReplyIsPending :
    Obligations.RequestsAreDiscardedWhileAReplyIsPending := by
  intro i code body s hframe
  rw [exec_of_requestFrame hframe]
  refine ⟨fun hrun haddr hreply => ?_, fun h => congrArg _ (State.request_ignored code h _)⟩
  obtain ⟨r, hr⟩ := Option.ne_none_iff_exists'.1 hreply
  exact congrArg _ (State.request_pending code hrun haddr hr _)

/-! ### Sending a reply (R176, R177, R182, R183) -/

theorem State.startReply_of_waiting {s : State} {r : Reply} (h : s.link.reply = some r)
    (hs : r.sending = false) : s.startReply = { s with link := { s.link with
      reply := some { r with sending := true }, receiver := .hunting } } := by
  simp [State.startReply, h, hs]

theorem State.endReply_of_sending {s : State} {r : Reply} (h : s.link.reply = some r)
    (hs : r.sending = true) :
    s.endReply = if r.resets then (s.clearShown r).beginReset else s.clearShown r := by
  simp [State.endReply, h, hs]

/-- A reset leaves nothing of the flags and of the reply. -/
theorem State.beginReset_clearShown (s : State) (r : Reply) :
    (s.clearShown r).beginReset = s.beginReset := rfl

theorem State.clearShown_eq (s : State) (r : Reply) : s.clearShown r = { s with
    link := { s.link with
      reply := none,
      overrun := if r.showsOverrun = true ∧ s.link.overrunSince = false then false
        else s.link.overrun,
      overrunSince := false },
    reports := { s.reports with
      lost := if r.isFetch = true ∧ r.showsLost = true ∧ s.reports.lostSince = false then false
        else s.reports.lost,
      lostSince := false } } := by
  have hflag : ∀ flag shown since : Bool, (flag && !(shown && !since)) =
      if shown = true ∧ since = false then false else flag := by decide
  have hboth : ∀ flag fetch shown since : Bool, (flag && !(fetch && shown && !since)) =
      if fetch = true ∧ shown = true ∧ since = false then false else flag := by decide
  rw [State.clearShown, hboth, hflag]

/-- Settles O8: the beginning marks the reply as being sent, and the end clears what it showed or
begins the reset. -/
theorem repliesAreSentAndClearTheirFlags : Obligations.RepliesAreSentAndClearTheirFlags := by
  intro s r hrun hreply
  refine ⟨fun hs => ?_, fun hs hresets => ?_, fun hs hresets => ?_⟩
  · exact (next_whenRunning hrun _).trans (congrArg _ (State.startReply_of_waiting hreply hs))
  · refine (next_whenRunning hrun _).trans (congrArg _ ?_)
    rw [State.endReply_of_sending hreply hs, if_neg (by simp [hresets]), State.clearShown_eq]
  · refine (next_whenRunning hrun _).trans
      (.trans (congrArg _ ?_) (next_whenRunning hrun State.beginReset).symm)
    rw [State.endReply_of_sending hreply hs, if_pos hresets, State.beginReset_clearShown]

end Sys2Proof.Machine
end

section
/-!
PROOFS. Statement O5: the characters of a complete frame, taken one by one, hand on what the frame
holds.
-/

namespace Sys2Proof.Machine

/-! ### A character as the line carries it (R169) -/

theorem getLsbD_characterOf (m : Bool) (d : Byte) (i : Nat) : (characterOf m d).getLsbD i =
    if i < 1 then (0#1).getLsbD i else if i - 1 < 8 then d.getLsbD (i - 1)
      else if i - 1 - 8 < 1 then (BitVec.ofBool m).getLsbD (i - 1 - 8)
      else (1#1).getLsbD (i - 1 - 8 - 1) := by
  unfold characterOf
  rw [BitVec.getLsbD_append, BitVec.getLsbD_append, BitVec.getLsbD_append]

theorem startBitLow_characterOf (m : Bool) (d : Byte) : startBitLow (characterOf m d) = true := by
  rw [startBitLow, getLsbD_characterOf]
  rfl

theorem framingError_characterOf (m : Bool) (d : Byte) :
    framingError (characterOf m d) = false := by
  rw [framingError, getLsbD_characterOf]
  rfl

theorem characterMarker_characterOf (m : Bool) (d : Byte) :
    characterMarker (characterOf m d) = m := by
  rw [characterMarker, getLsbD_characterOf]
  exact (BitVec.getLsbD_ofBool m 0).trans (Bool.true_and m)

theorem characterData_characterOf (m : Bool) (d : Byte) : characterData (characterOf m d) = d := by
  unfold characterData characterOf
  rw [BitVec.extractLsb'_append_eq_of_le (by decide)]
  exact BitVec.extractLsb'_append_eq_right

/-! ### Characters one by one -/

theorem runAll_cons {c : Instr} {rest : List Instr} {s t : State} (h : exec c s = .next t) :
    runAll (c :: rest) s = runAll rest t := by
  rw [runAll, h]

/-- A data byte on the line. -/
def dataCharacter (d : Byte) : Instr := .linkCharacter (characterOf false d)

section
variable {s : State} (h : s.Listens)
include h

theorem State.Listens.setReceiver (r : Receiver) : (s.setReceiver r).Listens := h

theorem runAll_address (a : Byte) (rest : List Instr) :
    runAll (.linkCharacter (characterOf true a) :: rest) s =
      runAll rest (s.setReceiver (s.link.address? a)) := by
  refine runAll_cons ?_
  rw [exec_linkCharacter h (startBitLow_characterOf true a),
    State.hear_address (framingError_characterOf true a) (characterMarker_characterOf true a),
    characterData_characterOf]

theorem runAll_data (f : RxFrame) (d : Byte) (rest : List Instr) :
    runAll (dataCharacter d :: rest) (s.setReceiver (.receiving f)) =
      runAll rest ((s.setReceiver (.receiving f)).takeData f d) := by
  refine runAll_cons ?_
  rw [dataCharacter, exec_linkCharacter (h.setReceiver _) (startBitLow_characterOf false d),
    State.hear_data_receiving (framingError_characterOf false d)
      (characterMarker_characterOf false d) rfl, characterData_characterOf]

theorem runAll_data_before_chk {f : RxFrame} (hf : f.step ≠ .chk) (d : Byte) (rest : List Instr) :
    runAll (dataCharacter d :: rest) (s.setReceiver (.receiving f)) =
      runAll rest (s.setReceiver (f.take d)) := by
  rw [runAll_data h, State.takeData_before_chk hf]
  rfl

/-- The bytes of a body are collected in their order (R173). -/
theorem runAll_body (b : Bool) (len code d : Byte) (rest got : List Byte) (more : List Instr) :
    runAll ((d :: rest).map dataCharacter ++ more)
        (s.setReceiver (.receiving ⟨b, .body, len, code, (d :: rest).length, got⟩)) =
      runAll more (s.setReceiver (.receiving ⟨b, .chk, len, code, 0, got ++ d :: rest⟩)) := by
  induction rest generalizing d got with
  | nil =>
    rw [List.map_singleton, List.singleton_append,
      runAll_data_before_chk h RxStep.noConfusion, RxFrame.take_body rfl]
    rfl
  | cons e rest ih =>
    rw [List.map_cons, List.cons_append, runAll_data_before_chk h RxStep.noConfusion,
      RxFrame.take_body rfl, List.append_cons got d (e :: rest)]
    exact ih e (got ++ [d])

/-- LEN, CODE and the body of a frame started at its address character. -/
theorem runAll_upToChk (b : Bool) {code : Byte} {body : List Byte} (hlen : body.length ≤ 240)
    (more : List Instr) :
    runAll ((BitVec.ofNat 8 body.length :: code :: body).map dataCharacter ++ more)
        (s.setReceiver (.receiving (.start b))) =
      runAll more (s.setReceiver
        (.receiving ⟨b, .chk, BitVec.ofNat 8 body.length, code, 0, body⟩)) := by
  have hnat : (BitVec.ofNat 8 body.length).toNat = body.length := by
    rw [BitVec.toNat_ofNat]
    omega
  rw [List.map_cons, List.cons_append, runAll_data_before_chk h RxStep.noConfusion,
    RxFrame.take_len rfl, if_pos (hnat.trans_le hlen), List.map_cons, List.cons_append,
    runAll_data_before_chk h RxStep.noConfusion, RxFrame.take_code rfl]
  simp only [hnat]
  cases body with
  | nil => rfl
  | cons d rest =>
    have hne : BitVec.ofNat 8 (d :: rest).length ≠ 0 := fun h0 => by
      rw [h0] at hnat
      cases hnat
    rw [if_neg hne]
    exact runAll_body h b _ code d rest [] more

/-- A complete frame with a good check byte is handed on (R173, R175). -/
theorem runAll_frame (hhunt : s.link.receiver = .hunting) {a : Byte} {b : Bool}
    (ha : s.link.address? a = .receiving (.start b)) {code : Byte} {body : List Byte}
    (hlen : body.length ≤ 240) :
    runAll ((frameCharacters a code body).map .linkCharacter) s = .next
      (if b then s.takeBroadcast code body else s.request code (answerFrame code body)) := by
  have hchars : (frameCharacters a code body).map Instr.linkCharacter =
      .linkCharacter (characterOf true a) ::
        ((BitVec.ofNat 8 body.length :: code :: body).map dataCharacter ++
          [dataCharacter (0 - (BitVec.ofNat 8 body.length + code + byteSum body))]) := by
    simp [frameCharacters, frameBytes, dataCharacter, Function.comp_def]
  have hsum : ∀ f : RxFrame, f.sum (0 - (f.len + f.code + byteSum f.body)) = 0 := fun f => by
    simp [RxFrame.sum]
  have hback : (s.setReceiver .hunting) = s := by
    rw [State.setReceiver, ← hhunt]
  rw [hchars, runAll_address h, ha, runAll_upToChk h b hlen, runAll_data h,
    State.takeData_good rfl (hsum _)]
  change Host.Outcome.next ((s.setReceiver .hunting).handOn _) = _
  rw [hback]
  rfl

end

/-! ### What a frame hands on -/

/-- A frame at the unit's own address is a request (R172, R175). -/
theorem runAll_frame_addressed {s : State} (h : s.Listens) (hhunt : s.link.receiver = .hunting)
    (haddr : s.link.address ≠ 0) (code : Byte) {body : List Byte} (hlen : body.length ≤ 240) :
    runAll ((frameCharacters (s.link.address.setWidth 8) code body).map .linkCharacter) s =
      .next (s.request code (answerFrame code body)) := by
  have hne : s.link.address.setWidth 8 ≠ 0 := fun h0 => haddr (by bv_omega)
  have hown : s.link.address? (s.link.address.setWidth 8) = .receiving (.start false) :=
    (if_neg hne).trans (if_pos rfl)
  exact runAll_frame h hhunt hown hlen

/-- A frame at address 0 is a broadcast (R172, R178). -/
theorem runAll_frame_broadcast {s : State} (h : s.Listens) (hhunt : s.link.receiver = .hunting)
    (code : Byte) {body : List Byte} (hlen : body.length ≤ 240) :
    runAll ((frameCharacters 0 code body).map .linkCharacter) s =
      .next (s.takeBroadcast code body) :=
  runAll_frame h hhunt (if_pos rfl) hlen

theorem length_of_requestFrame {i : Instr} {code : Byte} {body : List Byte}
    (h : requestFrame i = some (code, body)) : body.length ≤ 240 := by
  have hshort : ∀ p ∈ requestLengths, p.2 ≤ 240 := by decide
  obtain ⟨hlen, -⟩ := parseRequest_command (parseRequest_of_requestFrame h)
  exact hshort _ (mem_requestLengths hlen)

theorem answerFrame_of_requestFrame {i : Instr} {code : Byte} {body : List Byte}
    (h : requestFrame i = some (code, body)) : answerFrame code body = answer i := by
  funext s
  rw [answerFrame, parseRequest_of_requestFrame h]

theorem State.takeBroadcast_other {s : State} {code : Byte} {body : List Byte}
    (h : body ≠ [] ∨ (code ≠ codeHaltAll ∧ code ≠ codeUnitReset)) :
    s.takeBroadcast code body = s := by
  unfold State.takeBroadcast
  rcases h with hbody | ⟨hhalt, hreset⟩
  · exact if_neg hbody
  · rw [if_neg hhalt, if_neg hreset, ite_self]

/-- A frame refused by the first test of R33 is answered with that result and changes nothing
else. -/
theorem State.request_refused {s : State} (hready : s.Ready) {code : Byte} {body : List Byte}
    {r : Result} (hr : r ≠ .ok) (h : parseRequest code body = .refused r) :
    s.request code (answerFrame code body) = s.answered code r [] false := by
  have hanswer : answerFrame code body s = refuse r s := by rw [answerFrame, h]
  rw [State.request_ready code hready, hanswer, State.respond_refuse s code hr]

theorem parseRequest_unknown {code : Byte} (body : List Byte) (h : bodyLength code = none) :
    parseRequest code body = .refused .unknownCode := by
  simp only [parseRequest, h]

theorem parseRequest_badLength {code : Byte} {body : List Byte} {n : Nat}
    (h : bodyLength code = some n) (hlen : body.length ≠ n) :
    parseRequest code body = .refused .badLength := by
  simp only [parseRequest, h]
  exact if_neg hlen

/-- The slot codes and command codes that name nothing (R44, section 9.2). -/
theorem parseRequest_badValue {code a b : Byte}
    (h : (code = 0x21 ∧ 1 < b.toNat) ∨ (code = 0x22 ∧ (b.toNat = 0 ∨ 4 < b.toNat))) :
    parseRequest code [a, b] = .refused .badValue := by
  rcases h with ⟨rfl, hb⟩ | ⟨rfl, hb⟩
  · have hslot : ∀ k : Byte, k.toNat ≤ 1 → b ≠ k := by
      rintro k hk rfl
      omega
    change parseBatchCancel a b = _
    rw [parseBatchCancel, if_neg (hslot 0 (by decide)), if_neg (hslot 1 (by decide))]
  · have hcmd : ∀ k : Byte, 1 ≤ k.toNat → k.toNat ≤ 4 → b ≠ k := by
      rintro k hk hk' rfl
      omega
    change parseLaneCmd a b = _
    rw [parseLaneCmd, if_neg (hcmd 1 (by decide) (by decide)),
      if_neg (hcmd 2 (by decide) (by decide)), if_neg (hcmd 3 (by decide) (by decide)),
      if_neg (hcmd 4 (by decide) (by decide))]

/-- Settles O5: the characters hand the frame on (`runAll_frame`), and what is handed on is the
request it spells, a broadcast, or a refusal. -/
theorem aFrameOnTheLineIsItsRequest : Obligations.AFrameOnTheLineIsItsRequest := by
  intro s hrun hrest hhunt
  have hlisten : s.Listens := ⟨hrun, hrest⟩
  have hbroadcast := fun code body => runAll_frame_broadcast (body := body) hlisten hhunt code
  refine ⟨fun haddr i code body hframe => ?_, ?_, ?_, fun code body hlen hother => ?_,
    fun haddr hreply code body hlen => ?_⟩
  · rw [runAll_frame_addressed hlisten hhunt haddr code (length_of_requestFrame hframe),
      answerFrame_of_requestFrame hframe, exec_of_requestFrame hframe]
  · exact (hbroadcast 0x23 [] (by decide)).trans (next_whenRunning hrun State.haltEvery).symm
  · exact (hbroadcast 0x2F [] (by decide)).trans (next_whenRunning hrun State.beginReset).symm
  · rw [hbroadcast code body hlen, State.takeBroadcast_other hother]
  · have hrefused : ∀ r : Result, r ≠ .ok → parseRequest code body = .refused r →
        runAll ((frameCharacters (s.link.address.setWidth 8) code body).map .linkCharacter) s =
          .next (s.answered code r [] false) := fun r hr hparse => by
      rw [runAll_frame_addressed hlisten hhunt haddr code hlen,
        State.request_refused ⟨hrun, haddr, hreply⟩ hr hparse]
    refine ⟨fun h => ?_, fun n hn hne => ?_, fun a b hbody h => ?_⟩
    · exact hrefused _ (by decide) (parseRequest_unknown body h)
    · exact hrefused _ (by decide) (parseRequest_badLength hn hne)
    · exact hrefused _ (by decide) (hbody ▸ parseRequest_badValue h)

end Sys2Proof.Machine
end

section
/-!
PROOFS. Statements O10 and O13: the status header, and the oldest reports removed and sent.
-/

namespace Sys2Proof.Machine

/-! ### The status header (R179, R180) -/

/-- Each flag of byte 0 stands in its own bit. -/
theorem getLsbD_flagBits (a b c d e f g : Bool) : ∃ x : Byte,
    byteOf (flagBit a 1 + flagBit b 2 + flagBit c 4 + flagBit d 8 + flagBit e 16 + flagBit f 32 +
      flagBit g 64) = x ∧ x.getLsbD 0 = a ∧ x.getLsbD 1 = b ∧ x.getLsbD 2 = c ∧ x.getLsbD 3 = d ∧
      x.getLsbD 4 = e ∧ x.getLsbD 5 = f ∧ x.getLsbD 6 = g ∧ x.getLsbD 7 = false := by
  refine ⟨_, rfl, ?_⟩
  revert a b c d e f g
  decide

theorem State.planChanging_eq (s : State) :
    s.planChanging = decide (s.phase = .track ∨ s.phase = .stack) := by
  unfold State.planChanging
  cases s.phase <;> rfl

/-- A lane state in the two bits byte 5 gives it. -/
def LaneState.bits : LaneState → BitVec 2
  | .closed => 0
  | .halted => 1
  | .opened => 2
  | .draining => 3

theorem LaneState.code_eq (x : LaneState) : x.code = x.bits.setWidth 8 := by
  cases x <;> rfl

theorem extractLsb'_twoBits (a b c d : BitVec 2) : ∃ x : Byte,
    a.setWidth 8 + b.setWidth 8 * 4 + c.setWidth 8 * 16 + d.setWidth 8 * 64 = x ∧
      x.extractLsb' 0 2 = a ∧ x.extractLsb' 2 2 = b ∧ x.extractLsb' 4 2 = c ∧
      x.extractLsb' 6 2 = d := by
  refine ⟨_, rfl, ?_⟩
  have ha := a.isLt
  have hb := b.isLt
  have hc := c.isLt
  have hd := d.isLt
  have hsum : (a.setWidth 8 + b.setWidth 8 * 4 + c.setWidth 8 * 16 + d.setWidth 8 * 64).toNat =
      a.toNat + 4 * b.toNat + 16 * c.toNat + 64 * d.toNat := by
    simp only [BitVec.toNat_add, BitVec.toNat_mul, BitVec.toNat_setWidth, BitVec.ofNat_eq_ofNat,
      BitVec.toNat_ofNat]
    omega
  simp only [← BitVec.toNat_inj, BitVec.extractLsb'_toNat, hsum, Nat.shiftRight_eq_div_pow]
  omega

theorem State.laneStatesByte_bits (s : State) (l : LaneNo) :
    s.laneStatesByte.extractLsb' (2 * l.val) 2 = (s.lane l).state.bits := by
  obtain ⟨x, hx, h0, h1, h2, h3⟩ := extractLsb'_twoBits (s.lane 0).state.bits (s.lane 1).state.bits
    (s.lane 2).state.bits (s.lane 3).state.bits
  have hbyte : s.laneStatesByte = x := by
    simp only [State.laneStatesByte, LaneState.code_eq, ← hx]
  rw [hbyte]
  fin_cases l
  · exact h0
  · exact h1
  · exact h2
  · exact h3

/-- Bytes 2 to 4, with and without a current alarm (R167). -/
theorem Alarms.currentData_eq (a : Alarms) : ∃ kind index count : Byte,
    a.currentData = [kind, index, count] ∧
    (a.current = none → kind = 0 ∧ index = 0 ∧ count = 0) ∧
    ∀ src, a.current = some src → kind = src.kind.code ∧ index = src.index ∧
      count = BitVec.ofNat 8 (a.latches.get src).count := by
  unfold Alarms.currentData
  cases a.current with
  | none => exact ⟨0, 0, 0, rfl, fun _ => ⟨rfl, rfl, rfl⟩, fun _ h => by cases h⟩
  | some src =>
    refine ⟨_, _, _, rfl, fun h => (by cases h), fun other h => ?_⟩
    cases h
    exact ⟨rfl, rfl, rfl⟩

/-- Settles O10: the flags bit by bit, the current alarm's bytes, and the lane states in byte 5. -/
theorem theStatusHeaderShowsTheState : Obligations.TheStatusHeaderShowsTheState := by
  intro s
  obtain ⟨flags, hflags, h0, h1, h2, h3, h4, h5, h6, h7⟩ := getLsbD_flagBits s.estop s.lineHold
    s.rollLift s.planChanging s.reports.lost s.link.overrun s.inputs.ironerRun
  obtain ⟨kind, index, count, hcurrent, hnone, hsome⟩ := s.alarms.currentData_eq
  refine ⟨flags, kind, index, count, s.laneStatesByte, ?_, h0, h1, h2,
    h3.trans s.planChanging_eq, h4, h5, h6, h7, hnone, hsome, fun l => ?_⟩
  · rw [State.header, State.flagsByte, hflags, hcurrent]
    rfl
  · rw [State.laneStatesByte_bits]
    cases (s.lane l).state <;> rfl

/-! ### REPORT_FETCH (R168, R182) -/

theorem clampTo_fetch (x : Nat) :
    clampTo 1 8 x = if x = 0 then 1 else if 8 < x then 8 else x := by
  unfold clampTo
  split_ifs <;> omega

theorem State.dropReports_eq (s : State) (n : Nat) : s.dropReports n = { s with
    reports := { s.reports with queue := s.reports.queue.drop n },
    attn := s.alarms.current.isSome ||
      (s.params.attention && !(s.reports.queue.drop n).isEmpty) } := rfl

theorem fetchData_eq (q : List Report) (n : Nat) :
    fetchData q n = BitVec.ofNat 8 (min n q.length) :: (q.take n).flatMap Report.encode := by
  rw [fetchData, List.length_take]
  rfl

/-- Settles O13: the count clamped, the reports dropped from the queue and placed in the reply. -/
theorem reportFetchRemovesTheOldestReports :
    Obligations.ReportFetchRemovesTheOldestReports := by
  intro max n s hready hn
  have hclamp : clampTo 1 8 max.toNat = n := (clampTo_fetch _).trans hn.symm
  have hneeds : needsClamp 1 8 max.toNat = true ↔ max.toNat = 0 ∨ 8 < max.toNat := by
    rw [needsClamp_iff, Nat.lt_one_iff]
  refine next_request hready ?_
  rw [answerReportFetch, hclamp, State.respond_carryOut _ _ (by decide), fetchData_eq,
    State.dropReports_eq]
  simp only [hneeds]
  rfl

end Sys2Proof.Machine
end

section
/-!
PROOFS. Statements O31 and O32: UNIT_RESET, the reset interval, and what is taken in a reset.
-/

namespace Sys2Proof.Machine

/-! ### What an ESTOP activation leaves of eyes, link and alarm unit (R158) -/

@[simp] theorem State.eyeBanks_afterClampCycle (s : State) (st : StationNo) :
    (s.afterClampCycle st).eyeBanks = s.eyeBanks := by
  unfold State.afterClampCycle
  (repeat' split) <;> simp

@[simp] theorem State.eyeBanks_stopStation (s : State) (st : StationNo) :
    (s.stopStation st).eyeBanks = s.eyeBanks := by
  unfold State.stopStation
  split <;> simp

theorem State.eyeBanks_stopStations (s : State) : s.stopStations.eyeBanks = s.eyeBanks := by
  unfold State.stopStations
  rw [inFreeOrder_const State.eyeBanks State.eyeBanks_draw fun st t => t.eyeBanks_stopStation st]
  exact forEach_const State.eyeBanks (fun st t => t.eyeBanks_stopStation st) _ _

theorem State.eyeBanks_activateEstop (s : State) : s.activateEstop.eyeBanks = s.eyeBanks := by
  have hstopped : ∀ t : State, (t.mapLanes Lane.stopped).eyeBanks = t.eyeBanks := fun _ => rfl
  rw [State.activateEstop_eq, hstopped, State.eyeBanks_stopStations, State.estopOccurred,
    State.eyeBanks_occur]
  rfl

/-- The latch of ESTOP alone takes an occurrence. -/
theorem State.latch_activateEstop (s : State) : s.activateEstop.alarms.latches.get .estop =
    (s.alarms.latches.get .estop).occur causeActivated := by
  have hstopped : ∀ t : State, (t.mapLanes Lane.stopped).lines = t.lines := fun _ => rfl
  have hlines : s.activateEstop.lines = s.estopOccurred.lines := by
    rw [State.activateEstop_eq, hstopped, State.lines_stopStations]
  have halarms : ∀ t : State, t.alarms = t.lines.alarms := fun _ => rfl
  rw [halarms s.activateEstop, hlines, ← halarms, State.estopOccurred,
    State.alarms_occur_estop, Alarms.latches_applyRule, Latches.get_set, if_pos rfl]
  rfl

/-! ### The reset interval (R183) -/

theorem State.endReset_of_interval {s : State} {ms : Nat} (h : s.resetPhase = .interval ms) :
    s.endReset = if s.inputs.estop then s.resetOver.activateEstop else s.resetOver := by
  simp only [State.endReset, h]
  rfl

/-- The end of the reset interval with the ESTOP input active (R18). -/
theorem State.activateEstop_resetOver (s : State) :
    s.resetOver.activateEstop.resetPhase = .running ∧ s.resetOver.activateEstop.estop = true ∧
      s.resetOver.activateEstop.link.address = s.inputs.addrSwitches ∧
      (s.resetOver.activateEstop.alarms.latches.get .estop) =
        (s.alarms.latches.get .estop).occur causeActivated ∧
      ∀ l k, s.resetOver.activateEstop.eye l k = .settled (s.eye l k).raw := by
  have hkept := s.resetOver.kept_activateEstop
  have hlatch := s.resetOver.latch_activateEstop
  have heyes : ∀ l k, s.resetOver.activateEstop.eye l k = .settled (s.eye l k).raw := fun l k => by
    rw [State.eye_of_eyeBanks s.resetOver.eyeBanks_activateEstop, State.eye, State.lane_resetOver,
      Quad.get_map]
    rfl
  generalize s.resetOver.activateEstop = t at hkept hlatch heyes ⊢
  exact ⟨congrArg Kept.resetPhase hkept, congrArg Kept.estop hkept,
    congrArg (fun x : Kept => x.link.address) hkept, hlatch, heyes⟩

/-- Settles O31: the answer, the begin of the interval, and its end with the ESTOP input inactive or
active. -/
theorem unitResetsAndTheResetInterval : Obligations.UnitResetsAndTheResetInterval := by
  intro s
  refine ⟨fun hready => next_request hready rfl, fun hrun => ⟨_, rfl, ?_⟩,
    fun hheld => congrArg Host.Outcome.next (if_pos hheld),
    fun ms hms => ⟨fun hin => ?_, fun hin => ?_⟩⟩
  · exact next_whenRunning hrun State.beginReset
  · refine congrArg Host.Outcome.next ((State.endReset_of_interval hms).trans ?_)
    rw [if_neg (by simp [hin])]
    rfl
  · obtain ⟨hphase, hestop, haddr, hlatch, heyes⟩ := s.activateEstop_resetOver
    refine ⟨s.resetOver.activateEstop, congrArg Host.Outcome.next ?_, hphase, hestop, haddr, ?_,
      fun hclear => ?_, heyes⟩
    · rw [State.endReset_of_interval hms, if_pos hin]
    · rw [hlatch, Latch.occur_eq]
      split <;> rfl
    · rw [hlatch, Latch.occur_eq, if_neg (by simp [hclear])]
      rfl

/-! ### What is taken in a reset (R183) -/

theorem State.setEye_eye (s : State) (l : LaneNo) (k : EyeNo) : s.setEye l k (s.eye l k) = s := by
  rw [State.setEye, State.modLane_eq, State.eye, Quad.set_get_self]
  exact s.setLane_lane l

theorem exec_eyeRawChange_in_reset {s : State} (h : s.resetPhase ≠ .running) (l : LaneNo)
    (k : EyeNo) (covered : Bool) : exec (.eyeRawChange l k covered) s = .next (s.setEye l k
      (if covered = (s.eye l k).raw then s.eye l k else ⟨covered, covered, none⟩)) := by
  have hreset : ¬ s.isRunning = true := mt s.isRunning_iff.1 h
  refine congrArg Host.Outcome.next ?_
  by_cases hraw : covered = (s.eye l k).raw
  · rw [if_pos hraw, if_pos hraw, State.setEye_eye]
  · rw [if_neg hraw, if_neg hraw, if_neg hreset]
    rfl

theorem exec_estopInactiveEdge_in_reset {s : State} (h : s.resetPhase ≠ .running) :
    exec .estopInactiveEdge s = .next { s with inputs := { s.inputs with estop := false } } := by
  refine congrArg Host.Outcome.next ?_
  by_cases hin : s.inputs.estop = true
  · rw [if_pos hin]
    exact State.whenRunning_of_reset (s := s.setEstopInput false) h _
  · have hlow : s.inputs.estop = false := Bool.eq_false_iff.2 hin
    rw [if_neg hin, ← hlow]

/-- Settles O32: rows outside a reset, characters and requests are not taken, and the two inputs
follow their levels. -/
theorem nothingIsTakenInAReset : Obligations.NothingIsTakenInAReset := by
  intro c s h
  cases c
  case resetPin => exact .inr (.inl rfl)
  case resetPinRelease => exact .inr (.inr (.inl rfl))
  case resetEnd => exact .inr (.inr (.inr (.inl rfl)))
  case eyeRawChange l k covered =>
    exact .inr (.inr (.inr (.inr (.inl
      ⟨l, k, covered, rfl, exec_eyeRawChange_in_reset h l k covered⟩))))
  case estopActivation =>
    exact .inr (.inr (.inr (.inr (.inr (.inl ⟨rfl, congrArg Host.Outcome.next
      (State.whenRunning_of_reset (s := s.setEstopInput true) h _)⟩)))))
  case estopInactiveEdge =>
    exact .inr (.inr (.inr (.inr (.inr (.inr ⟨rfl, exec_estopInactiveEdge_in_reset h⟩)))))
  case linkCharacter bits =>
    refine .inl (exec_linkCharacter_of_not_taken ?_)
    simp [State.takesCharacter, State.isRunning, h]
  case haltAll broadcast =>
    left
    cases broadcast
    · exact congrArg Host.Outcome.next (State.request_ignored _ (.inl h) _)
    · exact congrArg Host.Outcome.next (State.whenRunning_of_reset h _)
  case unitReset broadcast =>
    left
    cases broadcast
    · exact congrArg Host.Outcome.next (State.request_ignored _ (.inl h) _)
    · exact congrArg Host.Outcome.next (State.whenRunning_of_reset h _)
  case poll | reportFetch | sheetsRead | stationRead | laneRead | alarmRead | classSet | stationSet
      | geometrySet | lineSet | planSet | alarmSet | batchLoad | batchCancelNext
      | batchCancelCurrent | laneCmdResume | laneCmdHalt | laneCmdPurge | laneCmdFlush | alarmAck
      | rejectMark =>
    exact .inl (congrArg Host.Outcome.next (State.request_ignored _ (.inl h) _))
  case encPulse | travelAdvance | gateEnd | edgeAccepted | deadlinePass | runHoldExpiry | release
      | pedalEdge | openTimeExpiry | dwellExpiry | returnTimeExpiry | foldStrobeEnd | foldGapEnd
      | clearEdge | stackerTimeout | scorchTimerExpiry | estopDeactivation | linkBreak
      | frameGapTimeout | replyStart | replyEnd | lineRestedHigh =>
    exact .inl (congrArg Host.Outcome.next (State.whenRunning_of_reset h _))

end Sys2Proof.Machine
end

section
/-!
PROOFS. Statements O11, O30 and O60: the bytes of reports and replies, and the state the RESET pin
and the end of a reset leave.
-/

namespace Sys2Proof.Machine

/-! ### Reports (R185) -/

theorem Report.length_encode (r : Report) : r.encode.length = 12 := by
  cases r <;> rfl

theorem Report.encode_sheetDone (tag : Nat) (l : LaneNo) (origin : Option StationNo) (batch : Nat)
    (c : ClassNo) (o : DoneOutcome) (cause : Option RejectCause) :
    (Report.sheetDone tag l origin batch c o cause).encode =
      [1, BitVec.ofNat 8 (tag / 256), BitVec.ofNat 8 tag, BitVec.ofNat 8 l.val, originByte origin,
        BitVec.ofNat 8 (batch / 256), BitVec.ofNat 8 batch, BitVec.ofNat 8 c.val, o.code,
        causeByte cause, 0, 0] := by
  rw [Report.encode, wordOf_eq, wordOf_eq]
  rfl

theorem Report.encode_sheetLost (tag : Nat) (l : LaneNo) (origin : Option StationNo) (batch : Nat)
    (c : ClassNo) (lost : LostCause) (cause : Option RejectCause) :
    (Report.sheetLost tag l origin batch c lost cause).encode =
      [2, BitVec.ofNat 8 (tag / 256), BitVec.ofNat 8 tag, BitVec.ofNat 8 l.val, originByte origin,
        BitVec.ofNat 8 (batch / 256), BitVec.ofNat 8 batch, BitVec.ofNat 8 c.val, lost.code,
        causeByte cause, 0, 0] := by
  rw [Report.encode, wordOf_eq, wordOf_eq]
  rfl

theorem Report.encode_stackDone (l : LaneNo) (batch : Nat) (c : ClassNo) (count : Nat)
    (reason : StackReason) : (Report.stackDone l batch c count reason).encode =
      [3, BitVec.ofNat 8 l.val, BitVec.ofNat 8 (batch / 256), BitVec.ofNat 8 batch,
        BitVec.ofNat 8 c.val, BitVec.ofNat 8 count, reason.code, 0, 0, 0, 0, 0] := by
  rw [Report.encode, wordOf_eq]
  rfl

theorem Report.encode_batchEnd (st : StationNo) (batch pieces delivered : Nat) (cancelled : Bool) :
    (Report.batchEnd st batch pieces delivered cancelled).encode =
      [4, BitVec.ofNat 8 st.val, BitVec.ofNat 8 (batch / 256), BitVec.ofNat 8 batch,
        BitVec.ofNat 8 (pieces / 256), BitVec.ofNat 8 pieces, BitVec.ofNat 8 (delivered / 256),
        BitVec.ofNat 8 delivered, (if cancelled then 1 else 0), 0, 0, 0] := by
  rw [Report.encode, wordOf_eq, wordOf_eq, wordOf_eq]
  rfl

/-! ### Record summaries and reply data (R94, R186) -/

theorem Record.summary_eq (r : Record) : r.summary =
    [BitVec.ofNat 8 (r.tag / 256), BitVec.ofNat 8 r.tag, r.originClass,
      BitVec.ofNat 8 (r.batch / 256), BitVec.ofNat 8 r.batch, r.nextEye.code, causeByte r.cause,
      BitVec.ofNat 8 ((if r.te0 = none then 0 else 1) + (if r.folded = true then 2 else 0))] ++
      bytes4 (r.releasePos.getD 0) ++ bytes4 r.entryPosition := by
  have hpassed : (if r.te0.isSome then 1 else 0) = if r.te0 = none then 0 else 1 := by
    cases r.te0 <;> rfl
  rw [Record.summary, wordOf_eq, wordOf_eq, hpassed]
  rfl

theorem Record.entryPosition_eq (r : Record) : r.entryPosition =
    if r.nextEye = .e0 then r.predLe0.getD 0 else r.le0.getD 0 := by
  unfold Record.entryPosition
  cases r.nextEye <;> rfl

theorem slotData_some (b : Batch) : slotData (some b) =
    [1, BitVec.ofNat 8 (b.id / 256), BitVec.ofNat 8 b.id, BitVec.ofNat 8 b.cls.val,
      BitVec.ofNat 8 (b.pieces / 256), BitVec.ofNat 8 b.pieces, BitVec.ofNat 8 (b.remaining / 256),
      BitVec.ofNat 8 b.remaining, BitVec.ofNat 8 (b.foldOverride.getD 0)] := by
  rw [slotData, wordOf_eq, wordOf_eq, wordOf_eq]
  rfl

theorem stationData_eq (x : Station) (g : Bool) : stationData x g =
    [x.state.code, (if g then 1 else 0), BitVec.ofNat 8 x.outstanding] ++ slotData x.current ++
      slotData x.next ++
      [BitVec.ofNat 8 (x.params.drop / 256), BitVec.ofNat 8 x.params.drop,
        BitVec.ofNat 8 (x.params.openMs / 256), BitVec.ofNat 8 x.params.openMs,
        BitVec.ofNat 8 x.params.dwellMs, BitVec.ofNat 8 (x.params.returnMs / 256),
        BitVec.ofNat 8 x.params.returnMs, x.params.mode.code,
        BitVec.ofNat 8 (x.params.hold / 256), BitVec.ofNat 8 x.params.hold] := by
  rw [stationData, wordOf_eq, wordOf_eq, wordOf_eq, wordOf_eq]
  simp only [List.append_assoc]
  rfl

theorem stackData_empty {x : Stacker} (h : x.state = .empty) : stackData x = zeros 10 := by
  simp only [stackData, h]

theorem stackData_building {x : Stacker} {p : Pile} (h : x.state = .building p) :
    stackData x =
      [1, BitVec.ofNat 8 (p.batch / 256), BitVec.ofNat 8 p.batch, BitVec.ofNat 8 p.cls.val,
        BitVec.ofNat 8 p.count, BitVec.ofNat 8 p.target, 0, 0, 0, 0] := by
  simp only [stackData, h, wordOf_eq]
  rfl

theorem pocketData_some (q : PocketPiece) :
    pocketData (some q) = [1, BitVec.ofNat 8 (q.batch / 256), BitVec.ofNat 8 q.batch] := by
  rw [pocketData, wordOf_eq]
  rfl

theorem stackData_discharging {x : Stacker} {out : Outgoing} {pocket : Option PocketPiece}
    (h : x.state = .discharging out pocket) : stackData x =
      [2, BitVec.ofNat 8 (out.batch / 256), BitVec.ofNat 8 out.batch, BitVec.ofNat 8 out.cls.val,
        BitVec.ofNat 8 out.count, out.reason.code] ++ pocketData pocket ++
        [if x.timer = .expired then 1 else 0] := by
  simp only [stackData, h, wordOf_eq, flagByte, decide_eq_true_eq]
  rfl

theorem laneData_eq (ln : Lane) : laneData ln =
    [ln.state.code, BitVec.ofNat 8 ln.queue.length, BitVec.ofNat 8 ln.folder.queue.length] ++
      stackData ln.stacker ++
      [BitVec.ofNat 8 (ln.stacker.tally / 256), BitVec.ofNat 8 ln.stacker.tally] := by
  rw [laneData, wordOf_eq]
  rfl

/-- Settles O11: the codes by their tables, and the bytes by the layout of each message. -/
theorem reportsAndRepliesAreLaidOut : Obligations.ReportsAndRepliesAreLaidOut := by
  refine ⟨⟨rfl, rfl, rfl, rfl, rfl, rfl, rfl, rfl, rfl, rfl, rfl, rfl, fun _ => rfl, rfl, rfl, rfl,
    rfl⟩, Report.length_encode, fun tag l origin batch c o cause => ?_,
    fun tag l origin batch c lost cause => ?_, fun _ => rfl, Report.encode_stackDone,
    Report.encode_batchEnd, ?_, ⟨rfl, fun b => ?_⟩, stationData_eq, fun ln => ?_, ?_⟩
  · rw [Report.encode_sheetDone]
    cases origin <;> rfl
  · rw [Report.encode_sheetLost]
    cases origin <;> rfl
  · rintro r release entry rfl hentry
    rw [Record.summary_eq, Record.entryPosition_eq, ← hentry, Record.originClass]
    cases r.origin <;> rfl
  · rw [slotData_some]
    cases b.foldOverride <;> rfl
  · rw [laneData_eq]
    cases hstate : ln.stacker.state with
    | empty =>
      rw [stackData_empty hstate]
      rfl
    | building p =>
      rw [stackData_building hstate]
    | discharging out pocket =>
      rw [stackData_discharging hstate]
      cases pocket with
      | none => rfl
      | some q => rw [pocketData_some]
  · rintro a held rfl
    rfl

end Sys2Proof.Machine
end

section
/-!
PROOFS. Statements O30 and O60: what the RESET pin sets, and the invariants right after reset.
-/

namespace Sys2Proof.Machine

/-! ### The blocks at their reset values (R183) -/

/-- A lane at reset holds nothing of what it was but the raw inputs of its eyes. -/
theorem State.lane_resetBlocks_eq (s : State) (phase : ResetPhase) (l : LaneNo) :
    (s.resetBlocks phase).lane l =
      .atReset (if l = 0 then .halted else .closed) (if l = 0 then [0, 1, 2, 3] else [])
        ((s.lane l).eyes.map Eye.raw) := by
  fin_cases l <;> rfl

theorem State.eye_resetBlocks (s : State) (phase : ResetPhase) (l : LaneNo) (k : EyeNo) :
    (s.resetBlocks phase).eye l k = .settled (s.eye l k).raw := by
  rw [State.eye, State.lane_resetBlocks_eq, Lane.atReset, Quad.get_map, Quad.get_map]
  rfl

theorem State.classes_resetBlocks (s : State) (phase : ResetPhase) (c : ClassNo) :
    (s.resetBlocks phase).classes[c] = .unwritten :=
  Vector.getElem_replicate c.isLt

theorem Alarms.get_atReset (src : Source) : Alarms.atReset.latches.get src = .clear := by
  cases src
  case wrap l | jam l | stray l | stacker l => exact Quad.get_fill _ l
  case misfeed st => exact Quad.get_fill _ st
  all_goals rfl

/-- Settles O30: the blocks one by one, those of a lane, a station and a class by their reset
values. -/
theorem theResetPinSetsEveryBlock : Obligations.TheResetPinSetsEveryBlock := by
  intro s
  refine ⟨s.resetBlocks .held, rfl, rfl, rfl, rfl, rfl, rfl, rfl, rfl, s.classes_resetBlocks .held,
    rfl, rfl, rfl, s.station_resetBlocks .held, fun l => ?_, rfl, rfl, rfl, rfl, rfl, rfl, rfl,
    Alarms.get_atReset, rfl, rfl, rfl, rfl, rfl, rfl, rfl, rfl, rfl, rfl, rfl, rfl, rfl, rfl⟩
  have heyes : ∀ k, ((s.resetBlocks .held).eye l k).raw = (s.eye l k).raw ∧
      ((s.resetBlocks .held).eye l k).pending = none := fun k => by
    rw [State.eye_resetBlocks]
    exact ⟨rfl, rfl⟩
  rw [State.queue, State.lane_resetBlocks_eq]
  exact ⟨rfl, rfl, rfl, rfl, rfl, rfl, rfl, rfl, heyes⟩

/-! ### Right after reset -/

theorem Station.sound_atReset : Station.atReset.Sound := by decide

theorem State.station_reset (st : StationNo) : State.reset.station st = .atReset :=
  State.reset.station_resetBlocks .running st

theorem State.lane_reset (l : LaneNo) : State.reset.lane l =
    .atReset (if l = 0 then .halted else .closed) (if l = 0 then [0, 1, 2, 3] else [])
      ((State.reset.lane l).eyes.map Eye.raw) :=
  State.reset.lane_resetBlocks_eq .running l

theorem State.queue_reset (l : LaneNo) : State.reset.queue l = [] :=
  State.reset.queue_resetBlocks .running l

/-- Settles O60: empty queues, empty slots and clear latches ask for little, and each block's reset
values are sound; what is left is a finite check of the one state. -/
theorem resetMeetsEveryInvariant : Obligations.ResetMeetsEveryInvariant := by
  have halarms : State.reset.AlarmsSound := by
    refine ⟨fun src _ => ?_, rfl⟩
    rw [show State.reset.alarms.latches.get src = .clear from Alarms.get_atReset src]
    exact Latch.sound_clear
  have hstations : State.reset.StationsSound := fun st => by
    rw [State.station_reset]
    exact Station.sound_atReset
  have hfit : State.reset.FitSound := fun st => by
    rw [State.station_reset]
    exact ⟨nofun, nofun⟩
  have hfolders : State.reset.FoldersSound := fun l => by
    rw [State.lane_reset]
    exact Folder.sound_atReset
  have hstackers : State.reset.StackersSound := fun l => by
    rw [State.lane_reset]
    exact Stacker.sound_atReset
  have hclasses : State.reset.ClassesSound := fun c => by
    rw [show State.reset.classes[c] = .unwritten from State.reset.classes_resetBlocks .running c]
    exact ClassEntry.inRange_unwritten
  have hpiles : State.reset.PilesSound := fun l => by
    rw [State.lane_reset]
    rfl
  have hdeadlines : State.reset.DeadlinesAhead := fun l r hr => by
    rw [State.queue_reset] at hr
    cases hr
  exact ⟨⟨rfl, rfl, rfl⟩, halarms, Nat.zero_le _, by decide,
    State.reset.grantsSound_resetBlocks .running, hstations, nofun, hfit, by decide, by decide,
    ⟨nofun, nofun⟩, hfolders, hstackers, fun h => absurd rfl h, hclasses, hpiles, by decide,
    by decide, by decide, by decide, by decide, hdeadlines⟩

end Sys2Proof.Machine
end
